-- ==== Sys2Proof/Word.lean ====
section
/-! DEFINITION. The word types of the model and their plainest arithmetic. -/

namespace Sys2Proof

/-- One byte of a packet, a record or a memory (00 R11). -/
abbrev Byte := BitVec 8

/-- The 8-byte slot in which every numeric dictionary entry is held, extended as 00 R9 says (02 R47). -/
abbrev Slot := BitVec 64

/-- A sparse table: pairs of a key and a value, keys strictly rising, no value equal to the table's default. -/
abbrev Tbl (α : Type) := List (Nat × α)

/-- 2 to the power of n. -/
def pow2 (n : Nat) : Nat := 2 ^ n

/-- Division rounded up; 0 for a divisor of 0. -/
def ceilDiv (a b : Nat) : Nat := if b = 0 then 0 else (a + b - 1) / b

end Sys2Proof
end

