-- ==== Sys2Proof/Syntax.lean ====
section
/-! DEFINITION. The commands of the block: one constructor of `Instr` per row of spec/opcode_table.json, with the
operands the rules give the step. Instance numbers are bounded by their types; byte strings carry packets whole, so
that their check sums are checked by the machine. -/

namespace Sys2Proof

/-- The source of a dictionary operation (02 R39). -/
inductive Source where
  | processor
  | host
  | session (n : Fin 16)
  deriving DecidableEq, Repr

/-- The peer of a JFP datagram or frame: field port, IPv4 address and UDP port (11 R324, R339). -/
structure Peer where
  port : Fin 4
  ip   : Nat
  udp  : Nat
  deriving DecidableEq, Repr

/-- What a gPTP Announce message states of its grandmaster, in the order the BMCA compares (11 R320). -/
structure Announce where
  priority1    : Nat
  clockQuality : Nat
  priority2    : Nat
  gmIdentity   : Nat
  stepsRemoved : Nat
  deriving DecidableEq, Repr

/-- The outcome of the SECDED check of a 64-byte unit (12 R360). -/
inductive EccOutcome where
  | none
  | single
  | double
  deriving DecidableEq, Repr

/-- Which PCIe-side event resets the link (14 R431). -/
inductive LinkReset where
  | perstN
  | hotReset
  | linkDown
  deriving DecidableEq, Repr

/-- One reading of a regulator over PMBus; `none` when three attempts drew no answer (13 R405, R408). -/
structure RegReading where
  vout   : Nat
  iout   : Nat
  status : Nat
  temp   : Int
  deriving DecidableEq, Repr

/-- The commands, one constructor per row of the table, in the table's order. -/
inductive Instr where
  /-- Supplies become valid (01 R24); `resetHigh` is the level of SYS_RESET_N, `bootMode` BOOT_MODE[2:0]. -/
  | suppliesValid (resetHigh : Bool) (bootMode : BitVec 3)
  | supplyLoss
  | sysResetAssert
  | sysResetRelease (bootMode : BitVec 3)
  /-- A slot is read and verified (15 R434): its header and body as read, or a read error. -/
  | slotVerifyComplete (readError : Bool) (header body : List Byte)
  | initComplete
  /-- INIT fails in block `unit` at step `step` of 15 R436; `device` is the GDDR6 device whose training failed. -/
  | initFail (unit step : Nat) (device : Option (Fin 12))
  | stateRequestRun (src : Source)
  /-- `pfailHigh` is the level of PFAIL_N at the request (01 R24). -/
  | stateRequestReady (src : Source) (pfailHigh : Bool)
  | stateRequestSafe (src : Source)
  | runDrainComplete
  /-- A failure stops the pixel path (15 R454): its trouble code (15 R441) and unit. -/
  | faultEntry (cause : BitVec 16) (unit : BitVec 16)
  | autoResume
  | pfail
  | saveCommand (src : Source) (value : Slot)
  /-- The image write ends; `writeOk` is false when an MRAM word failed (15 R439) at MRAM offset `at_`. -/
  | saveComplete (writeOk : Bool) (at_ : Nat)
  | restoreImage (src : Source)
  | restoreDefaults (src : Source)
  /-- A write of `size` bytes to index:sub (02 R34, R48). -/
  | dictWrite (src : Source) (index : BitVec 16) (sub : BitVec 8) (size : Nat) (value : Slot)
  /-- A read of an RC entry; `size` bytes at byte offset `ofs` of its slot (02 R48). -/
  | rcRead (src : Source) (index : BitVec 16) (sub : BitVec 8) (size ofs : Nat)
  | shadowHold (src : Source) (value : Slot)
  | shadowHoldLimit
  | effectiveQuery (src : Source) (target : BitVec 32)
  | claimRange (src : Source) (n : BitVec 8)
  | releaseRange (src : Source) (n : BitVec 8)
  | breakRange (src : Source) (n : BitVec 8)
  | reclaimToken (src : Source) (token : BitVec 32)
  | claimHoldExpiry (n : Fin 16)
  | journalReadSeq (src : Source) (seq : Slot)
  | segStart (src : Source)
  | segAbort (src : Source)
  | segStepDownload (src : Source) (n : BitVec 16)
  | segStepUpload (src : Source) (n : BitVec 16)
  | segTimeout (src : Source)
  | stripTick
  | forcedTick
  | deferredTick
  | opChangeComplete
  | pmbSettle
  | stripComplete
  /-- A due check strip of pipeline p ran; `crcOk` tells whether its CRC equals the ROM value (15 R453). -/
  | pipelineCheck (p : Fin 8) (crcOk : Bool)
  | tableLoadComplete (port : Fin 16)
  | laneCdrLock (lane : Fin 64)
  | laneNoSignal (lane : Fin 64)
  | blockLock (lane : Fin 64)
  | blockSlip (lane : Fin 64)
  /-- A marker block of 8 bytes arrives; `bip` is the BIP-8 computed over the blocks received (04 R104). -/
  | alignmentMarker (lane : Fin 64) (block : List Byte) (bip : Byte)
  | markerTimeout (lane : Fin 64)
  /-- A bound lane leaves LOCKED; `byHeaders` when 16 invalid headers within 64 were the cause (04 R109). -/
  | laneLost (lane : Fin 64) (byHeaders : Bool)
  | portDeskew (port : Fin 16) (skewNs : Nat)
  | deskewRetry (port : Fin 16)
  | camSilentTimeout (port : Fin 16)
  | portPowerL0 (src : Source) (port : Fin 16)
  | portPowerL1 (src : Source) (port : Fin 16)
  | portPowerL2 (src : Source) (port : Fin 16)
  | portPowerUpComplete (port : Fin 16)
  /-- A packet of `length` bytes starts on the port (04 R123, R124). -/
  | packetStart (port : Fin 16) (length : Nat)
  /-- The 32-byte header of the line packet in reception (04 R113). -/
  | linePacketHeader (port : Fin 16) (header : List Byte)
  /-- The rest of the line packet in reception: payload with padding, then PAY_CRC; `framingOk` is false where the
  block stream broke the framing rules (04 R111). -/
  | linePacketEnd (port : Fin 16) (payload : List Byte) (payCrc : BitVec 32) (framingOk : Bool)
  | statusPacket (port : Fin 16) (packet : List Byte)
  | tunnelRequest (src : Source) (port : Fin 16) (payload : List Byte)
  | tunnelResponse (port : Fin 16) (packet : List Byte)
  | tunnelTimeout (port : Fin 16)
  | creditPacket (port : Fin 16)
  | creditPacketPeriodic (port : Fin 16)
  | timeBeacon (port : Fin 16)
  /-- The oldest Narrows cycle with an event at line-trigger generator `port` is taken (04 R128, 10 R292). -/
  | lineTrigger (port : Fin 16)
  | ledgerEntryTimeout (port : Fin 16) (seq : BitVec 32)
  | ledgerReadSeq (src : Source) (port : Fin 16) (seq : BitVec 32)
  | planeProcess (p : Fin 8)
  | planeMissingTimeout (port : Fin 16)
  | cameraLineArrival (port : Fin 16)
  | missingLineReport (port : Fin 16)
  | portWaitExpired (port : Fin 16)
  | worldLineForm
  | reefLine
  | reefResume
  | colModelClear (src : Source) (value : Slot)
  | refStoreWriteData (src : Source) (data : List Byte)
  | pieceStart
  | pieceEndEvent
  | atollLine
  | atollResume
  | chipCut
  /-- A unit of stream `stream` with the given bytes arrives at the staging share of `toEngine` or of the host. -/
  | stagingUnit (stream : Fin 8) (toEngine : Bool)
  | recordBatchSend (emitter : Bool)
  | recordBatchTimeout (emitter : Bool)
  /-- Engine e takes its next unit or job; `hostSrc` is the source of a job that lies in host memory and `desc` the
  job descriptor where the job ring lies in host memory. -/
  | compressionUnitStart (e : Fin 8) (desc hostSrc : List Byte)
  /-- Engine e's output buffer fills; `desc` is the next buffer descriptor where the ring lies in host memory. -/
  | compressionBufferFull (e : Fin 8) (desc : List Byte)
  | bufProducer (src : Source) (e : Fin 8) (value : Slot)
  | jobProducer (src : Source) (e : Fin 8) (value : Slot)
  | chainDeadline (e : Fin 8)
  | compressionUnitEnd (e : Fin 8)
  | fallbackComplete (e : Fin 8)
  | fallbackDeadline (e : Fin 8)
  | compressionBusError (e : Fin 8)
  /-- The filtered levels of ENC_A and ENC_B of channel c after this sample (10 R283). -/
  | encoderEdge (c : Fin 8) (a b : Bool)
  | encoderIndex (c : Fin 8)
  | compareTimeFire (u : Fin 48)
  | cmpArm (src : Source) (u : Fin 48) (value : Slot)
  | cmpArmEvent (u : Fin 48)
  /-- The oldest Narrows cycle with an event at trigger output o is taken (10 R292). -/
  | triggerOutputEvent (o : Fin 32)
  | triggerPulseStart (o : Fin 32)
  | triggerPulseEnd (o : Fin 32)
  /-- The filtered level of EVI[i] at the pin changes to `level` (10 R302). -/
  | eventInputEdge (input : Fin 16) (level : Bool)
  /-- The oldest Narrows cycle with an event on channel k crosses to the channel's consumer (10 R301, R305). -/
  | narrowsHop (k : Fin 256)
  | narrowsGuardInterval
  | encIllegalInterval
  | inject (src : Source) (k : Slot)
  | motionRawSample (c : Fin 8)
  | motionOutput (c : Fin 8)
  | wUpdate
  | wSelect (src : Source) (value : Slot)
  | domOffset (src : Source) (d : Fin 4) (value : Slot)
  | domRate (src : Source) (d : Fin 4) (value : Slot)
  /-- A Sync with its follow-up gives the master's time, in ns with 16 fractional bits, at ingress (11 R320). -/
  | ptpSync (inst : Fin 2) (port : Fin 4) (masterTime : Int)
  | ptpAnnounce (inst : Fin 2) (port : Fin 4) (msg : Announce)
  | ptpSyncTimeout (inst : Fin 2)
  | ptpSyncTransmit (inst : Fin 2)
  | ptpPdelay (port : Fin 4) (delayNs : Nat) (capable : Bool)
  | fieldLinkChange (port : Fin 4) (up : Bool)
  | preemptVerify (port : Fin 4)
  | arpRequest (port : Fin 4) (senderMac senderIp targetIp : Nat)
  | icmpEcho (peer : Peer) (targetIp : Nat) (body : List Byte)
  | frameDiscard (port : Fin 4)
  | sessionOpen (peer : Peer) (datagram : List Byte)
  | dictRead (peer : Peer) (datagram : List Byte)
  | dictWriteJfp (peer : Peer) (datagram : List Byte)
  | retransmission (peer : Peer) (datagram : List Byte)
  | segInitDownload (peer : Peer) (datagram : List Byte)
  | segInitUpload (peer : Peer) (datagram : List Byte)
  | segInitAbort (peer : Peer) (datagram : List Byte)
  | segDataDownload (peer : Peer) (datagram : List Byte)
  | segDataRequest (peer : Peer) (datagram : List Byte)
  | sessionTimeout (n : Fin 16)
  | sessionClose (src : Source) (value : Slot)
  | cyclicOut (k : Fin 1024)
  | nodeProbe (k : Fin 1024)
  | cyclicIn (peer : Peer) (datagram : List Byte)
  | nodeAck (peer : Peer) (datagram : List Byte)
  | nodeAckDeadline (k : Fin 1024) (cmdId : BitVec 32)
  | eventNotify (peer : Peer) (datagram : List Byte)
  | class7Launch (port : Fin 4)
  | markRepredict
  | markCommit (k : Fin 1024) (cmdId : BitVec 32)
  | markHoldTimeout (k : Fin 1024) (cmdId : BitVec 32)
  | nodeCmdWrite (src : Source) (k : Fin 1024) (data : List Byte)
  | keyLoad (src : Source) (data : List Byte)
  | keyErase (src : Source) (value : Slot)
  /-- One access of a 64-byte unit at local address `unit`·64 by controller port `port`: `write` carries byte offset
  and data; `bank` and `row` are where the unit lies in its channel; `edcFails` bursts fail before one passes. -/
  | g6Access (port : Fin 8) (unit : Nat) (write : Option (Nat × List Byte)) (bank row : Nat) (edcFails : Nat)
      (ecc : EccOutcome)
  /-- The temperature reading of device j in °C; `none` when the read failed; `answered` is false when the device did
  not answer within 10 µs (12 R362, R366). -/
  | g6TempRead (j : Fin 12) (celsius : Option Int) (answered : Bool)
  | refreshInterval (ch : Fin 24) (idle : Bool)
  | refreshWindowEnd (ch : Fin 24)
  | rowIdleClose (ch : Fin 24) (bank : Nat)
  | ferryStart (src : Source) (ch : Fin 32)
  | ferryAbort (src : Source) (ch : Fin 32)
  /-- The descriptor of channel ch arrives: `hostBytes` where it lies in host memory; `failed` when the read drew no
  valid completion. -/
  | ferryFetchComplete (ch : Fin 32) (hostBytes : List Byte) (failed : Bool)
  | ferryBurstIssue
  /-- The oldest burst of channel ch completes: `srcHost` and `dstHost` are the bytes read from host memory. -/
  | ferryBurstComplete (ch : Fin 32) (srcHost dstHost : List Byte)
  | ferryDescriptorEnd (ch : Fin 32)
  | ferryGrant (ch : Fin 32)
  | ferryCompletionTimeout (ch : Fin 32)
  | hostRingConsumer (src : Source) (st : Fin 8) (value : Slot)
  | hmSourceEvent (n : Fin 768)
  | hmModExpiry (t : Fin 2)
  | hbClaim (t : Fin 6)
  | hbEoi (t : Fin 6) (value : BitVec 32)
  | hmHostAttach (src : Source) (value : Slot)
  /-- The mask of one vector clears, or (`none`) Function Mask, with MSI-X Enable set (14 R427; log entry 12). -/
  | msixUnmask (vector : Option (Fin 64))
  | perst (kind : LinkReset)
  | flr
  /-- The function enters D3hot; `pmeEn` is PME_En as the host writes it (14 R428). -/
  | d3hotEntry (pmeEn : Bool)
  | d0Return
  | pcieLinkUp (width speed : BitVec 4)
  | hbBar2Base (value : Slot)
  | bar2Read (offset length : Nat) (starved : Bool)
  | bar2Write (offset : Nat) (data : List Byte)
  | hbRingCons (st : Fin 8) (value : Slot)
  /-- A write of a compression ring index mirror; `reg` is the register's place in 14 R423. -/
  | hbCompIdx (e : Fin 8) (reg : Fin 6) (value : BitVec 32)
  | hbFerryDbStart (ch : Fin 32) (addr : Slot)
  | hbFerryDbAbort (ch : Fin 32)
  | hbBadAccess
  | heldWritesApply
  | coreHeartbeatMiss (core : Fin 4)
  | coreRestartComplete (core : Fin 4)
  /-- The 16 sensors as s8.8 °C (13 R409). -/
  | thermConversion (temps : List Int)
  /-- The readings of the eight regulators; `none` where three attempts drew no answer (13 R405). -/
  | regulatorPoll (readings : List (Option RegReading))
  /-- `status` is the alerting regulator's STATUS_WORD; `none` when three attempts drew no answer (13 R408). -/
  | pmbAlert (r : Fin 8) (status : Option (BitVec 16))
  /-- The critical-path monitors ask for a move of the running point's trim, in mV (13 R406). -/
  | avsTrimUpdate (mv : Int)
  /-- The power of the four monitors in mW over the last microsecond (13 R410). -/
  | energySample (mw : List Nat)
  | recFlush (src : Source) (value : Slot)
  | recorderFlushTimer
  /-- The flush ends; `failed` are the ring slots whose write failed under 15 R439. -/
  | recorderFlushComplete (failed : List Nat)
  | recReadIndex (src : Source) (index : BitVec 32)
  | troubleReadSeq (src : Source) (seq : Slot)
  | operatingSecondsSave
  /-- A calibration request; `refclkPpb` and `vrefOk` are what the reference checks measure (15 R450). -/
  | calRequest (src : Source) (banks : Slot) (refclkPpb : Int) (vrefOk : Bool)
  /-- The bank in work ends with a measured trim per unit, `none` where it is out of the converter's range. -/
  | calBankComplete (trims : List (Option Nat))
  | trimApply (o : Fin 32)
  | calRestoreFactory (src : Source) (value : Slot)
  | selftestMemoryBist (src : Source) (devmask : BitVec 12)
  | selftestLaneLoopback (src : Source) (unit : BitVec 8)
  | selftestGoldenVectors (src : Source) (unit : BitVec 8)
  | selftestComplete (pass : Bool) (detail : Slot)
  | lrefLoss (b : Bool)
  | lrefSwitchComplete
  | lrefBothLost
  | ptpAnnounceTimeout (inst : Fin 2)
  | hmLevelFall (n : Fin 768)
  | busMasterEnableWrite (value : Bool)
  | lrefReturn (b : Bool)
  deriving DecidableEq, Repr

end Sys2Proof
end

