-- ==== Sys2Proof/Machine/Operands.lean ====
section
/-! DEFINITION. Operand forms: bit fields, byte orders, two's complement, and rounding (00 R8–R12). -/

namespace Sys2Proof.Machine

/-- The bits lo to lo + width − 1 of n. -/
def bitsAt (n lo width : Nat) : Nat := n / pow2 lo % pow2 width

/-- Bit i of n. -/
def bitAt (n i : Nat) : Bool := n / pow2 i % 2 = 1

/-- n with bit i set or cleared. -/
def setBit (n i : Nat) (b : Bool) : Nat :=
  if bitAt n i = b then n else if b then n + pow2 i else n - pow2 i

/-- A Bool as a bit. -/
def bit (b : Bool) : Nat := if b then 1 else 0

/-- n read as a two's complement number of w bits. -/
def ofTwos (w n : Nat) : Int :=
  let m := n % pow2 w
  if m < pow2 (w - 1) then (m : Int) else (m : Int) - (pow2 w : Int)

/-- i in two's complement of w bits. -/
def toTwos (w : Nat) (i : Int) : Nat := (i % (pow2 w : Int)).toNat

/-- The k low bytes of n, least significant first (00 R11). -/
def leBytes : Nat → Nat → List Byte
  | 0, _ => []
  | k + 1, n => BitVec.ofNat 8 n :: leBytes k (n / 256)

/-- The number a little-endian byte string holds (00 R11). -/
def ofLe : List Byte → Nat
  | [] => 0
  | b :: bs => b.toNat + 256 * ofLe bs

/-- The k low bytes of n, most significant first. -/
def beBytes (k n : Nat) : List Byte := (leBytes k n).reverse

/-- The number a big-endian byte string holds. -/
def ofBe (bs : List Byte) : Nat := ofLe bs.reverse

/-- The little-endian field of `size` bytes at offset `ofs` of a packet or record. -/
def fieldAt (bs : List Byte) (ofs size : Nat) : Nat := ofLe ((bs.drop ofs).take size)

/-- `size` bytes at offset `ofs`. -/
def bytesAt (bs : List Byte) (ofs size : Nat) : List Byte := (bs.drop ofs).take size

/-- n zero bytes. -/
def zeros (n : Nat) : List Byte := List.replicate n 0

/-- A string of ASCII characters as bytes. -/
def asciiBytes (t : String) : List Byte := t.toList.map fun c => BitVec.ofNat 8 c.toNat

/-- Division rounded to nearest, ties away from zero (00 R10). -/
def divRound (a : Int) (b : Nat) : Int :=
  if b = 0 then 0
  else if 0 ≤ a then ((2 * a + b) / (2 * b : Int)) else -((2 * (-a) + b) / (2 * b : Int))

/-- Limit a number to lo to hi. -/
def clampInt (lo hi v : Int) : Int := if v < lo then lo else if hi < v then hi else v

/-- Saturation at the limits of an unsigned format of w bits (00 R10). -/
def satU (w : Nat) (v : Int) : Nat := (clampInt 0 ((pow2 w : Int) - 1) v).toNat

/-- Saturation at the limits of a signed format of w bits (00 R10). -/
def satS (w : Nat) (v : Int) : Int := clampInt (-(pow2 (w - 1) : Int)) ((pow2 (w - 1) : Int) - 1) v

/-- The whole square root, by bisection over the bits. -/
def isqrtGo : Nat → Nat → Nat → Nat
  | 0, r, _ => r
  | k + 1, r, n => let c := r + pow2 k; isqrtGo k (if c * c ≤ n then c else r) n

/-- The largest r of at most 64 bits with r² ≤ n. -/
def isqrt (n : Nat) : Nat := isqrtGo 64 0 n

/-- The place of the first element that meets p. -/
def indexOf? {α : Type} (p : α → Bool) : List α → Option Nat
  | [] => none
  | x :: xs => if p x then some 0 else (indexOf? p xs).map (· + 1)

/-- The list cut into pieces of n elements (with fuel). -/
def chunksGo {α : Type} (n : Nat) : Nat → List α → List (List α)
  | 0, _ => []
  | f + 1, xs => if xs.isEmpty then [] else xs.take n :: chunksGo n f (xs.drop n)

/-- The list cut into pieces of n elements. -/
def chunks {α : Type} (n : Nat) (xs : List α) : List (List α) := chunksGo n xs.length xs

/-- The sum of a list. -/
def sumNat (xs : List Nat) : Nat := xs.foldl (· + ·) 0

/-- Whether two lists share no element. -/
def allDistinct : List Nat → Bool
  | [] => true
  | x :: xs => !xs.contains x && allDistinct xs

end Sys2Proof.Machine
end

