-- ==== Sys2Proof/Machine/Float32.lean ====
section
/-! DEFINITION. Single-precision numbers as bit patterns: exact values, rounding to nearest even, comparison (00 R8, 08 R241). -/

namespace Sys2Proof.Machine

/-- Whether a pattern is a NaN. -/
def f32Nan (b : Nat) : Bool := bitsAt b 23 8 = 255 && bitsAt b 0 23 ≠ 0

/-- The value of a pattern times 2^149; an infinity counts as 2^128. -/
def f32Scaled (b : Nat) : Int :=
  let e := bitsAt b 23 8
  let m := if e = 0 then bitsAt b 0 23 else pow2 23 + bitsAt b 0 23
  let v : Int := m * pow2 (max e 1 - 1)
  if bitAt b 31 then -v else v

/-- a ≤ b on patterns; false with a NaN. -/
def f32Le (a b : Nat) : Bool := !f32Nan a && !f32Nan b && f32Scaled a ≤ f32Scaled b

/-- The quotient of num by den rounded to nearest, ties to even. -/
def roundEven (num den : Nat) : Nat :=
  let q := num / den
  let r := 2 * (num % den)
  if den < r || (r = den && q % 2 = 1) then q + 1 else q

/-- num × 2^e as a pair of naturals over a denominator. -/
def scale2 (num den : Nat) (e : Int) : Nat × Nat :=
  if 0 ≤ e then (num * pow2 e.toNat, den) else (num, den * pow2 (-e).toNat)

/-- num / den × 2^e rounded to the nearest single, ties to even; beyond the largest, infinity. -/
def f32OfRat (num den : Nat) (e : Int) : Nat :=
  if num = 0 || den = 0 then 0
  else
    let k0 : Int := (Nat.log2 num : Int) - Nat.log2 den + e - 23
    let small := fun (k : Int) => let p := scale2 num den (e - k); p.1 / p.2 < pow2 23
    let k := max (if small k0 then k0 - 1 else k0) (-149)
    let p := scale2 num den (e - k)
    let q := roundEven p.1 p.2
    let r : Nat × Int := if q = pow2 24 then (pow2 23, k + 1) else (q, k)
    if r.1 < pow2 23 then r.1
    else if 105 ≤ r.2 then 0x7F800000
    else (r.2 + 150).toNat * pow2 23 + (r.1 - pow2 23)

end Sys2Proof.Machine
end

