-- ==== Sys2Proof/Machine/Kernels.lean ====
section
/-! DEFINITION. The kernel ROM of Causeway and the output streams (06 R174, R175) and the sample it gives (06 R173). -/

namespace Sys2Proof.Machine

/-- Taps of a kernel (06 R174). -/
def kernelTaps (k : Nat) : Nat := [2, 2, 4, 6, 2, 4, 8, 16, 32, 64, 4, 8, 16, 32, 64, 128].getD k 2

/-- The lowest tap offset of a kernel (06 R174). -/
def kernelMin (k : Nat) : Int := 1 - ((kernelTaps k : Int) / 2)

/-- Phases 0 to 7 of the windowed sinc, rounded to s2.14 before the residue is placed (06 R174, R175). -/
def sincPart0 : List (List Int) :=
  [[0, 0, 16384, 0, 0, 0],
   [52, -207, 16377, 216, -54, 0],
   [100, -405, 16355, 442, -111, 2],
   [147, -593, 16318, 676, -170, 4],
   [190, -772, 16267, 919, -232, 7],
   [230, -941, 16202, 1171, -296, 12],
   [268, -1101, 16122, 1431, -362, 17],
   [303, -1251, 16028, 1699, -431, 23]]

/-- Phases 8 to 15 of the windowed sinc, rounded to s2.14 before the residue is placed (06 R174, R175). -/
def sincPart1 : List (List Int) :=
  [[335, -1391, 15921, 1975, -501, 30],
   [364, -1522, 15799, 2258, -573, 38],
   [390, -1643, 15664, 2549, -646, 47],
   [414, -1755, 15515, 2847, -721, 57],
   [435, -1858, 15354, 3151, -798, 68],
   [453, -1951, 15179, 3462, -875, 80],
   [468, -2035, 14993, 3778, -953, 93],
   [481, -2111, 14794, 4100, -1032, 106]]

/-- Phases 16 to 23 of the windowed sinc, rounded to s2.14 before the residue is placed (06 R174, R175). -/
def sincPart2 : List (List Int) :=
  [[492, -2177, 14583, 4427, -1111, 121],
   [500, -2235, 14361, 4758, -1190, 136],
   [506, -2284, 14128, 5094, -1269, 151],
   [509, -2325, 13884, 5434, -1348, 167],
   [511, -2358, 13630, 5776, -1426, 184],
   [510, -2383, 13366, 6122, -1504, 202],
   [507, -2400, 13093, 6470, -1580, 219],
   [503, -2410, 12811, 6819, -1654, 237]]

/-- Phases 24 to 31 of the windowed sinc, rounded to s2.14 before the residue is placed (06 R174, R175). -/
def sincPart3 : List (List Int) :=
  [[497, -2413, 12521, 7170, -1728, 256],
   [489, -2409, 12223, 7522, -1799, 274],
   [479, -2398, 11917, 7874, -1867, 292],
   [469, -2381, 11605, 8226, -1933, 311],
   [457, -2359, 11287, 8576, -1996, 329],
   [444, -2330, 10962, 8926, -2056, 347],
   [429, -2296, 10633, 9273, -2113, 365],
   [414, -2257, 10299, 9618, -2165, 382]]

/-- Phases 32 to 39 of the windowed sinc, rounded to s2.14 before the residue is placed (06 R174, R175). -/
def sincPart4 : List (List Int) :=
  [[398, -2213, 9960, 9960, -2213, 398],
   [382, -2165, 9618, 10299, -2257, 414],
   [365, -2113, 9273, 10633, -2296, 429],
   [347, -2056, 8926, 10962, -2330, 444],
   [329, -1996, 8576, 11287, -2359, 457],
   [311, -1933, 8226, 11605, -2381, 469],
   [292, -1867, 7874, 11917, -2398, 479],
   [274, -1799, 7522, 12223, -2409, 489]]

/-- Phases 40 to 47 of the windowed sinc, rounded to s2.14 before the residue is placed (06 R174, R175). -/
def sincPart5 : List (List Int) :=
  [[256, -1728, 7170, 12521, -2413, 497],
   [237, -1654, 6819, 12811, -2410, 503],
   [219, -1580, 6470, 13093, -2400, 507],
   [202, -1504, 6122, 13366, -2383, 510],
   [184, -1426, 5776, 13630, -2358, 511],
   [167, -1348, 5434, 13884, -2325, 509],
   [151, -1269, 5094, 14128, -2284, 506],
   [136, -1190, 4758, 14361, -2235, 500]]

/-- Phases 48 to 55 of the windowed sinc, rounded to s2.14 before the residue is placed (06 R174, R175). -/
def sincPart6 : List (List Int) :=
  [[121, -1111, 4427, 14583, -2177, 492],
   [106, -1032, 4100, 14794, -2111, 481],
   [93, -953, 3778, 14993, -2035, 468],
   [80, -875, 3462, 15179, -1951, 453],
   [68, -798, 3151, 15354, -1858, 435],
   [57, -721, 2847, 15515, -1755, 414],
   [47, -646, 2549, 15664, -1643, 390],
   [38, -573, 2258, 15799, -1522, 364]]

/-- Phases 56 to 63 of the windowed sinc, rounded to s2.14 before the residue is placed (06 R174, R175). -/
def sincPart7 : List (List Int) :=
  [[30, -501, 1975, 15921, -1391, 335],
   [23, -431, 1699, 16028, -1251, 303],
   [17, -362, 1431, 16122, -1101, 268],
   [12, -296, 1171, 16202, -941, 230],
   [7, -232, 919, 16267, -772, 190],
   [4, -170, 676, 16318, -593, 147],
   [2, -111, 442, 16355, -405, 100],
   [0, -54, 216, 16377, -207, 52]]

/-- The windowed sinc by phase (06 R174). -/
def sincRows : List (List Int) :=
  sincPart0 ++ sincPart1 ++ sincPart2 ++ sincPart3 ++ sincPart4 ++ sincPart5 ++ sincPart6 ++ sincPart7

/-- The Keys cubic at t/64, rounded to s2.14 (06 R174). -/
def cubicCoef (t : Int) : Int :=
  let a : Int := t.natAbs
  if a ≤ 64 then divRound (3 * a * a * a - 320 * a * a + 524288) 32
  else if a < 128 then divRound (-(a * a * a) + 320 * a * a - 32768 * a + 1048576) 32
  else 0

/-- A box of width w at t/64 (06 R174). -/
def boxCoef (w t : Int) : Int := if -(32 * w) < t && t ≤ 32 * w then 16384 / w else 0

/-- A triangle of half width w at t/64, rounded to s2.14 (06 R174). -/
def triangleCoef (w t : Int) : Int :=
  let a : Int := t.natAbs
  if a < 64 * w then divRound (256 * (64 * w - a)) (w * w).toNat else 0

/-- The coefficient of tap i of kernel k at phase ph, before the residue is placed (06 R174, R175). -/
def kernelCoef (k ph : Nat) (i : Int) : Int :=
  let t := 64 * i - ph
  if k = 0 then boxCoef 1 t
  else if k = 1 then triangleCoef 1 t
  else if k = 2 then cubicCoef t
  else if k = 3 then (sincRows.getD ph []).getD (i + 2).toNat 0
  else if k < 10 then boxCoef (2 ^ (k - 3)) t
  else triangleCoef (2 ^ (k - 9)) t

/-- The place of the entry of largest magnitude, the first among equals. -/
def largestAt (xs : List Int) : Nat :=
  let m := xs.foldl (fun m x => max m x.natAbs) 0
  (indexOf? (fun x : Int => x.natAbs = m) xs).getD 0

/-- The coefficients of kernel k at phase ph, which sum to 16,384 (06 R175). -/
def kernelRow (k ph : Nat) : List Int :=
  let raw := (List.range (kernelTaps k)).map fun (j : Nat) => kernelCoef k ph (kernelMin k + j)
  let residue := 16384 - raw.foldl (· + ·) 0
  let at_ := largestAt raw
  raw.mapIdx fun j c => if j = at_ then c + residue else c

/-- The integer coordinate and the phase of a coordinate in 2^−16 (06 R173). -/
def kernelPhase (u : Int) : Int × Nat :=
  let ph := ((u % 65536).toNat + 512) / 1024
  if ph = 64 then (u / 65536 + 1, 0) else (u / 65536, ph)

/-- The weighted sum of samples, rounded and saturated (06 R173). -/
def kernelSum (coefs : List Int) (samples : List Nat) : Nat :=
  satU 16 (divRound ((coefs.zip samples).foldl (fun (acc : Int) p => acc + p.1 * p.2) 0) 16384)

end Sys2Proof.Machine
end

