-- ==== Sys2Proof/Config.lean ====
section
/-! DEFINITION. The free values: constants without a body, one for each value the spec leaves open. Where a fresh value
is wanted each time, the step applies the constant to `State.freeCount` and advances it (log entry 2). -/

namespace Sys2Proof

/-- A fresh number: an ownership token, a gPTP servo's choice, a counter past its type's range (log entries 2, 10, 11). -/
opaque Config.freeNat : Nat → Nat

/-- A fresh signed number (log entry 2). -/
opaque Config.freeInt : Nat → Int

/-- The byte at a place of the DEFLATE stream an engine encodes from an input, with fixed or dynamic tables and a depth
(09 R268 does not fix the codes; log entry 20). -/
opaque Config.encodedByte : List Byte → Bool → Nat → Nat → Byte

/-- The length of that DEFLATE stream (09 R268; log entry 20). -/
opaque Config.encodedLength : List Byte → Bool → Nat → Nat

/-- A pre-pass, or its undo, over rows that 09 R269 does not divide into samples: rows of no bytes, or of half a sample
(log entry 29). -/
opaque Config.oddRows : List Byte → Nat → Nat → Bool → List Byte

/-- A motion filter's output: response, raw samples up to the instant with their instants, and the instant, in 2^−32 nm
per counter ns (10 R298 gives it within 0.1 % of full scale; log entry 22). -/
opaque Config.motionFilter : Nat → List (Nat × Int) → Nat → Int

/-- Whether an ECDSA P-256 signature verifies over a message under Dullinar's public key in boot ROM (15 R434): the
key is not in the spec (log entry 21). -/
opaque Config.signatureOk : List Byte → List Byte → Bool

end Sys2Proof
end

