-- ==== Sys2Proof/Machine/EntryType.lean ====
section
/-! DEFINITION. What a dictionary entry carries: type, access right, default, range and persist flag (02 R31, R32, 00 R13),
and the checks of a value against type and range (02 R34). -/

namespace Sys2Proof.Machine

/-- The entry types of 02 R32. -/
inductive EntryType where
  | u8 | u16 | u32 | u64 | i16 | i32 | i64 | f32 | bool | time64 | str | domain
  deriving DecidableEq, Repr

/-- The access rights of 00 R13. -/
inductive Access where
  | ro | rw | rws | rwt | wo | rc
  deriving DecidableEq, Repr

/-- The Range column of an entry, apart from rules that tie entries together. -/
inductive Range where
  | any
  | between (lo hi : Int)
  /-- between lo and hi, or the one further value -/
  | betweenOr (lo hi other : Int)
  | oneOf (values : List Int)
  | multiple (lo hi m : Int)
  | multipleOr (lo hi m other : Int)
  | powerOfTwo (lo hi : Int)
  /-- no bit outside the mask (00 R12) -/
  | bits (mask : Nat)
  /-- a contiguous IPv4 netmask -/
  | netMask
  /-- a binary32 above 0 -/
  | f32Positive
  /-- ranges 1 and 3 to 23 (02 R55) -/
  | claimable
  /-- a producer code of 10 R302 or 0xFFFF -/
  | producer
  /-- a STR or DOMAIN length -/
  | bytes (lo hi : Nat)
  deriving DecidableEq, Repr

/-- One row of the spec's entry tables. -/
structure EntryRow where
  base    : Nat
  stride  : Nat
  count   : Nat
  sub     : Nat
  subs    : Nat
  ty      : EntryType
  access  : Access
  persist : Bool
  dflt    : Nat → Nat → Slot
  range   : Range

/-- The size in bytes of a numeric type; 0 for STR and DOMAIN (02 R32). -/
def EntryType.size : EntryType → Nat
  | .u8 | .bool => 1
  | .u16 | .i16 => 2
  | .u32 | .i32 | .f32 => 4
  | .u64 | .i64 | .time64 => 8
  | .str | .domain => 0

/-- Whether the type is two's complement (02 R32). -/
def EntryType.signed : EntryType → Bool
  | .i16 | .i32 | .i64 => true
  | _ => false

/-- Whether the type is a byte block (STR or DOMAIN). -/
def EntryType.block : EntryType → Bool
  | .str | .domain => true
  | _ => false

/-- A value as the range compares it: signed for signed types. -/
def EntryType.value (t : EntryType) (v : Slot) : Int := if t.signed then v.toInt else (v.toNat : Int)

/-- 00 R9 and 02 R32: the slot's upper bits match the extension of the type; BOOL is 0 or 1; F32 is finite. -/
def EntryType.fits (t : EntryType) (v : Slot) : Bool :=
  match t with
  | .u8 => v.toNat < pow2 8
  | .u16 => v.toNat < pow2 16
  | .u32 => v.toNat < pow2 32
  | .u64 | .time64 | .i64 => true
  | .i16 => -(pow2 15 : Int) ≤ v.toInt && v.toInt < (pow2 15 : Int)
  | .i32 => -(pow2 31 : Int) ≤ v.toInt && v.toInt < (pow2 31 : Int)
  | .bool => v.toNat < 2
  | .f32 => v.toNat < pow2 32 && (v.toNat / pow2 23) % 256 != 255
  | .str | .domain => false

/-- The producer codes of 10 R302. -/
def producerCode (v : Int) : Bool :=
  v = 65535 || (0 ≤ v && v ≤ 0xB2)

/-- Whether the complement of a 32-bit mask is a run of ones from bit 0. -/
def contiguousMask (v : Nat) : Bool := (List.range 33).any fun k => v = pow2 32 - pow2 k

/-- The Range column. -/
def Range.ok (r : Range) (v : Int) : Bool :=
  match r with
  | .any => true
  | .between lo hi => lo ≤ v && v ≤ hi
  | .betweenOr lo hi o => (lo ≤ v && v ≤ hi) || v = o
  | .oneOf vs => vs.contains v
  | .multiple lo hi m => lo ≤ v && v ≤ hi && v % m = 0
  | .multipleOr lo hi m o => (lo ≤ v && v ≤ hi && v % m = 0) || v = o
  | .powerOfTwo lo hi => lo ≤ v && v ≤ hi && ((List.range 64).any fun k => v = (pow2 k : Int))
  | .bits mask => 0 ≤ v && (v.toNat &&& mask) = v.toNat
  | .netMask => contiguousMask v.toNat
  | .f32Positive => 0 < v && v < (pow2 31 : Int)
  | .claimable => v = 1 || (3 ≤ v && v ≤ 23)
  | .producer => producerCode v
  | .bytes _ _ => false

end Sys2Proof.Machine
end

