-- ==== Sys2Proof/Machine/EntriesA.lean ====
section
/-! DEFINITION. The rows of the spec's entry tables, ranges 0 to 7 (02 R38): base index, stride and count of the repeated block,
first subindex and number of subindices, type, access, persistence, default by instance and subindex offset, range. -/

namespace Sys2Proof.Machine

/-- Entries of range 0, identity, part 1. -/
def identityRows1 : List EntryRow := [
  ⟨0x1000, 1, 1, 0x01, 1, .str, .ro, false, fun _ _ => 0, .any⟩,  -- VendorName, 02 R62
  ⟨0x1000, 1, 1, 0x02, 1, .str, .ro, false, fun _ _ => 0, .any⟩,  -- DeviceName, 02 R62
  ⟨0x1000, 1, 1, 0x03, 1, .u16, .ro, false, fun _ _ => 0x1f3c, .any⟩,  -- VendorId, 02 R62
  ⟨0x1000, 1, 1, 0x04, 1, .u16, .ro, false, fun _ _ => 0, .any⟩,  -- DeviceId, 02 R62
  ⟨0x1000, 1, 1, 0x05, 1, .u8, .ro, false, fun _ _ => 0xb1, .any⟩,  -- Stepping, 02 R62
  ⟨0x1000, 1, 1, 0x06, 1, .u8, .ro, false, fun _ _ => 0, .any⟩,  -- Grade, 02 R62
  ⟨0x1000, 1, 1, 0x07, 1, .u64, .ro, false, fun _ _ => 0, .any⟩,  -- SerialNumber, 02 R62
  ⟨0x1000, 1, 1, 0x08, 1, .u32, .ro, false, fun _ _ => 0, .any⟩,  -- FirmwareVersion, 02 R62
  ⟨0x1000, 1, 1, 0x09, 1, .u32, .ro, false, fun _ _ => 0, .any⟩,  -- BootRomVersion, 02 R62
  ⟨0x1000, 1, 1, 0x0A, 1, .u32, .ro, false, fun _ _ => 0, .any⟩,  -- DictVersion, 02 R62
  ⟨0x1000, 1, 1, 0x0B, 1, .u8, .ro, false, fun _ _ => 0, .any⟩,  -- PipelineCount, 02 R62
  ⟨0x1000, 1, 1, 0x0C, 1, .u8, .ro, false, fun _ _ => 0, .any⟩,  -- PortCount, 02 R62
  ⟨0x1000, 1, 1, 0x0D, 1, .u8, .ro, false, fun _ _ => 0, .any⟩,  -- LaneCount, 02 R62
  ⟨0x1000, 1, 1, 0x0E, 1, .u16, .ro, false, fun _ _ => 0, .any⟩ ]  -- EntryCount, 02 R62

/-- Every entry row of range 0, identity. -/
def identityRows : List EntryRow := identityRows1

/-- Entries of range 1, state, part 1. -/
def stateRows1 : List EntryRow := [
  ⟨0x1100, 1, 1, 0x01, 1, .u8, .wo, false, fun _ _ => 0, .oneOf [3, 4, 6]⟩,  -- StateRequest, 02 R62
  ⟨0x1100, 1, 1, 0x02, 1, .u8, .ro, false, fun _ _ => 0, .any⟩,  -- State, 02 R62
  ⟨0x1100, 1, 1, 0x03, 1, .u8, .ro, false, fun _ _ => 0, .any⟩,  -- RunSubState, 02 R62
  ⟨0x1100, 1, 1, 0x04, 1, .bool, .rws, true, fun _ _ => 1, .between 0 1⟩,  -- AutoResume, 02 R62
  ⟨0x1100, 1, 1, 0x05, 1, .u32, .ro, false, fun _ _ => 0, .any⟩,  -- CheckFailEntry, 02 R62
  ⟨0x1100, 1, 1, 0x06, 1, .u8, .ro, false, fun _ _ => 0, .any⟩,  -- CheckFailResult, 02 R62
  ⟨0x1101, 1, 1, 0x01, 1, .u64, .ro, false, fun _ _ => 0, .any⟩,  -- StripIndex, 02 R62
  ⟨0x1101, 1, 1, 0x02, 1, .u64, .ro, false, fun _ _ => 0, .any⟩,  -- WorldLine, 02 R62
  ⟨0x1101, 1, 1, 0x03, 1, .time64, .ro, false, fun _ _ => 0, .any⟩,  -- RunEntryTime, 02 R62
  ⟨0x1102, 1, 1, 0x01, 1, .u8, .ro, false, fun _ _ => 0, .any⟩,  -- HostLastResult, 02 R62
  ⟨0x1102, 1, 1, 0x02, 1, .u32, .ro, false, fun _ _ => 0, .any⟩,  -- HostLastTarget, 02 R62
  ⟨0x1102, 1, 1, 0x03, 1, .u64, .ro, false, fun _ _ => 0, .any⟩,  -- HostLastSeq, 02 R62
  ⟨0x1102, 1, 1, 0x04, 1, .u32, .rc, false, fun _ _ => 0, .any⟩,  -- HostRefusedCount, 02 R62
  ⟨0x1103, 1, 1, 0x01, 1, .u32, .rw, false, fun _ _ => 0, .any⟩,  -- EffectiveQuery, 02 R62
  ⟨0x1103, 1, 1, 0x02, 1, .u64, .ro, false, fun _ _ => 0, .any⟩,  -- EffectiveValue, 02 R62
  ⟨0x1103, 1, 1, 0x03, 1, .bool, .ro, false, fun _ _ => 0, .any⟩,  -- EffectivePending, 02 R62
  ⟨0x1104, 1, 1, 0x01, 1, .bool, .rw, false, fun _ _ => 0, .between 0 1⟩,  -- ShadowHold, 02 R62
  ⟨0x1104, 1, 1, 0x02, 1, .u32, .rw, true, fun _ _ => 0x100, .between 1 65536⟩,  -- ShadowHoldLimit, 02 R62
  ⟨0x1104, 1, 1, 0x03, 1, .u16, .ro, false, fun _ _ => 0, .any⟩,  -- PendingCount, 02 R62
  ⟨0x1110, 1, 1, 0x01, 1, .u8, .wo, false, fun _ _ => 0, .claimable⟩,  -- ClaimRange, 02 R62
  ⟨0x1110, 1, 1, 0x02, 1, .u8, .wo, false, fun _ _ => 0, .claimable⟩,  -- ReleaseRange, 02 R62
  ⟨0x1110, 1, 1, 0x03, 1, .u8, .wo, false, fun _ _ => 0, .claimable⟩,  -- BreakRange, 02 R62
  ⟨0x1110, 1, 1, 0x04, 1, .u32, .ro, false, fun _ _ => 0, .any⟩,  -- OwnToken, 02 R62
  ⟨0x1110, 1, 1, 0x05, 1, .u32, .wo, false, fun _ _ => 0, .between 1 4294967295⟩,  -- ReclaimToken, 02 R62
  ⟨0x1110, 1, 1, 0x06, 1, .u32, .rw, true, fun _ _ => 0x2710, .between 0 3600000⟩,  -- ClaimHoldTime, 02 R62
  ⟨0x1111, 1, 1, 0x01, 24, .u8, .ro, false, fun _ _ => 0xff, .any⟩ ]  -- RangeOwner, 02 R62

/-- Every entry row of range 1, state. -/
def stateRows : List EntryRow := stateRows1

/-- Entries of range 2, journal, part 1. -/
def journalRows1 : List EntryRow := [
  ⟨0x1200, 1, 1, 0x01, 1, .u64, .ro, false, fun _ _ => 0, .any⟩,  -- JournalHeadSeq, 02 R62
  ⟨0x1200, 1, 1, 0x02, 1, .u64, .ro, false, fun _ _ => 0, .any⟩,  -- JournalTailSeq, 02 R62
  ⟨0x1200, 1, 1, 0x03, 1, .u64, .rw, false, fun _ _ => 0, .any⟩,  -- JournalReadSeq, 02 R62
  ⟨0x1200, 1, 1, 0x04, 4, .u64, .ro, false, fun _ _ => 0, .any⟩,  -- JournalWord, 02 R62
  ⟨0x1200, 1, 1, 0x08, 1, .u8, .ro, false, fun _ _ => 0, .any⟩,  -- JournalReadResult, 02 R62
  ⟨0x1200, 1, 1, 0x09, 1, .u32, .ro, false, fun _ _ => 0, .any⟩ ]  -- JournalEpoch, 02 R62

/-- Every entry row of range 2, journal. -/
def journalRows : List EntryRow := journalRows1

/-- Entries of range 3, saveSegment, part 1. -/
def saveSegmentRows1 : List EntryRow := [
  ⟨0x1300, 1, 1, 0x01, 1, .u8, .wo, false, fun _ _ => 0, .between 1 1⟩,  -- SaveCommand, 02 R62
  ⟨0x1300, 1, 1, 0x02, 1, .u8, .wo, false, fun _ _ => 0, .between 1 2⟩,  -- RestoreCommand, 02 R62
  ⟨0x1300, 1, 1, 0x03, 1, .u8, .ro, false, fun _ _ => 0, .any⟩,  -- SaveStatus, 02 R62
  ⟨0x1300, 1, 1, 0x04, 1, .u32, .ro, false, fun _ _ => 0, .any⟩,  -- ImageGenA, 02 R62
  ⟨0x1300, 1, 1, 0x05, 1, .u32, .ro, false, fun _ _ => 0, .any⟩,  -- ImageGenB, 02 R62
  ⟨0x1300, 1, 1, 0x06, 1, .u8, .ro, false, fun _ _ => 0, .any⟩,  -- ImageValid, 02 R62
  ⟨0x1300, 1, 1, 0x07, 1, .u32, .ro, false, fun _ _ => 0, .any⟩,  -- ImageBytes, 02 R62
  ⟨0x1301, 1, 1, 0x01, 1, .u32, .rw, false, fun _ _ => 0, .any⟩,  -- SegTarget, 02 R62
  ⟨0x1301, 1, 1, 0x02, 1, .u8, .rw, false, fun _ _ => 1, .oneOf [1, 2]⟩,  -- SegMode, 02 R62
  ⟨0x1301, 1, 1, 0x03, 1, .u32, .rw, false, fun _ _ => 0, .between 1 65536⟩,  -- SegLength, 02 R62
  ⟨0x1301, 1, 1, 0x04, 1, .u32, .rw, false, fun _ _ => 0, .any⟩,  -- SegCrc, 02 R62
  ⟨0x1301, 1, 1, 0x05, 1, .u8, .wo, false, fun _ _ => 0, .oneOf [1, 2]⟩,  -- SegStart, 02 R62
  ⟨0x1301, 1, 1, 0x06, 1, .u32, .ro, false, fun _ _ => 0, .any⟩,  -- SegOffset, 02 R62
  ⟨0x1301, 1, 1, 0x07, 1, .u8, .ro, false, fun _ _ => 0, .any⟩,  -- SegStatus, 02 R62
  ⟨0x1301, 1, 1, 0x08, 1, .u8, .ro, false, fun _ _ => 0, .any⟩,  -- SegResult, 02 R62
  ⟨0x1301, 1, 1, 0x09, 1, .u32, .rw, true, fun _ _ => 0x3e8, .between 10 60000⟩,  -- SegTimeout, 02 R62
  ⟨0x1301, 1, 1, 0x0A, 1, .u16, .wo, false, fun _ _ => 0, .between 1 2040⟩,  -- SegStep, 02 R62
  ⟨0x1302, 1, 1, 0x01, 255, .u64, .rw, false, fun _ _ => 0, .any⟩ ]  -- SegData, 02 R62

/-- Every entry row of range 3, saveSegment. -/
def saveSegmentRows : List EntryRow := saveSegmentRows1

/-- Entries of range 4, ports, part 1. -/
def portsRows1 : List EntryRow := [
  ⟨0x2000, 0x100, 16, 0x01, 1, .bool, .rws, true, fun _ _ => 0, .between 0 1⟩,  -- PortEnable, 04 R137
  ⟨0x2000, 0x100, 16, 0x02, 1, .u8, .rws, true, fun _ _ => 4, .oneOf [1, 2, 4]⟩,  -- LaneCount, 04 R137
  ⟨0x2000, 0x100, 16, 0x03, 1, .u8, .rws, true, fun _ _ => 1, .oneOf [1, 2]⟩,  -- LaneRate, 04 R137
  ⟨0x2000, 0x100, 16, 0x04, 1, .u8, .rws, true, fun _ _ => 0, .bits 0xf⟩,  -- LanePolarity, 04 R137
  ⟨0x2000, 0x100, 16, 0x05, 1, .u8, .rw, true, fun _ _ => 0, .oneOf [0, 1, 2]⟩,  -- PortPowerRequest, 04 R137
  ⟨0x2000, 0x100, 16, 0x06, 1, .u8, .rws, true, fun _ _ => 1, .oneOf [0, 1]⟩,  -- TriggerMode, 04 R137
  ⟨0x2001, 0x100, 16, 0x01, 1, .u8, .ro, false, fun _ _ => 0, .any⟩,  -- PortState, 04 R137
  ⟨0x2001, 0x100, 16, 0x02, 1, .u16, .ro, false, fun _ _ => 0, .any⟩,  -- LaneStates, 04 R137
  ⟨0x2001, 0x100, 16, 0x03, 1, .u8, .ro, false, fun _ _ => 0, .any⟩,  -- LaneMap, 04 R137
  ⟨0x2001, 0x100, 16, 0x04, 1, .u16, .ro, false, fun _ _ => 0, .any⟩,  -- Skew, 04 R137
  ⟨0x2001, 0x100, 16, 0x05, 1, .u32, .rc, false, fun _ _ => 0, .any⟩,  -- LinkUpCount, 04 R137
  ⟨0x2001, 0x100, 16, 0x06, 1, .u32, .rc, false, fun _ _ => 0, .any⟩,  -- LinkDownCount, 04 R137
  ⟨0x2001, 0x100, 16, 0x07, 1, .u32, .rc, false, fun _ _ => 0, .any⟩,  -- BipErrors, 04 R137
  ⟨0x2001, 0x100, 16, 0x08, 1, .u32, .rc, false, fun _ _ => 0, .any⟩,  -- HeaderErrors, 04 R137
  ⟨0x2001, 0x100, 16, 0x09, 1, .u32, .rc, false, fun _ _ => 0, .any⟩,  -- MarkerErrors, 04 R137
  ⟨0x2002, 0x100, 16, 0x01, 1, .u32, .ro, false, fun _ _ => 0, .any⟩,  -- CreditLimit, 04 R137
  ⟨0x2002, 0x100, 16, 0x02, 1, .u32, .ro, false, fun _ _ => 0, .any⟩,  -- CreditsConsumed, 04 R137
  ⟨0x2002, 0x100, 16, 0x03, 1, .u32, .ro, false, fun _ _ => 0, .any⟩,  -- BufferFill, 04 R137
  ⟨0x2002, 0x100, 16, 0x04, 1, .u32, .rc, false, fun _ _ => 0, .any⟩,  -- BufferPeak, 04 R137
  ⟨0x2002, 0x100, 16, 0x05, 1, .u64, .rc, false, fun _ _ => 0, .any⟩,  -- CreditStallTime, 04 R137
  ⟨0x2002, 0x100, 16, 0x06, 1, .u32, .ro, false, fun _ _ => 0, .any⟩,  -- CamLinesHeld, 04 R137
  ⟨0x2002, 0x100, 16, 0x07, 1, .u32, .ro, false, fun _ _ => 0, .any⟩,  -- CamLinesDropped, 04 R137
  ⟨0x2002, 0x100, 16, 0x08, 1, .u16, .ro, false, fun _ _ => 0, .any⟩,  -- CamStatus, 04 R137
  ⟨0x2002, 0x100, 16, 0x09, 1, .i16, .ro, false, fun _ _ => 0, .any⟩,  -- CamTemperature, 04 R137
  ⟨0x2003, 0x100, 16, 0x01, 1, .u32, .rwt, true, fun _ _ => 0, .between 0 1000000⟩,  -- TrigOffset, 04 R137
  ⟨0x2003, 0x100, 16, 0x02, 1, .i32, .rwt, true, fun _ _ => 0, .between (-1000000) 1000000⟩,  -- CamTimeOffset, 04 R137
  ⟨0x2003, 0x100, 16, 0x03, 1, .u32, .rws, true, fun _ _ => 0x3e8, .between 100 100000⟩,  -- BeaconPeriod, 04 R137
  ⟨0x2003, 0x100, 16, 0x04, 1, .u32, .rw, true, fun _ _ => 0xa, .between 2 10000⟩,  -- CamSilentTimeout, 04 R137
  ⟨0x2003, 0x100, 16, 0x05, 1, .u32, .rwt, true, fun _ _ => 0x3e8, .between 10 1000000⟩,  -- TrigLineTimeout, 04 R137
  ⟨0x2003, 0x100, 16, 0x06, 1, .u32, .rc, false, fun _ _ => 0, .any⟩,  -- TriggerMergedCount, 04 R137
  ⟨0x2004, 0x100, 16, 0x01, 1, .u8, .rws, true, fun _ _ => 3, .oneOf [1, 2, 3, 4]⟩,  -- PixelFormat, 04 R137
  ⟨0x2004, 0x100, 16, 0x02, 1, .u16, .rws, true, fun _ _ => 0x2000, .between 16 32768⟩,  -- CamLineLength, 04 R137
  ⟨0x2004, 0x100, 16, 0x03, 1, .u8, .rws, true, fun _ _ => 0, .oneOf [0, 1, 2]⟩,  -- ColourMode, 04 R137
  ⟨0x2004, 0x100, 16, 0x04, 1, .u16, .rwt, true, fun _ _ => 0, .between 0 65535⟩,  -- CamFillValue, 04 R137
  ⟨0x2004, 0x100, 16, 0x05, 1, .u32, .rws, true, fun _ _ => 0x186a0, .between 1 2000000⟩,  -- CamLineRateMax, 04 R137
  ⟨0x2004, 0x100, 16, 0x06, 1, .u8, .rwt, true, fun _ _ => 1, .between 1 16⟩,  -- PipeWeight, 04 R137
  ⟨0x2005, 0x100, 16, 0x01, 1, .u64, .ro, false, fun _ _ => 0, .any⟩,  -- LinePackets, 04 R137
  ⟨0x2005, 0x100, 16, 0x02, 1, .u32, .rc, false, fun _ _ => 0, .any⟩,  -- HdrCrcErrors, 04 R137
  ⟨0x2005, 0x100, 16, 0x03, 1, .u32, .rc, false, fun _ _ => 0, .any⟩,  -- PayloadCrcErrors, 04 R137
  ⟨0x2005, 0x100, 16, 0x04, 1, .u32, .rc, false, fun _ _ => 0, .any⟩ ]  -- FramingErrors, 04 R137

/-- Entries of range 4, ports, part 2. -/
def portsRows2 : List EntryRow := [
  ⟨0x2005, 0x100, 16, 0x05, 1, .u32, .rc, false, fun _ _ => 0, .any⟩,  -- ShortLines, 04 R137
  ⟨0x2005, 0x100, 16, 0x06, 1, .u32, .rc, false, fun _ _ => 0, .any⟩,  -- LongLines, 04 R137
  ⟨0x2005, 0x100, 16, 0x07, 1, .u32, .rc, false, fun _ _ => 0, .any⟩,  -- LinesOutsideRun, 04 R137
  ⟨0x2005, 0x100, 16, 0x08, 1, .u32, .rc, false, fun _ _ => 0, .any⟩,  -- CreditViolations, 04 R137
  ⟨0x2006, 0x100, 16, 0x01, 1, .u32, .ro, false, fun _ _ => 0, .any⟩,  -- LastTrigSeq, 04 R137
  ⟨0x2006, 0x100, 16, 0x02, 1, .u32, .rc, false, fun _ _ => 0, .any⟩,  -- LedgerMissCount, 04 R137
  ⟨0x2006, 0x100, 16, 0x03, 1, .u32, .rc, false, fun _ _ => 0, .any⟩,  -- LedgerFutureCount, 04 R137
  ⟨0x2006, 0x100, 16, 0x04, 1, .u32, .rc, false, fun _ _ => 0, .any⟩,  -- DuplicateLines, 04 R137
  ⟨0x2006, 0x100, 16, 0x05, 1, .u32, .rc, false, fun _ _ => 0, .any⟩,  -- LinesLost, 04 R137
  ⟨0x2006, 0x100, 16, 0x06, 1, .u32, .rc, false, fun _ _ => 0, .any⟩,  -- TriggerOverwrite, 04 R137
  ⟨0x2006, 0x100, 16, 0x07, 1, .u32, .rc, false, fun _ _ => 0, .any⟩,  -- ModeMismatchCount, 04 R137
  ⟨0x2006, 0x100, 16, 0x08, 1, .u32, .rw, false, fun _ _ => 0, .any⟩,  -- LedgerReadSeq, 04 R137
  ⟨0x2006, 0x100, 16, 0x09, 4, .u64, .ro, false, fun _ _ => 0, .any⟩,  -- LedgerWord, 04 R137
  ⟨0x2006, 0x100, 16, 0x0D, 1, .u8, .ro, false, fun _ _ => 0, .any⟩,  -- LedgerReadResult, 04 R137
  ⟨0x2007, 0x100, 16, 0x01, 1, .domain, .rw, false, fun _ _ => 0, .bytes 1 64⟩,  -- TunnelRequest, 04 R137
  ⟨0x2007, 0x100, 16, 0x02, 1, .domain, .ro, false, fun _ _ => 0, .any⟩,  -- TunnelResponse, 04 R137
  ⟨0x2007, 0x100, 16, 0x03, 1, .u8, .ro, false, fun _ _ => 0, .any⟩,  -- TunnelStatus, 04 R137
  ⟨0x2007, 0x100, 16, 0x04, 1, .u16, .rw, true, fun _ _ => 0x64, .between 1 10000⟩ ]  -- TunnelTimeout, 04 R137

/-- Every entry row of range 4, ports. -/
def portsRows : List EntryRow := portsRows1 ++ portsRows2

/-- Entries of range 5, pipelines, part 1. -/
def pipelinesRows1 : List EntryRow := [
  ⟨0x3000, 0x100, 8, 0x01, 1, .u64, .ro, false, fun _ _ => 0, .any⟩,  -- PipeSamples, 05 R167
  ⟨0x3000, 0x100, 8, 0x02, 1, .u64, .ro, false, fun _ _ => 0, .any⟩,  -- PipeSwitches, 05 R167
  ⟨0x3000, 0x100, 8, 0x03, 1, .u16, .ro, false, fun _ _ => 0, .any⟩,  -- PipePorts, 05 R167
  ⟨0x3000, 0x100, 8, 0x04, 1, .u32, .ro, false, fun _ _ => 0, .any⟩,  -- PipeShareLoad, 05 R167
  ⟨0x3000, 0x100, 8, 0x05, 1, .u32, .ro, false, fun _ _ => 0, .any⟩,  -- CorrSramUsed, 05 R167
  ⟨0x3000, 0x100, 8, 0x06, 1, .u64, .rc, false, fun _ _ => 0, .any⟩,  -- PipeOutputWait, 05 R167
  ⟨0x3001, 0x100, 8, 0x01, 1, .u32, .rc, false, fun _ _ => 0, .any⟩,  -- SatDarkFlat, 05 R167
  ⟨0x3001, 0x100, 8, 0x02, 1, .u32, .rc, false, fun _ _ => 0, .any⟩,  -- SatWhiteBalance, 05 R167
  ⟨0x3001, 0x100, 8, 0x03, 1, .u32, .rc, false, fun _ _ => 0, .any⟩,  -- SatMatrix, 05 R167
  ⟨0x3001, 0x100, 8, 0x04, 1, .u32, .rc, false, fun _ _ => 0, .any⟩,  -- SatLuma, 05 R167
  ⟨0x3001, 0x100, 8, 0x05, 1, .u32, .rc, false, fun _ _ => 0, .any⟩,  -- PlanesDiscarded, 05 R167
  ⟨0x3002, 0x100, 8, 0x01, 1, .u32, .rc, false, fun _ _ => 0, .any⟩,  -- TableLoadCount, 05 R167
  ⟨0x3002, 0x100, 8, 0x02, 1, .u32, .ro, false, fun _ _ => 0, .any⟩,  -- TableLoadLast, 05 R167
  ⟨0x3002, 0x100, 8, 0x03, 1, .u64, .rc, false, fun _ _ => 0, .any⟩ ]  -- TableLoadWait, 05 R167

/-- Every entry row of range 5, pipelines. -/
def pipelinesRows : List EntryRow := pipelinesRows1

/-- Entries of range 6, tables, part 1. -/
def tablesRows1 : List EntryRow := [
  ⟨0x3800, 0x10, 16, 0x01, 1, .domain, .rwt, false, fun _ _ => 0, .bytes 0 65536⟩,  -- CorrTableLo, 05 R165
  ⟨0x3801, 0x10, 16, 0x01, 1, .domain, .rwt, false, fun _ _ => 0, .bytes 0 65536⟩,  -- CorrTableLo, 05 R165
  ⟨0x3802, 0x10, 16, 0x01, 1, .domain, .rwt, false, fun _ _ => 0, .bytes 0 65536⟩,  -- CorrTableLo, 05 R165
  ⟨0x3800, 0x10, 16, 0x02, 1, .domain, .rwt, false, fun _ _ => 0, .bytes 0 65536⟩,  -- CorrTableHi, 05 R165
  ⟨0x3801, 0x10, 16, 0x02, 1, .domain, .rwt, false, fun _ _ => 0, .bytes 0 65536⟩,  -- CorrTableHi, 05 R165
  ⟨0x3802, 0x10, 16, 0x02, 1, .domain, .rwt, false, fun _ _ => 0, .bytes 0 65536⟩,  -- CorrTableHi, 05 R165
  ⟨0x3804, 0x10, 16, 0x01, 1, .domain, .rwt, true, fun _ _ => 0, .bytes 0 65536⟩,  -- DefectColumns, 05 R165
  ⟨0x3808, 0x10, 16, 0x01, 1, .domain, .rwt, true, fun _ _ => 0, .bytes 8192 8192⟩,  -- ToneLut, 05 R165
  ⟨0x3809, 0x10, 16, 0x01, 1, .domain, .rwt, true, fun _ _ => 0, .bytes 8192 8192⟩,  -- ToneLut, 05 R165
  ⟨0x380A, 0x10, 16, 0x01, 1, .domain, .rwt, true, fun _ _ => 0, .bytes 8192 8192⟩,  -- ToneLut, 05 R165
  ⟨0x380C, 0x10, 16, 0x01, 1, .domain, .rwt, true, fun _ _ => 0, .bytes 64 64⟩,  -- PixelParams, 05 R165
  ⟨0x3900, 1, 16, 0x01, 1, .domain, .rwt, true, fun _ _ => 0, .bytes 0 65536⟩ ]  -- KnotMap, 06 R200

/-- Every entry row of range 6, tables. -/
def tablesRows : List EntryRow := tablesRows1

/-- Entries of range 7, causeway, part 1. -/
def causewayRows1 : List EntryRow := [
  ⟨0x4000, 1, 1, 0x01, 1, .u32, .rws, true, fun _ _ => 0x40000, .multiple 64 262144 64⟩,  -- WorldWidth, 06 R198
  ⟨0x4000, 1, 1, 0x02, 1, .u32, .rws, true, fun _ _ => 0x4e20, .between 1000 1000000⟩,  -- PitchX, 06 R198
  ⟨0x4000, 1, 1, 0x03, 1, .u32, .rws, true, fun _ _ => 0x4e20, .between 1000 1000000⟩,  -- PitchY, 06 R198
  ⟨0x4000, 1, 1, 0x04, 1, .i64, .rws, true, fun _ _ => 0, .between (-1000000000000) 1000000000000⟩,  -- OriginX, 06 R198
  ⟨0x4000, 1, 1, 0x05, 1, .u8, .rws, true, fun _ _ => 1, .oneOf [1, 4]⟩,  -- WorldPlanes, 06 R198
  ⟨0x4000, 1, 1, 0x06, 1, .u8, .rws, true, fun _ _ => 4, .oneOf [2, 4]⟩,  -- AlongTaps, 06 R198
  ⟨0x4000, 1, 1, 0x07, 1, .u8, .rwt, true, fun _ _ => 2, .oneOf [0, 1, 2, 4, 5, 10]⟩,  -- AlongKernel, 06 R198
  ⟨0x4000, 1, 1, 0x08, 1, .bool, .rwt, true, fun _ _ => 1, .between 0 1⟩,  -- ExpCentreEn, 06 R198
  ⟨0x4000, 1, 1, 0x09, 1, .u8, .rwt, true, fun _ _ => 0, .oneOf [0, 1]⟩,  -- CoordMode, 06 R198
  ⟨0x4000, 1, 1, 0x0A, 1, .u16, .rwt, true, fun _ _ => 0, .between 0 65535⟩,  -- UncoveredValue, 06 R198
  ⟨0x4000, 1, 1, 0x0B, 1, .u32, .rwt, true, fun _ _ => 0x1f4, .between 50 16000⟩,  -- PortWaitMax, 06 R198
  ⟨0x4000, 1, 1, 0x0C, 1, .u32, .ro, false, fun _ _ => 0, .any⟩,  -- GeomSramUsed, 06 R198
  ⟨0x4000, 1, 1, 0x0D, 1, .u32, .rc, false, fun _ _ => 0, .any⟩,  -- TruncLinesUsed, 06 R198
  ⟨0x4001, 1, 1, 0x01, 1, .bool, .rwt, true, fun _ _ => 0, .between 0 1⟩,  -- EdgeTrackEn, 06 R198
  ⟨0x4001, 1, 1, 0x02, 1, .u16, .rwt, true, fun _ _ => 0x2000, .between 0 65535⟩,  -- EdgeThreshold, 06 R198
  ⟨0x4001, 1, 1, 0x03, 1, .u8, .rwt, true, fun _ _ => 0, .oneOf [0, 1]⟩,  -- EdgePolarity, 06 R198
  ⟨0x4001, 1, 1, 0x04, 1, .u8, .rwt, true, fun _ _ => 8, .between 1 64⟩,  -- EdgeRunMin, 06 R198
  ⟨0x4001, 1, 1, 0x05, 1, .u8, .rwt, true, fun _ _ => 4, .between 0 8⟩,  -- EdgeFilterShift, 06 R198
  ⟨0x4001, 1, 1, 0x06, 1, .u32, .rwt, true, fun _ _ => 0x40, .between 1 262144⟩,  -- EdgeJumpMax, 06 R198
  ⟨0x4001, 1, 1, 0x07, 1, .u32, .rwt, true, fun _ _ => 0x10, .between 1 65536⟩,  -- EdgeLostLines, 06 R198
  ⟨0x4001, 1, 1, 0x08, 1, .u16, .rwt, true, fun _ _ => 4, .between 0 4096⟩,  -- EdgeInset, 06 R198
  ⟨0x4001, 1, 1, 0x09, 1, .u32, .ro, false, fun _ _ => 0, .any⟩,  -- EdgeLeft, 06 R198
  ⟨0x4001, 1, 1, 0x0A, 1, .u32, .ro, false, fun _ _ => 0, .any⟩,  -- EdgeRight, 06 R198
  ⟨0x4001, 1, 1, 0x0B, 1, .u32, .rc, false, fun _ _ => 0, .any⟩,  -- EdgeRejects, 06 R198
  ⟨0x4001, 1, 1, 0x0C, 1, .u32, .rc, false, fun _ _ => 0, .any⟩,  -- EdgeLostCount, 06 R198
  ⟨0x4002, 1, 1, 0x01, 1, .bool, .rwt, true, fun _ _ => 0, .between 0 1⟩,  -- GainMatchEn, 06 R198
  ⟨0x4002, 1, 1, 0x02, 1, .u8, .rwt, true, fun _ _ => 0, .between 0 15⟩,  -- GainRefPort, 06 R198
  ⟨0x4002, 1, 1, 0x03, 1, .u16, .rwt, true, fun _ _ => 0x100, .between 1 65535⟩,  -- GainStepMax, 06 R198
  ⟨0x4002, 1, 1, 0x04, 1, .u16, .rwt, true, fun _ _ => 0x2000, .between 4096 65535⟩,  -- GainMin, 06 R198
  ⟨0x4002, 1, 1, 0x05, 1, .u16, .rwt, true, fun _ _ => 0x8000, .between 0 65535⟩,  -- GainMax, 06 R198
  ⟨0x4002, 1, 1, 0x06, 1, .u32, .rwt, true, fun _ _ => 0x10000, .between 1 4294967295⟩,  -- GainMinPixels, 06 R198
  ⟨0x4002, 1, 1, 0x07, 1, .u8, .rwt, true, fun _ _ => 0, .oneOf [0, 1]⟩,  -- GainApply, 06 R198
  ⟨0x4002, 1, 1, 0x08, 1, .u16, .rwt, true, fun _ _ => 0x400, .between 0 65280⟩,  -- GainFloor, 06 R198
  ⟨0x4003, 1, 1, 0x01, 1, .u64, .ro, false, fun _ _ => 0, .any⟩,  -- WorldLinesFormed, 06 R198
  ⟨0x4003, 1, 1, 0x02, 1, .u32, .rc, false, fun _ _ => 0, .any⟩,  -- GapSynthCount, 06 R198
  ⟨0x4003, 1, 1, 0x03, 1, .u32, .rc, false, fun _ _ => 0, .any⟩,  -- SpanCount, 06 R198
  ⟨0x4003, 1, 1, 0x04, 1, .u32, .rc, false, fun _ _ => 0, .any⟩,  -- LateLines, 06 R198
  ⟨0x4003, 1, 1, 0x05, 1, .u32, .rc, false, fun _ _ => 0, .any⟩,  -- BackwardLines, 06 R198
  ⟨0x4003, 1, 1, 0x06, 1, .u32, .rc, false, fun _ _ => 0, .any⟩,  -- PortWaitExpired, 06 R198
  ⟨0x4003, 1, 1, 0x07, 1, .u32, .rc, false, fun _ _ => 0, .any⟩ ]  -- SpillFullCount, 06 R198

/-- Entries of range 7, causeway, part 2. -/
def causewayRows2 : List EntryRow := [
  ⟨0x4003, 1, 1, 0x08, 1, .u64, .rc, false, fun _ _ => 0, .any⟩,  -- RecordHoldTime, 06 R198
  ⟨0x4100, 1, 16, 0x01, 1, .u32, .rws, true, fun i _ => BitVec.ofNat 64 (16384 * i), .between 0 262143⟩,  -- CovFirst, 06 R199
  ⟨0x4100, 1, 16, 0x02, 1, .u32, .rws, true, fun i _ => BitVec.ofNat 64 (16384 * i + 16383), .between 0 262143⟩,  -- CovLast, 06 R199
  ⟨0x4100, 1, 16, 0x03, 1, .u8, .rwt, true, fun _ _ => 2, .oneOf [0, 1, 2, 3, 4, 5, 6, 10, 11]⟩,  -- CrossKernel, 06 R199
  ⟨0x4100, 1, 16, 0x04, 1, .i64, .rwt, true, fun _ _ => 0, .any⟩,  -- AlongOffset, 06 R199
  ⟨0x4100, 1, 16, 0x05, 1, .u8, .rwt, true, fun _ _ => 0, .oneOf [0, 1]⟩,  -- MergeMode, 06 R199
  ⟨0x4100, 1, 16, 0x06, 1, .u32, .rwt, true, fun _ _ => 0, .between 0 262144⟩,  -- SeamColumn, 06 R199
  ⟨0x4100, 1, 16, 0x07, 1, .u16, .rwt, true, fun _ _ => 0x40, .multiple 2 1024 2⟩,  -- FeatherWidth, 06 R199
  ⟨0x4100, 1, 16, 0x08, 1, .u16, .rwt, true, fun _ _ => 0x4000, .any⟩,  -- PortGain, 06 R199
  ⟨0x4100, 1, 16, 0x09, 1, .u16, .ro, false, fun _ _ => 0x4000, .any⟩,  -- PortGainNow, 06 R199
  ⟨0x4100, 1, 16, 0x0A, 3, .i16, .rwt, true, fun _ _ => 0, .between (-16384) 16383⟩,  -- PlaneResidual, 06 R199
  ⟨0x4100, 1, 16, 0x0D, 1, .u64, .ro, false, fun _ _ => 0, .any⟩,  -- PortLinesUsed, 06 R199
  ⟨0x4100, 1, 16, 0x0E, 1, .u8, .ro, false, fun _ _ => 0, .any⟩,  -- PortGapState, 06 R199
  ⟨0x4100, 1, 16, 0x0F, 1, .u32, .rc, false, fun _ _ => 0, .any⟩ ]  -- PortSpillPeak, 06 R199

/-- Every entry row of range 7, causeway. -/
def causewayRows : List EntryRow := causewayRows1 ++ causewayRows2

end Sys2Proof.Machine
end

