-- ==== Sys2Proof/Machine/EntriesB.lean ====
section
/-! DEFINITION. The rows of the spec's entry tables, ranges 8 to 15 (02 R38): base index, stride and count of the repeated block,
first subindex and number of subindices, type, access, persistence, default by instance and subindex offset, range. -/

namespace Sys2Proof.Machine

/-- Entries of range 8, reef, part 1. -/
def reefRows1 : List EntryRow := [
  ⟨0x4400, 1, 1, 0x01, 1, .bool, .rws, true, fun _ _ => 1, .between 0 1⟩,  -- ReefEnable, 07 R226
  ⟨0x4400, 1, 1, 0x02, 1, .u8, .rwt, true, fun _ _ => 0, .oneOf [0, 1, 2]⟩,  -- RefModel, 07 R226
  ⟨0x4400, 1, 1, 0x03, 1, .u16, .rwt, true, fun _ _ => 0x400, .between 0 65535⟩,  -- RefTolerance, 07 R226
  ⟨0x4400, 1, 1, 0x04, 1, .u32, .rwt, true, fun _ _ => 0x40, .between 1 65536⟩,  -- PeriodLines, 07 R226
  ⟨0x4400, 1, 1, 0x05, 1, .u32, .rwt, true, fun _ _ => 0x100000, .between 1024 16777216⟩,  -- StreakLimit, 07 R226
  ⟨0x4400, 1, 1, 0x06, 1, .bool, .rwt, true, fun _ _ => 1, .between 0 1⟩,  -- EmitUnclassified, 07 R226
  ⟨0x4400, 1, 1, 0x07, 1, .u64, .rws, true, fun _ _ => 0, .multiple 0 18446744073709551615 1048576⟩,  -- RefStoreBase, 07 R226
  ⟨0x4400, 1, 1, 0x08, 1, .u64, .rws, true, fun _ _ => 0, .multiple 0 18446744073709551615 1048576⟩,  -- RefStoreSize, 07 R226
  ⟨0x4401, 1, 1, 0x01, 1, .bool, .rwt, true, fun _ _ => 0, .between 0 1⟩,  -- ColFreeze, 07 R226
  ⟨0x4401, 1, 1, 0x02, 1, .u8, .rwt, true, fun _ _ => 8, .between 1 16⟩,  -- LearnShift, 07 R226
  ⟨0x4401, 1, 1, 0x03, 1, .u8, .rwt, true, fun _ _ => 0x30, .between 16 255⟩,  -- BandScale, 07 R226
  ⟨0x4401, 1, 1, 0x04, 1, .u16, .rwt, true, fun _ _ => 0x200, .between 0 65535⟩,  -- BandMin, 07 R226
  ⟨0x4401, 1, 1, 0x05, 1, .u32, .rwt, true, fun _ _ => 0x1000, .between 16 1048576⟩,  -- LearnLines, 07 R226
  ⟨0x4401, 1, 1, 0x06, 1, .bool, .ro, false, fun _ _ => 0, .any⟩,  -- ColModelValid, 07 R226
  ⟨0x4401, 1, 1, 0x07, 1, .u8, .wo, false, fun _ _ => 0, .between 1 1⟩,  -- ColModelClear, 07 R226
  ⟨0x4402, 1, 1, 0x01, 1, .u64, .rwt, true, fun _ _ => 0, .multiple 0 18446744073709551615 64⟩,  -- GoldenBase, 07 R226
  ⟨0x4402, 1, 1, 0x02, 1, .u32, .rwt, true, fun _ _ => 1, .between 1 262144⟩,  -- GoldenWidth, 07 R226
  ⟨0x4402, 1, 1, 0x03, 1, .u32, .rwt, true, fun _ _ => 1, .between 1 16777216⟩,  -- GoldenHeight, 07 R226
  ⟨0x4402, 1, 1, 0x04, 1, .u32, .rwt, true, fun _ _ => 0x40, .multiple 0 4294967295 64⟩,  -- GoldenStride, 07 R226
  ⟨0x4402, 1, 1, 0x05, 1, .i32, .rwt, true, fun _ _ => 0, .between (-262144) 262144⟩,  -- GoldenColOffset, 07 R226
  ⟨0x4402, 1, 1, 0x06, 1, .i32, .rwt, true, fun _ _ => 0, .between (-16777216) 16777216⟩,  -- GoldenLineOffset, 07 R226
  ⟨0x4402, 1, 1, 0x07, 1, .u64, .rw, false, fun _ _ => 0, .multiple 0 18446744073709551615 8⟩,  -- RefStoreWriteAddr, 07 R226
  ⟨0x4402, 1, 1, 0x08, 1, .domain, .wo, false, fun _ _ => 0, .bytes 1 65536⟩,  -- RefStoreWriteData, 07 R226
  ⟨0x4420, 1, 1, 0x01, 1, .domain, .rwt, true, fun _ _ => 0, .bytes 3072 3072⟩,  -- ClassTable, 07 R226
  ⟨0x4410, 1, 4, 0x01, 1, .bool, .rwt, true, fun i _ => if i < 2 then 1 else 0, .between 0 1⟩,  -- MapEnable, 07 R227
  ⟨0x4410, 1, 2, 0x02, 1, .u16, .rwt, true, fun _ _ => 0x800, .between 1 65535⟩,  -- SeedThr, 07 R227
  ⟨0x4410, 1, 2, 0x03, 1, .u16, .rwt, true, fun _ _ => 0x400, .between 1 65535⟩,  -- GrowThr, 07 R227
  ⟨0x4412, 1, 2, 0x04, 1, .u8, .rwt, true, fun _ _ => 0, .oneOf [0, 1]⟩,  -- BandSource, 07 R227
  ⟨0x4412, 1, 2, 0x05, 1, .i32, .rwt, true, fun _ _ => 0, .between (-65535) 65535⟩,  -- SeedLow, 07 R227
  ⟨0x4412, 1, 2, 0x06, 1, .i32, .rwt, true, fun _ _ => 0, .between (-65535) 65535⟩,  -- SeedHigh, 07 R227
  ⟨0x4412, 1, 2, 0x07, 1, .i32, .rwt, true, fun _ _ => 0, .between (-65535) 65535⟩,  -- GrowLow, 07 R227
  ⟨0x4412, 1, 2, 0x08, 1, .i32, .rwt, true, fun _ _ => 0, .between (-65535) 65535⟩,  -- GrowHigh, 07 R227
  ⟨0x4430, 1, 1, 0x01, 1, .bool, .rwt, true, fun _ _ => 0, .between 0 1⟩,  -- PieceEnable, 07 R228
  ⟨0x4430, 1, 1, 0x02, 1, .u8, .rws, true, fun _ _ => 0, .between 0 255⟩,  -- PieceStartChannel, 07 R228
  ⟨0x4430, 1, 1, 0x03, 1, .u8, .rwt, true, fun _ _ => 0, .oneOf [0, 1]⟩,  -- PieceEndMode, 07 R228
  ⟨0x4430, 1, 1, 0x04, 1, .u8, .rws, true, fun _ _ => 1, .between 0 255⟩,  -- PieceEndChannel, 07 R228
  ⟨0x4430, 1, 1, 0x05, 1, .u32, .rwt, true, fun _ _ => 0x61a8, .between 1 16777216⟩,  -- PieceLength, 07 R228
  ⟨0x4430, 1, 1, 0x06, 1, .i32, .rwt, true, fun _ _ => 0, .between (-16777216) 16777216⟩,  -- PieceLineOffset, 07 R228
  ⟨0x4430, 1, 1, 0x07, 1, .u32, .rwt, true, fun _ _ => 0, .between 0 262143⟩,  -- PieceOriginCol, 07 R228
  ⟨0x4430, 1, 1, 0x08, 1, .u8, .rwt, true, fun _ _ => 0, .oneOf [0, 1]⟩ ]  -- PieceColMode, 07 R228

/-- Entries of range 8, reef, part 2. -/
def reefRows2 : List EntryRow := [
  ⟨0x4430, 1, 1, 0x09, 1, .u8, .rws, true, fun _ _ => 0, .oneOf [0, 1]⟩,  -- PieceOriginMode, 07 R228
  ⟨0x4430, 1, 1, 0x0A, 1, .i32, .rwt, true, fun _ _ => 0, .between (-16777216) 16777216⟩,  -- PieceEndOffset, 07 R228
  ⟨0x4430, 1, 1, 0x0B, 1, .u32, .ro, false, fun _ _ => 0, .any⟩,  -- PieceIdNow, 07 R228
  ⟨0x4440, 1, 1, 0x01, 1, .u32, .ro, false, fun _ _ => 0, .any⟩,  -- RegionsOpen, 07 R229
  ⟨0x4440, 1, 1, 0x02, 1, .u32, .rc, false, fun _ _ => 0, .any⟩,  -- RegionsPeak, 07 R229
  ⟨0x4440, 1, 1, 0x03, 1, .u64, .ro, false, fun _ _ => 0, .any⟩,  -- RegionsClosed, 07 R229
  ⟨0x4440, 1, 1, 0x04, 1, .u64, .ro, false, fun _ _ => 0, .any⟩,  -- RecordsEmitted, 07 R229
  ⟨0x4440, 1, 1, 0x05, 1, .u64, .ro, false, fun _ _ => 0, .any⟩,  -- MergeCount, 07 R229
  ⟨0x4440, 1, 1, 0x06, 1, .u32, .rc, false, fun _ _ => 0, .any⟩,  -- ForcedCloseCount, 07 R229
  ⟨0x4440, 1, 1, 0x07, 1, .u32, .rc, false, fun _ _ => 0, .any⟩,  -- OverflowRuns, 07 R229
  ⟨0x4440, 1, 1, 0x08, 1, .u32, .rc, false, fun _ _ => 0, .any⟩,  -- UnclassifiedCount, 07 R229
  ⟨0x4440, 1, 1, 0x09, 1, .u32, .rc, false, fun _ _ => 0, .any⟩,  -- UnclassifiedSuppressed, 07 R229
  ⟨0x4440, 1, 1, 0x0A, 1, .u32, .rc, false, fun _ _ => 0, .any⟩,  -- OverflowRecords, 07 R229
  ⟨0x4440, 1, 1, 0x0B, 1, .u64, .rc, false, fun _ _ => 0, .any⟩,  -- RefInvalidPixels, 07 R229
  ⟨0x4440, 1, 1, 0x0C, 1, .u32, .rc, false, fun _ _ => 0, .any⟩,  -- RefLinesMissing, 07 R229
  ⟨0x4440, 1, 1, 0x0D, 1, .u64, .rc, false, fun _ _ => 0, .any⟩,  -- OutsideGoldenPixels, 07 R229
  ⟨0x4440, 1, 1, 0x0E, 1, .u32, .rc, false, fun _ _ => 0, .any⟩,  -- GrowOnlyRuns, 07 R229
  ⟨0x4440, 1, 1, 0x0F, 1, .u32, .rc, false, fun _ _ => 0, .any⟩,  -- PieceEndIgnored, 07 R229
  ⟨0x4440, 1, 1, 0x10, 1, .u16, .rc, false, fun _ _ => 0, .any⟩,  -- RecordQueuePeak, 07 R229
  ⟨0x4440, 1, 1, 0x11, 1, .u64, .rc, false, fun _ _ => 0, .any⟩,  -- ReefStallTime, 07 R229
  ⟨0x4441, 1, 1, 0x01, 255, .u32, .rc, false, fun _ _ => 0, .any⟩,  -- ClassRecordCount, 07 R229
  ⟨0x4480, 1, 1, 0x01, 32, .domain, .rwt, false, fun _ _ => 0, .bytes 65536 65536⟩ ]  -- ColModel, 07 R230

/-- Every entry row of range 8, reef. -/
def reefRows : List EntryRow := reefRows1 ++ reefRows2

/-- Entries of range 9, atoll, part 1. -/
def atollRows1 : List EntryRow := [
  ⟨0x5000, 1, 1, 0x01, 1, .bool, .rws, true, fun _ _ => 0, .between 0 1⟩,  -- AtollEnable, 08 R249
  ⟨0x5000, 1, 1, 0x02, 1, .f32, .rwt, true, fun _ _ => 0x3F800000, .f32Positive⟩,  -- AtollScale, 08 R249
  ⟨0x5001, 1, 1, 0x01, 1, .u16, .rwt, true, fun _ _ => 1, .between 1 16384⟩,  -- GridCols, 08 R249
  ⟨0x5001, 1, 1, 0x02, 1, .u32, .rwt, true, fun _ _ => 1, .between 1 65536⟩,  -- GridRows, 08 R249
  ⟨0x5001, 1, 1, 0x03, 1, .u32, .rwt, true, fun _ _ => 0x400000, .between 65536 4294967295⟩,  -- GridPitchX, 08 R249
  ⟨0x5001, 1, 1, 0x04, 1, .u32, .rwt, true, fun _ _ => 0x400000, .between 65536 4294967295⟩,  -- GridPitchY, 08 R249
  ⟨0x5001, 1, 1, 0x05, 1, .i64, .rwt, true, fun _ _ => 0, .any⟩,  -- GridColOfs, 08 R249
  ⟨0x5001, 1, 1, 0x06, 1, .i64, .rwt, true, fun _ _ => 0, .any⟩,  -- GridLineOfs, 08 R249
  ⟨0x5001, 1, 1, 0x07, 1, .u8, .rwt, true, fun _ _ => 0, .oneOf [0, 1]⟩,  -- ApertureShape, 08 R249
  ⟨0x5001, 1, 1, 0x08, 1, .u16, .rwt, true, fun _ _ => 0x800, .between 128 16128⟩,  -- ApertureHalf, 08 R249
  ⟨0x5001, 1, 1, 0x09, 1, .u32, .ro, false, fun _ _ => 0, .any⟩,  -- CellSramUsed, 08 R249
  ⟨0x5002, 1, 1, 0x01, 1, .u8, .rws, true, fun _ _ => 1, .between 1 3⟩,  -- PhaseCount, 08 R249
  ⟨0x5002, 1, 1, 0x02, 1, .u32, .rws, true, fun _ _ => 0x2710, .between 1000 16000000⟩,  -- PhaseDwell, 08 R249
  ⟨0x5002, 1, 1, 0x03, 1, .u32, .rwt, true, fun _ _ => 0x1f4, .any⟩,  -- PhaseGuard, 08 R249
  ⟨0x5002, 1, 1, 0x04, 1, .u32, .rws, true, fun _ _ => 0xf4240, .between 100000 100000000⟩,  -- PhaseStartDelay, 08 R249
  ⟨0x5002, 1, 1, 0x05, 1, .u16, .rws, true, fun _ _ => 0xffff, .betweenOr 0 1023 65535⟩,  -- CarrierNode, 08 R249
  ⟨0x5002, 1, 1, 0x06, 1, .u32, .rws, true, fun _ _ => 0x1f40, .between 1 4294967295⟩,  -- AtollExposure, 08 R249
  ⟨0x5002, 1, 1, 0x07, 1, .time64, .ro, false, fun _ _ => 0, .any⟩,  -- PhaseT0, 08 R249
  ⟨0x5003, 1, 1, 0x01, 1, .i32, .rwt, true, fun _ _ => 0, .between (-262144) 262144⟩,  -- FidWindowCol, 08 R249
  ⟨0x5003, 1, 1, 0x02, 1, .i32, .rwt, true, fun _ _ => 0, .between 0 16777216⟩,  -- FidWindowLine, 08 R249
  ⟨0x5003, 1, 1, 0x03, 1, .u32, .rwt, true, fun _ _ => 0x100, .between 1 4096⟩,  -- FidWidth, 08 R249
  ⟨0x5003, 1, 1, 0x04, 1, .u32, .rwt, true, fun _ _ => 0x100, .between 1 4096⟩,  -- FidHeight, 08 R249
  ⟨0x5003, 1, 1, 0x05, 1, .u16, .rwt, true, fun _ _ => 0x8000, .between 0 65535⟩,  -- FidThreshold, 08 R249
  ⟨0x5003, 1, 1, 0x06, 1, .u8, .rwt, true, fun _ _ => 0, .oneOf [0, 1]⟩,  -- FidPolarity, 08 R249
  ⟨0x5003, 1, 1, 0x07, 1, .u32, .rwt, true, fun _ _ => 0x10, .between 1 16777216⟩,  -- FidMinPixels, 08 R249
  ⟨0x5003, 1, 1, 0x08, 1, .i64, .rwt, true, fun _ _ => 0, .any⟩,  -- FidOfsX, 08 R249
  ⟨0x5003, 1, 1, 0x09, 1, .i64, .rwt, true, fun _ _ => 0, .any⟩,  -- FidOfsY, 08 R249
  ⟨0x5004, 1, 1, 0x01, 1, .domain, .rwt, true, fun _ _ => 0, .bytes 96 96⟩,  -- AtollLimits, 08 R249
  ⟨0x5004, 1, 1, 0x02, 1, .bool, .rwt, true, fun _ _ => 1, .between 0 1⟩,  -- LimitRecordEn, 08 R249
  ⟨0x5010, 1, 1, 0x01, 1, .u64, .ro, false, fun _ _ => 0, .any⟩,  -- EmittersMeasured, 08 R250
  ⟨0x5010, 1, 1, 0x02, 1, .u64, .ro, false, fun _ _ => 0, .any⟩,  -- EmitterRecords, 08 R250
  ⟨0x5010, 1, 1, 0x03, 1, .u32, .rc, false, fun _ _ => 0, .any⟩,  -- LimitRecords, 08 R250
  ⟨0x5010, 1, 1, 0x04, 1, .u32, .rc, false, fun _ _ => 0, .any⟩,  -- StraddleCount, 08 R250
  ⟨0x5010, 1, 1, 0x05, 1, .u64, .rc, false, fun _ _ => 0, .any⟩,  -- PhaseSkipLines, 08 R250
  ⟨0x5010, 1, 1, 0x06, 1, .u64, .rc, false, fun _ _ => 0, .any⟩,  -- PhaseMismatchPixels, 08 R250
  ⟨0x5010, 1, 1, 0x07, 1, .u32, .rc, false, fun _ _ => 0, .any⟩,  -- FiducialMissCount, 08 R250
  ⟨0x5010, 1, 1, 0x08, 1, .u32, .rc, false, fun _ _ => 0, .any⟩,  -- CarrierFailCount, 08 R250
  ⟨0x5010, 1, 1, 0x09, 1, .u32, .rc, false, fun _ _ => 0, .any⟩,  -- EmptyEmitters, 08 R250
  ⟨0x5010, 1, 1, 0x0A, 1, .u64, .rc, false, fun _ _ => 0, .any⟩,  -- AtollStallTime, 08 R250
  ⟨0x5010, 1, 1, 0x0B, 1, .u32, .rc, false, fun _ _ => 0, .any⟩ ]  -- CutEmitters, 08 R250

/-- Entries of range 9, atoll, part 2. -/
def atollRows2 : List EntryRow := [
  ⟨0x5010, 1, 1, 0x0C, 1, .u16, .rc, false, fun _ _ => 0, .any⟩ ]  -- EmitterQueuePeak, 08 R250

/-- Every entry row of range 9, atoll. -/
def atollRows : List EntryRow := atollRows1 ++ atollRows2

/-- Entries of range 10, streams, part 1. -/
def streamsRows1 : List EntryRow := [
  ⟨0x5400, 1, 1, 0x01, 1, .bool, .rws, true, fun _ _ => 1, .between 0 1⟩,  -- S0Enable, 09 R280
  ⟨0x5400, 1, 1, 0x02, 1, .u8, .rws, true, fun _ _ => 2, .oneOf [1, 2]⟩,  -- S0Format, 09 R280
  ⟨0x5400, 1, 1, 0x03, 1, .u8, .rws, true, fun _ _ => 0, .oneOf [0, 1]⟩,  -- S0Planes, 09 R280
  ⟨0x5400, 1, 1, 0x04, 1, .u32, .rws, true, fun _ _ => 0, .multiple 0 262080 64⟩,  -- S0CropFirst, 09 R280
  ⟨0x5400, 1, 1, 0x05, 1, .u32, .rws, true, fun _ _ => 0, .multipleOr 64 262144 64 0⟩,  -- S0CropWidth, 09 R280
  ⟨0x5400, 1, 1, 0x06, 1, .bool, .rws, true, fun _ _ => 1, .between 0 1⟩,  -- S0RingEn, 09 R280
  ⟨0x5400, 1, 1, 0x07, 1, .u64, .rws, true, fun _ _ => 0, .multiple 0 18446744073709551615 1048576⟩,  -- RingBase, 09 R280
  ⟨0x5400, 1, 1, 0x08, 1, .u64, .rws, true, fun _ _ => 0, .multiple 0 18446744073709551615 1048576⟩,  -- RingSize, 09 R280
  ⟨0x5400, 1, 1, 0x09, 1, .u32, .ro, false, fun _ _ => 0, .any⟩,  -- RingDepth, 09 R280
  ⟨0x5400, 1, 1, 0x0A, 1, .u32, .ro, false, fun _ _ => 0, .any⟩,  -- RingSlotBytes, 09 R280
  ⟨0x5400, 1, 1, 0x0B, 1, .u64, .ro, false, fun _ _ => 0, .any⟩,  -- RingNewest, 09 R280
  ⟨0x5410, 0x10, 3, 0x01, 1, .bool, .rwt, true, fun _ _ => 0, .between 0 1⟩,  -- SxEnable, 09 R280
  ⟨0x5410, 0x10, 3, 0x02, 1, .u8, .rwt, true, fun _ _ => 1, .oneOf [1, 2]⟩,  -- SxFormat, 09 R280
  ⟨0x5410, 0x10, 3, 0x03, 1, .u8, .rwt, true, fun _ _ => 0, .oneOf [0, 1]⟩,  -- SxPlanes, 09 R280
  ⟨0x5410, 0x10, 3, 0x04, 1, .u32, .rwt, true, fun _ _ => 0, .multiple 0 262080 64⟩,  -- SxCropFirst, 09 R280
  ⟨0x5410, 0x10, 3, 0x05, 1, .u32, .rwt, true, fun _ _ => 0x40000, .multiple 64 262144 64⟩,  -- SxCropWidth, 09 R280
  ⟨0x5410, 0x10, 3, 0x06, 1, .u8, .rwt, true, fun _ _ => 8, .oneOf [1, 2, 4, 8, 16, 32, 64]⟩,  -- SxFactorX, 09 R280
  ⟨0x5410, 0x10, 3, 0x07, 1, .u8, .rwt, true, fun _ _ => 8, .oneOf [1, 2, 4, 8, 16, 32, 64]⟩,  -- SxFactorY, 09 R280
  ⟨0x5410, 0x10, 3, 0x08, 1, .u8, .rwt, true, fun _ _ => 6, .between 0 15⟩,  -- SxKernelX, 09 R280
  ⟨0x5410, 0x10, 3, 0x09, 1, .u8, .rwt, true, fun _ _ => 6, .between 0 15⟩,  -- SxKernelY, 09 R280
  ⟨0x5410, 0x10, 3, 0x0A, 1, .u64, .ro, false, fun _ _ => 0, .any⟩,  -- SxLinesOut, 09 R280
  ⟨0x5440, 1, 1, 0x01, 1, .bool, .rws, true, fun _ _ => 0, .between 0 1⟩,  -- ChipEnable, 09 R280
  ⟨0x5440, 1, 1, 0x02, 1, .domain, .rwt, true, fun _ _ => 0, .bytes 1024 1024⟩,  -- ChipClassTable, 09 R280
  ⟨0x5440, 1, 1, 0x03, 1, .u16, .rwt, true, fun _ _ => 0, .between 0 65535⟩,  -- ChipFillValue, 09 R280
  ⟨0x5440, 1, 1, 0x04, 1, .u64, .ro, false, fun _ _ => 0, .any⟩,  -- ChipsCut, 09 R280
  ⟨0x5440, 1, 1, 0x05, 1, .u32, .rc, false, fun _ _ => 0, .any⟩,  -- ChipsMissed, 09 R280
  ⟨0x5440, 1, 1, 0x06, 1, .u32, .rc, false, fun _ _ => 0, .any⟩,  -- ChipsQueueFull, 09 R280
  ⟨0x5440, 1, 1, 0x07, 1, .u32, .rc, false, fun _ _ => 0, .any⟩,  -- ChipsShed, 09 R280
  ⟨0x5440, 1, 1, 0x08, 1, .u16, .rc, false, fun _ _ => 0, .any⟩,  -- ChipQueuePeak, 09 R280
  ⟨0x5450, 1, 1, 0x01, 1, .bool, .rwt, true, fun _ _ => 1, .between 0 1⟩,  -- StatEnable, 09 R280
  ⟨0x5450, 1, 1, 0x02, 1, .u8, .rwt, true, fun _ _ => 7, .bits 0x7⟩,  -- StatTypeMask, 09 R280
  ⟨0x5470, 1, 1, 0x01, 1, .u16, .rwt, true, fun _ _ => 0xffff, .betweenOr 0 1023 65535⟩,  -- FieldRecordNode, 09 R280
  ⟨0x5470, 1, 1, 0x02, 1, .u8, .rwt, true, fun _ _ => 0x7E, .bits 0x7E⟩,  -- FieldTypeMask, 09 R280
  ⟨0x5470, 1, 1, 0x03, 1, .domain, .rwt, true, fun _ _ => 0, .bytes 32 32⟩,  -- FieldClassMask, 09 R280
  ⟨0x5470, 1, 1, 0x04, 1, .u8, .rwt, true, fun _ _ => 5, .between 0 6⟩,  -- FieldRecordTc, 09 R280
  ⟨0x5470, 1, 1, 0x05, 1, .u64, .ro, false, fun _ _ => 0, .any⟩,  -- FieldRecordsSent, 09 R280
  ⟨0x5470, 1, 1, 0x06, 1, .u32, .rc, false, fun _ _ => 0, .any⟩,  -- FieldRecordsDropped, 09 R280
  ⟨0x5460, 1, 8, 0x01, 1, .u8, .rwt, true, fun _ _ => 0, .bits 0x7⟩,  -- Route, 09 R281
  ⟨0x5460, 1, 8, 0x02, 1, .u8, .rwt, true, fun _ _ => 0, .between 0 7⟩,  -- CompEngine, 09 R281
  ⟨0x5460, 1, 8, 0x03, 1, .u64, .ro, false, fun _ _ => 0, .any⟩ ]  -- UnitsDelivered, 09 R281

/-- Entries of range 10, streams, part 2. -/
def streamsRows2 : List EntryRow := [
  ⟨0x5460, 1, 8, 0x04, 1, .u32, .rc, false, fun _ _ => 0, .any⟩,  -- UnitsDiscarded, 09 R281
  ⟨0x5460, 1, 8, 0x05, 1, .u64, .ro, false, fun _ _ => 0, .any⟩ ]  -- BytesOut, 09 R281

/-- Every entry row of range 10, streams. -/
def streamsRows : List EntryRow := streamsRows1 ++ streamsRows2

/-- Entries of range 11, compression, part 1. -/
def compressionRows1 : List EntryRow := [
  ⟨0x5800, 1, 1, 0x01, 1, .u64, .rws, true, fun _ _ => 0, .multiple 0 18446744073709551615 1048576⟩,  -- StagingBase, 09 R282
  ⟨0x5800, 1, 1, 0x02, 1, .u64, .rws, true, fun _ _ => 0, .multiple 0 18446744073709551615 16777216⟩,  -- StagingSize, 09 R282
  ⟨0x5800, 1, 1, 0x03, 1, .u32, .rwt, true, fun _ _ => 0x3e8, .between 0 1000000⟩,  -- ChainGrace, 09 R282
  ⟨0x5810, 1, 8, 0x01, 1, .u8, .rwt, true, fun _ _ => 0, .oneOf [0, 1]⟩,  -- Wrapper, 09 R282
  ⟨0x5810, 1, 8, 0x02, 1, .u8, .rwt, true, fun _ _ => 1, .oneOf [0, 1]⟩,  -- Tables, 09 R282
  ⟨0x5810, 1, 8, 0x03, 1, .u8, .rwt, true, fun _ _ => 2, .between 1 4⟩,  -- Depth, 09 R282
  ⟨0x5810, 1, 8, 0x04, 1, .bool, .rwt, true, fun _ _ => 0, .between 0 1⟩,  -- PrePass, 09 R282
  ⟨0x5810, 1, 8, 0x05, 1, .bool, .rwt, true, fun _ _ => 1, .between 0 1⟩,  -- StoredFallback, 09 R282
  ⟨0x5810, 1, 8, 0x06, 1, .u64, .rws, true, fun _ _ => 0, .multiple 0 18446744073709551615 64⟩,  -- BufRingBase, 09 R282
  ⟨0x5810, 1, 8, 0x07, 1, .u16, .rws, true, fun _ _ => 0x100, .powerOfTwo 16 4096⟩,  -- BufRingEntries, 09 R282
  ⟨0x5810, 1, 8, 0x08, 1, .u32, .rw, false, fun _ _ => 0, .any⟩,  -- BufProducer, 09 R282
  ⟨0x5810, 1, 8, 0x09, 1, .u32, .ro, false, fun _ _ => 0, .any⟩,  -- BufConsumer, 09 R282
  ⟨0x5810, 1, 8, 0x0A, 1, .u64, .rws, true, fun _ _ => 0, .multiple 0 18446744073709551615 64⟩,  -- ComplRingBase, 09 R282
  ⟨0x5810, 1, 8, 0x0B, 1, .u16, .rws, true, fun _ _ => 0x100, .powerOfTwo 16 4096⟩,  -- ComplRingEntries, 09 R282
  ⟨0x5810, 1, 8, 0x0C, 1, .u32, .ro, false, fun _ _ => 0, .any⟩,  -- ComplProducer, 09 R282
  ⟨0x5810, 1, 8, 0x0D, 1, .u32, .rw, false, fun _ _ => 0, .any⟩,  -- ComplConsumer, 09 R282
  ⟨0x5810, 1, 8, 0x0E, 1, .u64, .rws, true, fun _ _ => 0, .multiple 0 18446744073709551615 64⟩,  -- JobRingBase, 09 R282
  ⟨0x5810, 1, 8, 0x0F, 1, .u16, .rws, true, fun _ _ => 0x40, .powerOfTwo 16 4096⟩,  -- JobRingEntries, 09 R282
  ⟨0x5810, 1, 8, 0x10, 1, .u32, .rw, false, fun _ _ => 0, .any⟩,  -- JobProducer, 09 R282
  ⟨0x5810, 1, 8, 0x11, 1, .u32, .ro, false, fun _ _ => 0, .any⟩,  -- JobConsumer, 09 R282
  ⟨0x5810, 1, 8, 0x12, 1, .u8, .ro, false, fun _ _ => 0, .any⟩,  -- JobState, 09 R282
  ⟨0x5810, 1, 8, 0x13, 1, .u64, .ro, false, fun _ _ => 0, .any⟩,  -- UnitsDone, 09 R282
  ⟨0x5810, 1, 8, 0x14, 1, .u32, .rc, false, fun _ _ => 0, .any⟩,  -- OverflowNoChain, 09 R282
  ⟨0x5810, 1, 8, 0x15, 1, .u32, .rc, false, fun _ _ => 0, .any⟩,  -- DecodeErrors, 09 R282
  ⟨0x5810, 1, 8, 0x16, 1, .u64, .ro, false, fun _ _ => 0, .any⟩,  -- InBytes, 09 R282
  ⟨0x5810, 1, 8, 0x17, 1, .u64, .ro, false, fun _ _ => 0, .any⟩,  -- OutBytes, 09 R282
  ⟨0x5810, 1, 8, 0x18, 1, .u32, .ro, false, fun _ _ => 0, .any⟩ ]  -- StagingHeld, 09 R282

/-- Every entry row of range 11, compression. -/
def compressionRows : List EntryRow := compressionRows1

/-- Entries of range 12, schedule, part 1. -/
def scheduleRows1 : List EntryRow := [
  ⟨0x6000, 1, 1, 0x01, 1, .u8, .rws, true, fun _ _ => 1, .oneOf [1, 2, 3]⟩,  -- TickSource, 03 R100
  ⟨0x6000, 1, 1, 0x02, 1, .u32, .rwt, true, fun _ _ => 0x800, .between 16 65536⟩,  -- TickLines, 03 R100
  ⟨0x6000, 1, 1, 0x03, 1, .u32, .rwt, true, fun _ _ => 0xf4240, .between 16000 16000000⟩,  -- TickPeriod, 03 R100
  ⟨0x6000, 1, 1, 0x04, 1, .u8, .rws, true, fun _ _ => 0, .between 0 255⟩,  -- TickEventChannel, 03 R100
  ⟨0x6000, 1, 1, 0x05, 1, .u32, .rc, false, fun _ _ => 0, .any⟩,  -- ForcedTickCount, 03 R100
  ⟨0x6000, 1, 1, 0x06, 1, .u32, .rc, false, fun _ _ => 0, .any⟩,  -- DeferredTickCount, 03 R100
  ⟨0x6000, 1, 1, 0x07, 1, .u32, .rc, false, fun _ _ => 0, .any⟩,  -- MergedTickEvents, 03 R100
  ⟨0x6000, 1, 1, 0x08, 1, .u32, .ro, false, fun _ _ => 0, .any⟩,  -- LastPeriod, 03 R100
  ⟨0x6001, 1, 1, 0x01, 1, .u32, .ro, false, fun _ _ => 0, .any⟩,  -- Lag, 03 R100
  ⟨0x6001, 1, 1, 0x02, 1, .u32, .rc, false, fun _ _ => 0, .any⟩,  -- LagPeak, 03 R100
  ⟨0x6001, 1, 1, 0x03, 1, .u32, .rwt, true, fun _ _ => 0x40000, .between 32768 4194304⟩,  -- LagMax, 03 R100
  ⟨0x6001, 1, 1, 0x04, 1, .u32, .rwt, true, fun _ _ => 0x100000, .between 0 16711680⟩,  -- LagAbort, 03 R100
  ⟨0x6001, 1, 1, 0x05, 1, .u8, .rwt, true, fun _ _ => 5, .between 1 64⟩,  -- RepayTicks, 03 R100
  ⟨0x6001, 1, 1, 0x06, 1, .u32, .rc, false, fun _ _ => 0, .any⟩,  -- LateStripCount, 03 R100
  ⟨0x6001, 1, 1, 0x07, 1, .u32, .rc, false, fun _ _ => 0, .any⟩,  -- PassThroughCount, 03 R100
  ⟨0x6001, 1, 1, 0x08, 1, .u8, .ro, false, fun _ _ => 0, .any⟩,  -- ShedMask, 03 R100
  ⟨0x6001, 1, 1, 0x09, 1, .u32, .rc, false, fun _ _ => 0, .any⟩,  -- ShedStripCount, 03 R100
  ⟨0x6001, 1, 1, 0x0A, 1, .u8, .ro, false, fun _ _ => 0, .any⟩,  -- LagEngine, 03 R100
  ⟨0x6002, 1, 1, 0x01, 1, .u8, .ro, false, fun _ _ => 5, .any⟩,  -- OpNow, 03 R100
  ⟨0x6002, 1, 1, 0x02, 1, .u8, .rwt, true, fun _ _ => 0, .between 0 7⟩,  -- OpMin, 03 R100
  ⟨0x6002, 1, 1, 0x03, 1, .u8, .rwt, true, fun _ _ => 7, .between 0 7⟩,  -- OpMax, 03 R100
  ⟨0x6002, 1, 1, 0x04, 1, .u8, .ro, false, fun _ _ => 7, .any⟩,  -- OpCeiling, 03 R100
  ⟨0x6002, 1, 1, 0x05, 1, .u32, .ro, false, fun _ _ => 0, .any⟩,  -- OpRequired, 03 R100
  ⟨0x6002, 1, 1, 0x06, 1, .u8, .ro, false, fun _ _ => 0, .any⟩,  -- CriticalEngine, 03 R100
  ⟨0x6003, 1, 1, 0x01, 8, .u64, .ro, false, fun _ _ => 0, .any⟩,  -- OpTickCount, 03 R100
  ⟨0x6004, 1, 1, 0x01, 13, .u32, .ro, false, fun _ _ => 0, .any⟩,  -- EngineWork, 03 R100
  ⟨0x6005, 1, 1, 0x01, 13, .u32, .ro, false, fun _ _ => 0, .any⟩,  -- EngineBacklog, 03 R100
  ⟨0x6020, 1, 1, 0x01, 16, .u8, .rwt, true, fun _ j => BitVec.ofNat 64 (j / 2), .between 0 7⟩,  -- PortPlacement, 03 R100
  ⟨0x6021, 1, 1, 0x01, 16, .u32, .ro, false, fun _ _ => 0, .any⟩,  -- PortEpoch, 03 R100
  ⟨0x6022, 1, 1, 0x01, 1, .u32, .ro, false, fun _ _ => 0, .any⟩,  -- PlacementEpoch, 03 R100
  ⟨0x6022, 1, 1, 0x02, 1, .bool, .rws, true, fun _ _ => 1, .between 0 1⟩,  -- AutoMigrate, 03 R100
  ⟨0x6022, 1, 1, 0x03, 1, .u32, .rc, false, fun _ _ => 0, .any⟩,  -- MigrationCount, 03 R100
  ⟨0x6023, 1, 1, 0x01, 8, .bool, .ro, false, fun _ _ => 1, .any⟩ ]  -- PipelineInService, 03 R100

/-- Every entry row of range 12, schedule. -/
def scheduleRows : List EntryRow := scheduleRows1

/-- Entries of range 13, encoders, part 1. -/
def encodersRows1 : List EntryRow := [
  ⟨0x6400, 1, 8, 0x01, 1, .bool, .rws, true, fun _ _ => 0, .between 0 1⟩,  -- EncEnable, 10 R307
  ⟨0x6400, 1, 8, 0x02, 1, .bool, .rws, true, fun _ _ => 0, .between 0 1⟩,  -- EncInvert, 10 R307
  ⟨0x6400, 1, 8, 0x03, 1, .u8, .rwt, true, fun _ _ => 4, .between 0 15⟩,  -- EncFilter, 10 R307
  ⟨0x6400, 1, 8, 0x04, 1, .u32, .rws, true, fun _ _ => 0x1388, .between 1 1000000⟩,  -- EncPitch, 10 R307
  ⟨0x6400, 1, 8, 0x05, 1, .u64, .ro, false, fun _ _ => 0, .any⟩,  -- EncCount, 10 R307
  ⟨0x6400, 1, 8, 0x06, 1, .u64, .ro, false, fun _ _ => 0, .any⟩,  -- EncIndexLatch, 10 R307
  ⟨0x6400, 1, 8, 0x07, 1, .u32, .rc, false, fun _ _ => 0, .any⟩,  -- EncIndexCount, 10 R307
  ⟨0x6400, 1, 8, 0x08, 1, .u32, .rc, false, fun _ _ => 0, .any⟩,  -- EncErrors, 10 R307
  ⟨0x6410, 1, 1, 0x01, 1, .u8, .rws, true, fun _ _ => 0, .between 0 7⟩,  -- WebEncoder, 10 R307
  ⟨0x6410, 1, 1, 0x02, 1, .u64, .ro, false, fun _ _ => 0, .any⟩,  -- WebOrigin, 10 R307
  ⟨0x64C0, 1, 16, 0x01, 1, .u8, .rwt, true, fun _ _ => 4, .between 0 15⟩,  -- EviFilter, 10 R307
  ⟨0x64C0, 1, 16, 0x02, 1, .bool, .rwt, true, fun _ _ => 0, .between 0 1⟩,  -- EviInvert, 10 R307
  ⟨0x64C0, 1, 16, 0x03, 1, .bool, .ro, false, fun _ _ => 0, .any⟩,  -- EviLevel, 10 R307
  ⟨0x6418, 1, 1, 0x01, 1, .u32, .rwt, true, fun _ _ => 0x186a0, .between 1000 1000000⟩,  -- MotionOutRate, 10 R308
  ⟨0x6420, 1, 8, 0x01, 1, .u8, .rwt, true, fun _ _ => 4, .between 0 7⟩,  -- MotionResponse, 10 R308
  ⟨0x6420, 1, 8, 0x02, 1, .u16, .rwt, true, fun _ _ => 0xa, .between 1 1000⟩,  -- VelWindow, 10 R308
  ⟨0x6420, 1, 8, 0x03, 1, .u32, .rwt, true, fun _ _ => 0x2710, .between 10 10000000⟩,  -- StandstillTime, 10 R308
  ⟨0x6420, 1, 8, 0x04, 1, .bool, .rwt, true, fun _ _ => 0, .between 0 1⟩,  -- LagComp, 10 R308
  ⟨0x6420, 1, 8, 0x05, 1, .u32, .rwt, true, fun _ _ => 0, .between 0 2147483647⟩,  -- UnderSpeed, 10 R308
  ⟨0x6420, 1, 8, 0x06, 1, .u32, .rwt, true, fun _ _ => 0, .between 0 2147483647⟩,  -- OverSpeed, 10 R308
  ⟨0x6420, 1, 8, 0x07, 1, .u32, .rwt, true, fun _ _ => 0, .between 0 2147483647⟩,  -- AccelLimit, 10 R308
  ⟨0x6420, 1, 8, 0x08, 1, .u32, .rwt, true, fun _ _ => 0x3e8, .between 0 1000000⟩,  -- SpeedHyst, 10 R308
  ⟨0x6420, 1, 8, 0x09, 1, .i32, .ro, false, fun _ _ => 0, .any⟩,  -- Velocity, 10 R308
  ⟨0x6420, 1, 8, 0x0A, 1, .i32, .ro, false, fun _ _ => 0, .any⟩,  -- Acceleration, 10 R308
  ⟨0x6420, 1, 8, 0x0B, 1, .i32, .ro, false, fun _ _ => 0, .any⟩,  -- VelocityAtTick, 10 R308
  ⟨0x6420, 1, 8, 0x0C, 1, .u64, .ro, false, fun _ _ => 0, .any⟩,  -- PositionAtTick, 10 R308
  ⟨0x6420, 1, 8, 0x0D, 1, .u8, .ro, false, fun _ _ => 0, .any⟩,  -- MotionStatus, 10 R308
  ⟨0x6420, 1, 8, 0x0E, 1, .u32, .rc, false, fun _ _ => 0, .any⟩,  -- ThresholdEvents, 10 R308
  ⟨0x6440, 1, 48, 0x01, 1, .u8, .rwt, true, fun _ _ => 0, .between 0 5⟩,  -- CmpMode, 10 R309
  ⟨0x6440, 1, 48, 0x02, 1, .u8, .rwt, true, fun _ _ => 0, .between 0 7⟩,  -- CmpEncoder, 10 R309
  ⟨0x6440, 1, 48, 0x03, 1, .u8, .rwt, true, fun _ _ => 0, .oneOf [0, 1]⟩,  -- CmpDirection, 10 R309
  ⟨0x6440, 1, 48, 0x04, 1, .u64, .rwt, true, fun _ _ => 0, .bits 0xFFFFFFFFFFFF⟩,  -- CmpTarget, 10 R309
  ⟨0x6440, 1, 48, 0x05, 1, .u32, .rwt, true, fun _ _ => 1, .between 1 4294967295⟩,  -- CmpPeriodNum, 10 R309
  ⟨0x6440, 1, 48, 0x06, 1, .u32, .rwt, true, fun _ _ => 1, .between 1 4294967295⟩,  -- CmpPeriodDen, 10 R309
  ⟨0x6440, 1, 48, 0x07, 1, .u32, .rwt, true, fun _ _ => 0, .any⟩,  -- CmpPhase, 10 R309
  ⟨0x6440, 1, 48, 0x08, 1, .time64, .rwt, true, fun _ _ => 0, .between 0 4611686018427387904⟩,  -- CmpTimeStart, 10 R309
  ⟨0x6440, 1, 48, 0x09, 1, .u64, .rwt, true, fun _ _ => 0x2710000, .between 1048576 72057594037927936⟩,  -- CmpTimePeriod, 10 R309
  ⟨0x6440, 1, 48, 0x0A, 1, .bool, .rwt, true, fun _ _ => 0, .between 0 1⟩,  -- CmpL0Enable, 10 R309
  ⟨0x6440, 1, 48, 0x0B, 1, .u16, .rwt, true, fun _ _ => 0xffff, .betweenOr 0 255 65535⟩,  -- CmpArmChannel, 10 R309
  ⟨0x6440, 1, 48, 0x0C, 1, .u8, .wo, false, fun _ _ => 0, .between 1 1⟩ ]  -- CmpArm, 10 R309

/-- Entries of range 13, encoders, part 2. -/
def encodersRows2 : List EntryRow := [
  ⟨0x6440, 1, 48, 0x0D, 1, .bool, .ro, false, fun _ _ => 0, .any⟩,  -- CmpArmed, 10 R309
  ⟨0x6440, 1, 48, 0x0E, 1, .u8, .rwt, true, fun _ _ => 0, .between 0 15⟩,  -- CmpL0HoldOff, 10 R309
  ⟨0x6440, 1, 48, 0x0F, 1, .u64, .ro, false, fun _ _ => 0, .any⟩,  -- CmpFireCount, 10 R309
  ⟨0x6440, 1, 48, 0x10, 1, .u64, .ro, false, fun _ _ => 0, .any⟩,  -- CmpLastFireCount, 10 R309
  ⟨0x6440, 1, 48, 0x11, 1, .time64, .ro, false, fun _ _ => 0, .any⟩,  -- CmpLastFireTime, 10 R309
  ⟨0x6480, 1, 32, 0x01, 1, .bool, .rwt, true, fun _ _ => 0, .between 0 1⟩,  -- TrgEnable, 10 R310
  ⟨0x6480, 1, 32, 0x02, 1, .u8, .rws, true, fun _ _ => 0, .oneOf [0, 1]⟩,  -- TrgPolarity, 10 R310
  ⟨0x6480, 1, 32, 0x03, 1, .u8, .rws, true, fun _ _ => 0, .oneOf [0, 1, 2]⟩,  -- TrgSafeLevel, 10 R310
  ⟨0x6480, 1, 32, 0x04, 1, .u32, .rwt, true, fun _ _ => 0x32, .between 1 500000⟩,  -- TrgPulseWidth, 10 R310
  ⟨0x6480, 1, 32, 0x05, 1, .u32, .rwt, true, fun _ _ => 0, .between 0 500000⟩,  -- TrgCoarseDelay, 10 R310
  ⟨0x6480, 1, 32, 0x06, 1, .u8, .rwt, true, fun _ _ => 0, .between 0 255⟩,  -- TrgFineDelay, 10 R310
  ⟨0x6480, 1, 32, 0x07, 1, .bool, .ro, false, fun _ _ => 0, .any⟩,  -- TrgStale, 10 R310
  ⟨0x6480, 1, 32, 0x08, 1, .u16, .rwt, true, fun _ _ => 0xffff, .betweenOr 0 255 65535⟩,  -- TrgL1Channel, 10 R310
  ⟨0x6480, 1, 32, 0x09, 1, .u64, .ro, false, fun _ _ => 0, .any⟩,  -- TrgPulses, 10 R310
  ⟨0x6480, 1, 32, 0x0A, 1, .bool, .rc, false, fun _ _ => 0, .any⟩,  -- TrgCollision, 10 R310
  ⟨0x6480, 1, 32, 0x0B, 1, .u32, .rc, false, fun _ _ => 0, .any⟩,  -- TrgCollisionCount, 10 R310
  ⟨0x6480, 1, 32, 0x0C, 1, .u32, .rc, false, fun _ _ => 0, .any⟩,  -- TrgOverlap, 10 R310
  ⟨0x6480, 1, 32, 0x0D, 1, .u32, .rc, false, fun _ _ => 0, .any⟩,  -- TrgQueueFull, 10 R310
  ⟨0x64A0, 1, 16, 0x01, 1, .u16, .rwt, true, fun _ _ => 0xffff, .betweenOr 0 255 65535⟩,  -- GenL1Channel, 10 R310
  ⟨0x64A0, 1, 16, 0x02, 1, .u32, .rc, false, fun _ _ => 0, .any⟩ ]  -- GenCollisionCount, 10 R310

/-- Every entry row of range 13, encoders. -/
def encodersRows : List EntryRow := encodersRows1 ++ encodersRows2

/-- Entries of range 14, narrows, part 1. -/
def narrowsRows1 : List EntryRow := [
  ⟨0x6800, 1, 1, 0x01, 1, .u8, .wo, false, fun _ _ => 0, .between 0 255⟩,  -- Inject, 10 R311
  ⟨0x6800, 1, 1, 0x02, 1, .u32, .rc, false, fun _ _ => 0, .any⟩,  -- GuardTripCount, 10 R311
  ⟨0x6900, 1, 256, 0x01, 1, .u16, .rwt, true, fun _ _ => 0xffff, .producer⟩,  -- ChanProducer, 10 R311
  ⟨0x6900, 1, 256, 0x02, 1, .u8, .rwt, true, fun _ _ => 0, .between 0 15⟩,  -- ChanHoldOff, 10 R311
  ⟨0x6900, 1, 256, 0x03, 1, .bool, .rc, false, fun _ _ => 0, .any⟩,  -- ChanSeen, 10 R311
  ⟨0x6900, 1, 256, 0x04, 1, .u16, .rc, false, fun _ _ => 0, .any⟩,  -- ChanCount, 10 R311
  ⟨0x6900, 1, 256, 0x05, 1, .u16, .rwt, true, fun _ _ => 0xffff, .between 1 65535⟩,  -- ChanGuardMax, 10 R311
  ⟨0x6900, 1, 256, 0x06, 1, .bool, .ro, false, fun _ _ => 0, .any⟩,  -- ChanGuardTripped, 10 R311
  ⟨0x6900, 1, 256, 0x07, 1, .u16, .ro, false, fun _ _ => 0xffff, .any⟩,  -- ChanConsumer, 10 R311
  ⟨0x6900, 1, 256, 0x08, 1, .u16, .rc, false, fun _ _ => 0, .any⟩ ]  -- ChanInjectMerge, 10 R311

/-- Every entry row of range 14, narrows. -/
def narrowsRows : List EntryRow := narrowsRows1

/-- Entries of range 15, timeDomains, part 1. -/
def timeDomainsRows1 : List EntryRow := [
  ⟨0x6C00, 1, 1, 0x01, 1, .u64, .ro, false, fun _ _ => 0, .any⟩,  -- CounterNow, 11 R346
  ⟨0x6C00, 1, 1, 0x02, 1, .time64, .ro, false, fun _ _ => 0, .any⟩,  -- WNow, 11 R346
  ⟨0x6C00, 1, 1, 0x03, 1, .u8, .rw, true, fun _ _ => 2, .oneOf [0, 1, 2]⟩,  -- WSelect, 11 R346
  ⟨0x6C00, 1, 1, 0x04, 1, .u8, .ro, false, fun _ _ => 0, .any⟩,  -- WSource, 11 R346
  ⟨0x6C00, 1, 1, 0x05, 1, .u8, .ro, false, fun _ _ => 2, .any⟩,  -- WState, 11 R346
  ⟨0x6C00, 1, 1, 0x06, 1, .i64, .ro, false, fun _ _ => 0, .any⟩,  -- WError, 11 R346
  ⟨0x6C00, 1, 1, 0x07, 1, .u16, .rw, true, fun _ _ => 0x64, .between 1 500⟩,  -- SlewMax, 11 R346
  ⟨0x6C00, 1, 1, 0x08, 1, .u32, .rw, true, fun _ _ => 0xa, .between 0 86400⟩,  -- WRevertTime, 11 R346
  ⟨0x6C00, 1, 1, 0x09, 1, .u32, .rc, false, fun _ _ => 0, .any⟩,  -- WSwitchCount, 11 R346
  ⟨0x6C00, 1, 1, 0x0A, 1, .u32, .rw, true, fun _ _ => 0xf4240, .between 1000 1000000000⟩,  -- StepThreshold, 11 R346
  ⟨0x6C00, 1, 1, 0x0B, 1, .bool, .rws, true, fun _ _ => 0, .between 0 1⟩,  -- WFreeRunOk, 11 R346
  ⟨0x6C10, 1, 2, 0x01, 1, .u64, .ro, false, fun _ _ => 0, .any⟩,  -- DomOffset, 11 R346
  ⟨0x6C12, 1, 2, 0x01, 1, .u64, .rw, false, fun _ _ => 0, .any⟩,  -- DomOffset, 11 R346
  ⟨0x6C10, 1, 2, 0x02, 1, .u16, .ro, false, fun _ _ => 0, .any⟩,  -- DomOffsetFrac, 11 R346
  ⟨0x6C12, 1, 2, 0x02, 1, .u16, .rw, false, fun _ _ => 0, .any⟩,  -- DomOffsetFrac, 11 R346
  ⟨0x6C10, 1, 2, 0x03, 1, .i32, .ro, false, fun _ _ => 0, .any⟩,  -- DomRate, 11 R346
  ⟨0x6C12, 1, 2, 0x03, 1, .i32, .rw, false, fun _ _ => 0, .any⟩,  -- DomRate, 11 R346
  ⟨0x6C10, 1, 4, 0x04, 1, .u64, .ro, false, fun _ _ => 0, .any⟩,  -- DomAnchor, 11 R346
  ⟨0x6C10, 1, 4, 0x05, 1, .time64, .ro, false, fun _ _ => 0, .any⟩,  -- DomNow, 11 R346
  ⟨0x6C10, 1, 4, 0x06, 1, .u8, .ro, false, fun _ _ => 0, .any⟩,  -- DomState, 11 R346
  ⟨0x6C10, 1, 4, 0x07, 1, .i64, .ro, false, fun _ _ => 0, .any⟩,  -- DomMasterOffset, 11 R346
  ⟨0x6C10, 1, 4, 0x08, 1, .u32, .rc, false, fun _ _ => 0, .any⟩,  -- DomStepCount, 11 R346
  ⟨0x6C20, 1, 2, 0x01, 1, .bool, .rws, true, fun i _ => if i = 0 then 1 else 0, .between 0 1⟩,  -- PtpEnable, 11 R346
  ⟨0x6C20, 1, 2, 0x02, 1, .u8, .rws, true, fun i _ => BitVec.ofNat 64 i, .between 0 127⟩,  -- PtpDomainNumber, 11 R346
  ⟨0x6C20, 1, 2, 0x03, 1, .u8, .rws, true, fun _ _ => 0xf, .bits 0xf⟩,  -- PtpPortMask, 11 R346
  ⟨0x6C20, 1, 2, 0x04, 1, .u8, .rws, true, fun _ _ => 0xff, .between 0 255⟩,  -- PtpPriority1, 11 R346
  ⟨0x6C20, 1, 2, 0x05, 1, .u8, .rws, true, fun _ _ => 0xf8, .between 0 255⟩,  -- PtpPriority2, 11 R346
  ⟨0x6C20, 1, 2, 0x06, 1, .i16, .rws, true, fun _ _ => BitVec.ofInt 64 (-3), .between (-7) 0⟩,  -- PtpLogSyncInterval, 11 R346
  ⟨0x6C20, 1, 2, 0x07, 1, .u8, .rws, true, fun _ _ => 3, .between 2 255⟩,  -- PtpSyncTimeout, 11 R346
  ⟨0x6C20, 1, 2, 0x08, 1, .u32, .rw, true, fun _ _ => 0x64, .between 10 1000000⟩,  -- PtpLockThreshold, 11 R346
  ⟨0x6C20, 1, 2, 0x09, 1, .u64, .ro, false, fun _ _ => 0, .any⟩,  -- PtpGmIdentity, 11 R346
  ⟨0x6C20, 1, 2, 0x0A, 1, .u8, .ro, false, fun _ _ => 0xff, .any⟩,  -- PtpSlavePort, 11 R346
  ⟨0x6C30, 1, 4, 0x01, 1, .u32, .ro, false, fun _ _ => 0, .any⟩,  -- PtpMeanLinkDelay, 11 R346
  ⟨0x6C30, 1, 4, 0x02, 1, .bool, .ro, false, fun _ _ => 0, .any⟩,  -- PtpAsCapable, 11 R346
  ⟨0x6C30, 1, 4, 0x03, 1, .i32, .rws, true, fun _ _ => 0, .between (-1000000) 1000000⟩,  -- PtpDelayAsymmetry, 11 R346
  ⟨0x6C30, 1, 4, 0x04, 1, .u8, .ro, false, fun _ _ => 0, .any⟩ ]  -- PtpPortRoles, 11 R346

/-- Every entry row of range 15, timeDomains. -/
def timeDomainsRows : List EntryRow := timeDomainsRows1

end Sys2Proof.Machine
end

