-- ==== Sys2Proof/Machine/EntriesC.lean ====
section
/-! DEFINITION. The rows of the spec's entry tables, ranges 16 to 23 (02 R38): base index, stride and count of the repeated block,
first subindex and number of subindices, type, access, persistence, default by instance and subindex offset, range. -/

namespace Sys2Proof.Machine

/-- Entries of range 16, fieldJfp, part 1. -/
def fieldJfpRows1 : List EntryRow := [
  ⟨0x7000, 1, 4, 0x01, 1, .u8, .rws, true, fun _ _ => 0, .oneOf [0, 1, 2]⟩,  -- FldMode, 11 R347
  ⟨0x7000, 1, 4, 0x02, 1, .u64, .ro, false, fun _ _ => 0, .any⟩,  -- FldMac, 11 R347
  ⟨0x7000, 1, 4, 0x03, 1, .u32, .rws, true, fun _ _ => 0, .any⟩,  -- FldIpAddr, 11 R347
  ⟨0x7000, 1, 4, 0x04, 1, .u32, .rws, true, fun _ _ => 0xffffff00, .netMask⟩,  -- FldNetMask, 11 R347
  ⟨0x7000, 1, 4, 0x05, 1, .u16, .rws, true, fun _ _ => 0, .between 0 4094⟩,  -- FldVlanId, 11 R347
  ⟨0x7000, 1, 4, 0x06, 1, .bool, .rws, true, fun _ _ => 1, .between 0 1⟩,  -- FldPreemptEn, 11 R347
  ⟨0x7000, 1, 4, 0x07, 1, .bool, .ro, false, fun _ _ => 0, .any⟩,  -- FldLinkUp, 11 R347
  ⟨0x7000, 1, 4, 0x08, 1, .bool, .ro, false, fun _ _ => 0, .any⟩,  -- FldPreemptActive, 11 R347
  ⟨0x7000, 1, 4, 0x09, 1, .u32, .rc, false, fun _ _ => 0, .any⟩,  -- FldRxDiscards, 11 R347
  ⟨0x7000, 1, 4, 0x0A, 1, .u32, .rc, false, fun _ _ => 0, .any⟩,  -- FldQueueDrops, 11 R347
  ⟨0x7000, 1, 4, 0x0B, 1, .u32, .rc, false, fun _ _ => 0, .any⟩,  -- Tc7LateCount, 11 R347
  ⟨0x7010, 1, 1, 0x01, 1, .u16, .rws, true, fun _ _ => 0xa342, .between 1024 65535⟩,  -- JfpUdpPort, 11 R347
  ⟨0x7010, 1, 1, 0x02, 1, .bool, .rws, true, fun _ _ => 0, .between 0 1⟩,  -- AuthRequired, 11 R347
  ⟨0x7010, 1, 1, 0x03, 1, .u32, .rw, true, fun _ _ => 0x1388, .between 100 3600000⟩,  -- SessionTimeout, 11 R347
  ⟨0x7010, 1, 1, 0x04, 1, .u8, .wo, false, fun _ _ => 0, .between 0 15⟩,  -- SessionClose, 11 R347
  ⟨0x7010, 1, 1, 0x05, 1, .u32, .rc, false, fun _ _ => 0, .any⟩,  -- JfpRxDiscards, 11 R347
  ⟨0x7010, 1, 1, 0x06, 1, .u32, .rc, false, fun _ _ => 0, .any⟩,  -- AuthFailures, 11 R347
  ⟨0x7010, 1, 1, 0x07, 1, .u32, .rc, false, fun _ _ => 0, .any⟩,  -- ReplayDiscards, 11 R347
  ⟨0x7010, 1, 1, 0x08, 1, .u32, .rc, false, fun _ _ => 0, .any⟩,  -- SessionRefused, 11 R347
  ⟨0x7010, 1, 1, 0x09, 1, .u32, .rwt, true, fun _ _ => 0x64, .between 10 10000⟩,  -- RecordBatchTime, 11 R347
  ⟨0x7020, 1, 16, 0x01, 1, .u8, .ro, false, fun _ _ => 0, .any⟩,  -- SessState, 11 R347
  ⟨0x7020, 1, 16, 0x02, 1, .u32, .ro, false, fun _ _ => 0, .any⟩,  -- SessPeerIp, 11 R347
  ⟨0x7020, 1, 16, 0x03, 1, .u16, .ro, false, fun _ _ => 0, .any⟩,  -- SessPeerPort, 11 R347
  ⟨0x7020, 1, 16, 0x04, 1, .u8, .rw, false, fun _ _ => 0, .bits 0x3⟩,  -- SessNotifyMask, 11 R347
  ⟨0x7020, 1, 16, 0x05, 1, .u8, .ro, false, fun _ _ => 0xff, .any⟩,  -- SessAuthSlot, 11 R347
  ⟨0x7040, 1, 1, 0x01, 1, .domain, .wo, false, fun _ _ => 0, .bytes 40 40⟩,  -- KeyLoad, 11 R347
  ⟨0x7040, 1, 1, 0x02, 1, .u32, .ro, false, fun _ _ => 0, .any⟩,  -- KeyValid, 11 R347
  ⟨0x7040, 1, 1, 0x03, 1, .u8, .wo, false, fun _ _ => 0, .between 0 31⟩,  -- KeyErase, 11 R347
  ⟨0x7100, 1, 1, 0x01, 1, .u32, .rwt, true, fun _ _ => 0x2710, .between 100 10000000⟩,  -- RelaunchTol, 11 R347
  ⟨0x7100, 1, 1, 0x02, 1, .u32, .rwt, true, fun _ _ => 0x64, .between 50 10000⟩,  -- CommitLead, 11 R347
  ⟨0x7100, 1, 1, 0x03, 1, .u32, .rwt, true, fun _ _ => 0x2710, .between 1 2147483647⟩,  -- MarkMinSpeed, 11 R347
  ⟨0x7100, 1, 1, 0x04, 1, .u32, .rwt, true, fun _ _ => 0x3e8, .between 1 60000⟩,  -- MarkHoldMax, 11 R347
  ⟨0x7100, 1, 1, 0x05, 1, .u64, .ro, false, fun _ _ => 0, .any⟩,  -- MarkIssued, 11 R347
  ⟨0x7100, 1, 1, 0x06, 1, .u32, .rc, false, fun _ _ => 0, .any⟩,  -- MarkRelaunched, 11 R347
  ⟨0x7100, 1, 1, 0x07, 1, .u32, .rc, false, fun _ _ => 0, .any⟩,  -- MarkLate, 11 R347
  ⟨0x7100, 1, 1, 0x08, 1, .u32, .rc, false, fun _ _ => 0, .any⟩,  -- MarkDropped, 11 R347
  ⟨0x7100, 1, 1, 0x09, 1, .u16, .ro, false, fun _ _ => 0, .any⟩,  -- MarkPending, 11 R347
  ⟨0x7201, 1, 255, 0x01, 1, .u16, .rwt, true, fun _ _ => 0xffff, .betweenOr 0 1023 65535⟩,  -- MarkNode, 11 R347
  ⟨0x7201, 1, 255, 0x02, 1, .u8, .rwt, true, fun _ _ => 0, .between 0 2⟩,  -- MarkAim, 11 R347
  ⟨0x7201, 1, 255, 0x03, 1, .i32, .rwt, true, fun _ _ => 0, .any⟩ ]  -- MarkAimOfs, 11 R347

/-- Entries of range 16, fieldJfp, part 2. -/
def fieldJfpRows2 : List EntryRow := [
  ⟨0x7201, 1, 255, 0x04, 1, .u64, .rwt, true, fun _ _ => 0, .any⟩,  -- MarkParam, 11 R347
  ⟨0x7300, 1, 1, 0x01, 1, .u32, .rw, true, fun _ _ => 0x64, .between 10 10000⟩,  -- NodeProbePeriod, 11 R347
  ⟨0x7300, 1, 1, 0x02, 1, .u8, .rw, true, fun _ _ => 3, .between 1 255⟩,  -- NodeMissMax, 11 R347
  ⟨0x7300, 1, 1, 0x03, 1, .u16, .ro, false, fun _ _ => 0, .any⟩ ]  -- NodesUp, 11 R347

/-- Every entry row of range 16, fieldJfp. -/
def fieldJfpRows : List EntryRow := fieldJfpRows1 ++ fieldJfpRows2

/-- Entries of range 17, nodes, part 1. -/
def nodesRows1 : List EntryRow := [
  ⟨0x7400, 1, 1024, 0x01, 1, .bool, .rwt, true, fun _ _ => 0, .between 0 1⟩,  -- NodeEnable, 11 R347
  ⟨0x7400, 1, 1024, 0x02, 1, .u8, .rwt, true, fun _ _ => 0, .oneOf [0, 1, 2, 3, 4, 5]⟩,  -- NodeClass, 11 R347
  ⟨0x7400, 1, 1024, 0x03, 1, .u64, .rwt, true, fun _ _ => 0, .bits 0xFFFFFFFFFFFF⟩,  -- NodeMac, 11 R347
  ⟨0x7400, 1, 1024, 0x04, 1, .u32, .rwt, true, fun _ _ => 0, .any⟩,  -- NodeIp, 11 R347
  ⟨0x7400, 1, 1024, 0x05, 1, .u16, .rwt, true, fun _ _ => 0xa342, .between 1 65535⟩,  -- NodeUdpPort, 11 R347
  ⟨0x7400, 1, 1024, 0x06, 1, .u8, .rwt, true, fun _ _ => 0, .between 0 3⟩,  -- NodePort, 11 R347
  ⟨0x7400, 1, 1024, 0x07, 1, .u32, .rwt, true, fun _ _ => 0, .betweenOr 100 1000000 0⟩,  -- NodeCyclicPeriod, 11 R347
  ⟨0x7400, 1, 1024, 0x08, 1, .u32, .rwt, true, fun _ _ => 0xf4240, .between 10000 100000000⟩,  -- NodeLeadTime, 11 R347
  ⟨0x7400, 1, 1024, 0x09, 1, .u32, .rwt, true, fun _ _ => 0x2710, .between 100 1000000⟩,  -- NodeAckTimeout, 11 R347
  ⟨0x7400, 1, 1024, 0x0A, 1, .u32, .rwt, true, fun _ _ => 0, .between 0 100000000⟩,  -- NodeDistance, 11 R347
  ⟨0x7400, 1, 1024, 0x0B, 1, .u8, .rwt, true, fun _ _ => 0xff, .betweenOr 0 31 255⟩,  -- NodeKeySlot, 11 R347
  ⟨0x7400, 1, 1024, 0x0C, 1, .u8, .rwt, true, fun _ _ => 4, .between 0 6⟩,  -- NodeCyclicTc, 11 R347
  ⟨0x7400, 1, 1024, 0x0D, 1, .domain, .rwt, true, fun _ _ => 0, .bytes 0 64⟩,  -- NodeCyclicOut, 11 R347
  ⟨0x7400, 1, 1024, 0x0E, 1, .domain, .ro, false, fun _ _ => 0, .any⟩,  -- NodeCyclicIn, 11 R347
  ⟨0x7400, 1, 1024, 0x0F, 1, .u8, .ro, false, fun _ _ => 0, .any⟩,  -- NodeState, 11 R347
  ⟨0x7400, 1, 1024, 0x10, 1, .domain, .wo, false, fun _ _ => 0, .bytes 32 32⟩,  -- NodeCmdWrite, 11 R347
  ⟨0x7400, 1, 1024, 0x11, 1, .u32, .rc, false, fun _ _ => 0, .any⟩,  -- NodeCmdSent, 11 R347
  ⟨0x7400, 1, 1024, 0x12, 1, .u32, .rc, false, fun _ _ => 0, .any⟩,  -- NodeAckFail, 11 R347
  ⟨0x7400, 1, 1024, 0x13, 1, .u64, .ro, false, fun _ _ => 0, .any⟩,  -- NodeLastEvent, 11 R347
  ⟨0x7400, 1, 1024, 0x14, 1, .u32, .rc, false, fun _ _ => 0, .any⟩ ]  -- NodeCmdLate, 11 R347

/-- Every entry row of range 17, nodes. -/
def nodesRows : List EntryRow := nodesRows1

/-- Entries of range 18, memory, part 1. -/
def memoryRows1 : List EntryRow := [
  ⟨0x7800, 1, 1, 0x01, 1, .u8, .ro, false, fun _ _ => 0, .any⟩,  -- G6DeviceDensity, 12 R384
  ⟨0x7800, 1, 1, 0x02, 1, .u32, .rws, true, fun _ _ => 0x400, .powerOfTwo 256 65536⟩,  -- G6Grain, 12 R384
  ⟨0x7800, 1, 1, 0x03, 1, .u32, .ro, false, fun _ _ => 0x400, .any⟩,  -- G6GrainActive, 12 R384
  ⟨0x7800, 1, 1, 0x04, 1, .bool, .rws, true, fun _ _ => 0, .between 0 1⟩,  -- G6Secded, 12 R384
  ⟨0x7800, 1, 1, 0x05, 1, .bool, .ro, false, fun _ _ => 0, .any⟩,  -- G6SecdedActive, 12 R384
  ⟨0x7800, 1, 1, 0x06, 1, .u16, .rws, true, fun _ _ => 0, .bits 0xfff⟩,  -- G6ExcludeMask, 12 R384
  ⟨0x7800, 1, 1, 0x07, 1, .u32, .ro, false, fun _ _ => 0xffffff, .any⟩,  -- G6ChannelsActive, 12 R384
  ⟨0x7800, 1, 1, 0x08, 1, .u64, .ro, false, fun _ _ => 0, .any⟩,  -- G6LocalTop, 12 R384
  ⟨0x7800, 1, 1, 0x09, 1, .u8, .rw, true, fun _ _ => 4, .between 1 15⟩,  -- G6EdcRetryMax, 12 R384
  ⟨0x7800, 1, 1, 0x0A, 1, .u16, .rws, true, fun _ _ => 0x1000, .between 256 65535⟩,  -- G6RhThreshold, 12 R384
  ⟨0x7800, 1, 1, 0x0B, 1, .u8, .rws, true, fun _ _ => 1, .between 1 2⟩,  -- G6RhRadius, 12 R384
  ⟨0x7810, 1, 24, 0x01, 1, .u8, .ro, false, fun _ _ => 0, .any⟩,  -- G6ChState, 12 R385
  ⟨0x7810, 1, 24, 0x02, 1, .i16, .ro, false, fun _ _ => 0, .any⟩,  -- G6Temp, 12 R385
  ⟨0x7810, 1, 24, 0x03, 1, .u8, .ro, false, fun _ _ => 1, .any⟩,  -- G6RefreshRate, 12 R385
  ⟨0x7810, 1, 24, 0x04, 1, .u8, .rc, false, fun _ _ => 0, .any⟩,  -- G6RefreshDebtPeak, 12 R385
  ⟨0x7810, 1, 24, 0x05, 1, .u32, .rc, false, fun _ _ => 0, .any⟩,  -- G6RefreshForced, 12 R385
  ⟨0x7810, 1, 24, 0x06, 1, .u32, .rc, false, fun _ _ => 0, .any⟩,  -- G6StallPeak, 12 R385
  ⟨0x7810, 1, 24, 0x07, 1, .u32, .rc, false, fun _ _ => 0, .any⟩,  -- G6EdcRetries, 12 R385
  ⟨0x7810, 1, 24, 0x08, 1, .u32, .rc, false, fun _ _ => 0, .any⟩,  -- G6EccCorrected, 12 R385
  ⟨0x7810, 1, 24, 0x09, 1, .u32, .rc, false, fun _ _ => 0, .any⟩,  -- G6EccUncorrected, 12 R385
  ⟨0x7810, 1, 24, 0x0A, 1, .u32, .rc, false, fun _ _ => 0, .any⟩,  -- G6RhRefreshes, 12 R385
  ⟨0x7810, 1, 24, 0x0B, 1, .u64, .ro, false, fun _ _ => 0, .any⟩,  -- G6ReadBytes, 12 R385
  ⟨0x7810, 1, 24, 0x0C, 1, .u64, .ro, false, fun _ _ => 0, .any⟩,  -- G6WriteBytes, 12 R385
  ⟨0x7810, 1, 24, 0x0D, 1, .u32, .rc, false, fun _ _ => 0, .any⟩,  -- G6WriteDrains, 12 R385
  ⟨0x7830, 1, 8, 0x01, 1, .u64, .ro, false, fun _ _ => 0, .any⟩,  -- G6PortBytes, 12 R386
  ⟨0x7830, 1, 8, 0x02, 1, .u32, .rc, false, fun _ _ => 0, .any⟩,  -- G6PortWaitMax, 12 R386
  ⟨0x7830, 1, 8, 0x03, 1, .u64, .rc, false, fun _ _ => 0, .any⟩ ]  -- G6PortStallTime, 12 R386

/-- Every entry row of range 18, memory. -/
def memoryRows : List EntryRow := memoryRows1

/-- Entries of range 19, ferry, part 1. -/
def ferryRows1 : List EntryRow := [
  ⟨0x7C00, 1, 1, 0x01, 1, .u32, .rw, true, fun _ _ => 0x10000, .between 1 16777216⟩,  -- FerryChainLimit, 12 R387
  ⟨0x7C00, 1, 1, 0x02, 1, .u32, .rc, false, fun _ _ => 0, .any⟩,  -- FerryCplTimeoutCount, 12 R387
  ⟨0x7C00, 1, 1, 0x03, 1, .u32, .rc, false, fun _ _ => 0, .any⟩,  -- FerryBufferPeak, 12 R387
  ⟨0x7C10, 1, 32, 0x01, 1, .u64, .rw, false, fun _ _ => 0, .multiple 0 18446744073709551615 64⟩,  -- FerryDescAddr, 12 R387
  ⟨0x7C10, 1, 32, 0x02, 1, .u8, .wo, false, fun _ _ => 0, .oneOf [1, 2]⟩,  -- FerryCommand, 12 R387
  ⟨0x7C10, 1, 32, 0x03, 1, .u8, .ro, false, fun _ _ => 0, .any⟩,  -- FerryState, 12 R387
  ⟨0x7C10, 1, 32, 0x04, 1, .u8, .rw, true, fun _ _ => 1, .between 0 3⟩,  -- FerryPriority, 12 R387
  ⟨0x7C10, 1, 32, 0x05, 1, .u8, .rw, true, fun _ _ => 8, .between 1 64⟩,  -- FerryMaxBursts, 12 R387
  ⟨0x7C10, 1, 32, 0x06, 1, .u16, .rwt, true, fun _ _ => 0xffff, .betweenOr 0 255 65535⟩,  -- FerryReqChannel, 12 R387
  ⟨0x7C10, 1, 32, 0x07, 1, .u8, .rwt, true, fun _ _ => 0, .between 0 15⟩,  -- FerryReqEvi, 12 R387
  ⟨0x7C10, 1, 32, 0x08, 1, .u8, .ro, false, fun _ _ => 0, .any⟩,  -- FerryLastStatus, 12 R387
  ⟨0x7C10, 1, 32, 0x09, 1, .u32, .ro, false, fun _ _ => 0, .any⟩,  -- FerryResidue, 12 R387
  ⟨0x7C10, 1, 32, 0x0A, 1, .u32, .ro, false, fun _ _ => 0, .any⟩,  -- FerryChainCount, 12 R387
  ⟨0x7C10, 1, 32, 0x0B, 1, .u64, .ro, false, fun _ _ => 0, .any⟩,  -- FerryNextAddr, 12 R387
  ⟨0x7C10, 1, 32, 0x0C, 1, .u64, .ro, false, fun _ _ => 0, .any⟩,  -- FerryBytes, 12 R387
  ⟨0x7C10, 1, 32, 0x0D, 1, .u32, .rc, false, fun _ _ => 0, .any⟩,  -- FerryGrantOverflow, 12 R387
  ⟨0x7C40, 1, 8, 0x01, 1, .u64, .rws, true, fun _ _ => 0, .multiple 0 18446744073709551615 4096⟩,  -- HostRingBase, 12 R388
  ⟨0x7C40, 1, 8, 0x02, 1, .u32, .rws, true, fun _ _ => 0x1000000, .powerOfTwo 65536 2147483648⟩,  -- HostRingSize, 12 R388
  ⟨0x7C40, 1, 8, 0x03, 1, .u64, .rws, true, fun _ _ => 0, .multiple 0 18446744073709551615 8⟩,  -- HostRingProdAddr, 12 R388
  ⟨0x7C40, 1, 8, 0x04, 1, .u64, .ro, false, fun _ _ => 0, .any⟩,  -- HostRingProducer, 12 R388
  ⟨0x7C40, 1, 8, 0x05, 1, .u64, .rw, false, fun _ _ => 0, .any⟩,  -- HostRingConsumer, 12 R388
  ⟨0x7C40, 1, 8, 0x06, 1, .u64, .rc, false, fun _ _ => 0, .any⟩ ]  -- HostRingFullTime, 12 R388

/-- Every entry row of range 19, ferry. -/
def ferryRows : List EntryRow := ferryRows1

/-- Entries of range 20, harbour, part 1. -/
def harbourRows1 : List EntryRow := [
  ⟨0x8001, 1, 767, 0x01, 1, .u8, .rw, true, fun _ _ => 0, .between 0 15⟩,  -- HmHostPriority, 13 R411
  ⟨0x8001, 1, 767, 0x02, 1, .u8, .rw, true, fun _ _ => 1, .bits 0x3⟩,  -- HmHostTargets, 13 R411
  ⟨0x8001, 1, 767, 0x03, 1, .bool, .rw, true, fun _ _ => 0, .between 0 1⟩,  -- HmHostMask, 13 R411
  ⟨0x8001, 1, 767, 0x04, 1, .u8, .rw, true, fun _ _ => 2, .between 1 15⟩,  -- HmFilter, 13 R411
  ⟨0x8001, 1, 767, 0x05, 1, .u8, .rw, true, fun _ _ => 0, .between 0 31⟩,  -- HmVector, 13 R411
  ⟨0x8001, 1, 767, 0x06, 1, .u8, .ro, false, fun _ _ => 0, .any⟩,  -- HmHostState, 13 R411
  ⟨0x8001, 1, 767, 0x07, 1, .u8, .ro, false, fun _ _ => 0, .any⟩,  -- HmFwPriority, 13 R411
  ⟨0x8001, 1, 767, 0x08, 1, .u8, .ro, false, fun _ _ => 0, .any⟩,  -- HmFwTargets, 13 R411
  ⟨0x8001, 1, 767, 0x09, 1, .u8, .ro, false, fun _ _ => 0, .any⟩,  -- HmKind, 13 R411
  ⟨0x8001, 1, 767, 0x0A, 1, .u32, .rc, false, fun _ _ => 0, .any⟩,  -- HmEventCount, 13 R411
  ⟨0x8300, 1, 1, 0x01, 1, .bool, .rw, false, fun _ _ => 0, .between 0 1⟩,  -- HmHostAttach, 13 R412
  ⟨0x8300, 1, 1, 0x02, 1, .u8, .ro, false, fun _ _ => 0, .any⟩,  -- HmWindow, 13 R412
  ⟨0x8330, 1, 1, 0x01, 64, .u16, .rwt, true, fun _ _ => 0xffff, .betweenOr 0 255 65535⟩,  -- HmEventChannel, 13 R412
  ⟨0x8310, 1, 4, 0x01, 1, .u8, .ro, false, fun _ _ => 0, .any⟩,  -- HmRunPriority, 13 R412
  ⟨0x8314, 1, 2, 0x01, 1, .u8, .ro, false, fun _ _ => 0, .any⟩,  -- HmRunPriority, 13 R412
  ⟨0x8310, 1, 4, 0x02, 1, .u8, .ro, false, fun _ _ => 0, .any⟩,  -- HmStackDepth, 13 R412
  ⟨0x8314, 1, 2, 0x02, 1, .u8, .ro, false, fun _ _ => 0, .any⟩,  -- HmStackDepth, 13 R412
  ⟨0x8310, 1, 4, 0x03, 1, .u8, .ro, true, fun _ _ => 0, .between 0 15⟩,  -- HmThreshold, 13 R412
  ⟨0x8314, 1, 2, 0x03, 1, .u8, .rw, true, fun _ _ => 0, .between 0 15⟩,  -- HmThreshold, 13 R412
  ⟨0x8310, 1, 4, 0x04, 1, .bool, .ro, false, fun _ _ => 0, .any⟩,  -- HmTargetAwake, 13 R412
  ⟨0x8314, 1, 2, 0x04, 1, .bool, .ro, false, fun _ _ => 0, .any⟩,  -- HmTargetAwake, 13 R412
  ⟨0x8310, 1, 4, 0x05, 1, .bool, .ro, false, fun _ _ => 0, .between 0 1⟩,  -- HmHostSleep, 13 R412
  ⟨0x8314, 1, 2, 0x05, 1, .bool, .rw, false, fun _ _ => 0, .between 0 1⟩,  -- HmHostSleep, 13 R412
  ⟨0x8310, 1, 4, 0x06, 1, .u32, .ro, true, fun _ _ => 0, .between 0 1000000⟩,  -- HmModInterval, 13 R412
  ⟨0x8314, 1, 2, 0x06, 1, .u32, .rw, true, fun _ _ => 0, .between 0 1000000⟩,  -- HmModInterval, 13 R412
  ⟨0x8310, 1, 4, 0x07, 1, .u64, .ro, false, fun _ _ => 0, .any⟩,  -- HmClaims, 13 R412
  ⟨0x8314, 1, 2, 0x07, 1, .u64, .ro, false, fun _ _ => 0, .any⟩,  -- HmClaims, 13 R412
  ⟨0x8310, 1, 4, 0x08, 1, .u32, .rc, false, fun _ _ => 0, .any⟩,  -- HmSpurious, 13 R412
  ⟨0x8314, 1, 2, 0x08, 1, .u32, .rc, false, fun _ _ => 0, .any⟩,  -- HmSpurious, 13 R412
  ⟨0x8310, 1, 4, 0x09, 1, .u32, .rc, false, fun _ _ => 0, .any⟩,  -- HmEoiMismatch, 13 R412
  ⟨0x8314, 1, 2, 0x09, 1, .u32, .rc, false, fun _ _ => 0, .any⟩,  -- HmEoiMismatch, 13 R412
  ⟨0x8310, 1, 4, 0x0A, 1, .u32, .rc, false, fun _ _ => 0, .any⟩,  -- HmModDeferred, 13 R412
  ⟨0x8314, 1, 2, 0x0A, 1, .u32, .rc, false, fun _ _ => 0, .any⟩,  -- HmModDeferred, 13 R412
  ⟨0x8310, 1, 4, 0x0B, 1, .u32, .rc, false, fun _ _ => 0, .any⟩,  -- HmWakeRequests, 13 R412
  ⟨0x8314, 1, 2, 0x0B, 1, .u32, .rc, false, fun _ _ => 0, .any⟩,  -- HmWakeRequests, 13 R412
  ⟨0x8310, 1, 4, 0x0C, 1, .u32, .rc, false, fun _ _ => 0, .any⟩,  -- HmLateMaskDeliveries, 13 R412
  ⟨0x8314, 1, 2, 0x0C, 1, .u32, .rc, false, fun _ _ => 0, .any⟩ ]  -- HmLateMaskDeliveries, 13 R412

/-- Every entry row of range 20, harbour. -/
def harbourRows : List EntryRow := harbourRows1

/-- Entries of range 21, power, part 1. -/
def powerRows1 : List EntryRow := [
  ⟨0x8400, 1, 1, 0x01, 1, .u32, .ro, false, fun _ _ => 0, .any⟩,  -- PowerNow, 13 R413
  ⟨0x8400, 1, 1, 0x02, 1, .u64, .ro, false, fun _ _ => 0, .any⟩,  -- EnergyTotal, 13 R413
  ⟨0x8400, 1, 1, 0x03, 1, .bool, .ro, false, fun _ _ => 0, .any⟩,  -- EnergyStale, 13 R413
  ⟨0x8401, 1, 1, 0x01, 4, .u32, .ro, false, fun _ _ => 0, .any⟩,  -- MonitorPower, 13 R413
  ⟨0x8410, 1, 1, 0x01, 8, .u16, .ro, false, fun _ j => BitVec.ofNat 64 ([620, 650, 680, 710, 750, 790, 820, 850].getD j 0), .any⟩,  -- OpVoltage, 13 R413
  ⟨0x8410, 1, 1, 0x09, 1, .u16, .ro, false, fun _ _ => 0, .any⟩,  -- VddCoreNow, 13 R413
  ⟨0x8410, 1, 1, 0x0A, 1, .bool, .rws, true, fun _ _ => 1, .between 0 1⟩,  -- AvsEnable, 13 R413
  ⟨0x8410, 1, 1, 0x0B, 1, .u64, .ro, false, fun _ _ => 0, .any⟩,  -- OpChangeCount, 13 R413
  ⟨0x8410, 1, 1, 0x0C, 1, .u32, .ro, false, fun _ _ => 0, .any⟩,  -- OpChangeLast, 13 R413
  ⟨0x8420, 1, 1, 0x01, 1, .i16, .ro, false, fun _ _ => 0, .any⟩,  -- ThermMax, 13 R413
  ⟨0x8420, 1, 1, 0x02, 1, .u8, .ro, false, fun _ _ => 0, .any⟩,  -- ThermState, 13 R413
  ⟨0x8420, 1, 1, 0x03, 1, .u32, .rc, false, fun _ _ => 0, .any⟩,  -- ThermWarnCount, 13 R413
  ⟨0x8420, 1, 1, 0x04, 1, .u32, .rc, false, fun _ _ => 0, .any⟩,  -- ThermLimitCount, 13 R413
  ⟨0x8420, 1, 1, 0x05, 1, .u64, .rc, false, fun _ _ => 0, .any⟩,  -- ThermLimitTime, 13 R413
  ⟨0x8420, 1, 1, 0x06, 1, .u16, .ro, false, fun _ _ => 0, .any⟩,  -- ThermStaleMask, 13 R413
  ⟨0x8421, 1, 1, 0x01, 16, .i16, .ro, false, fun _ _ => 0, .any⟩,  -- ThermSensor, 13 R413
  ⟨0x8430, 1, 1, 0x01, 1, .u8, .rws, true, fun _ _ => 2, .oneOf [1, 2]⟩,  -- PmbClock, 13 R413
  ⟨0x8430, 1, 1, 0x02, 1, .u32, .rc, false, fun _ _ => 0, .any⟩,  -- PmbErrors, 13 R413
  ⟨0x8430, 1, 1, 0x03, 1, .u32, .rc, false, fun _ _ => 0, .any⟩,  -- PmbAlertCount, 13 R413
  ⟨0x8430, 1, 1, 0x04, 1, .bool, .ro, false, fun _ _ => 0, .any⟩,  -- PmbCoreLost, 13 R413
  ⟨0x8440, 1, 8, 0x01, 1, .u8, .rws, true, fun _ _ => 0, .betweenOr 8 119 0⟩,  -- RegAddress, 13 R413
  ⟨0x8440, 1, 8, 0x02, 1, .u8, .rws, true, fun _ _ => 0, .between 1 11⟩,  -- RegRail, 13 R413
  ⟨0x8440, 1, 8, 0x03, 1, .u8, .rws, true, fun _ _ => 0, .oneOf [0, 1]⟩,  -- RegRole, 13 R413
  ⟨0x8440, 1, 8, 0x04, 1, .u16, .ro, false, fun _ _ => 0, .any⟩,  -- RegVout, 13 R413
  ⟨0x8440, 1, 8, 0x05, 1, .u32, .ro, false, fun _ _ => 0, .any⟩,  -- RegIout, 13 R413
  ⟨0x8440, 1, 8, 0x06, 1, .u16, .ro, false, fun _ _ => 0, .any⟩,  -- RegStatusWord, 13 R413
  ⟨0x8440, 1, 8, 0x07, 1, .i16, .ro, false, fun _ _ => 0, .any⟩,  -- RegTemp, 13 R413
  ⟨0x8460, 1, 1, 0x01, 1, .bool, .rws, true, fun _ _ => 1, .between 0 1⟩,  -- GateUnused, 13 R413
  ⟨0x8460, 1, 1, 0x02, 1, .u32, .ro, false, fun _ _ => 0, .any⟩,  -- GatedMask, 13 R413
  ⟨0x8470, 1, 1, 0x01, 4, .u8, .ro, false, fun _ _ => 0, .any⟩,  -- CtrlCoreLoad, 13 R413
  ⟨0x8471, 1, 1, 0x01, 4, .u32, .rc, false, fun _ _ => 0, .any⟩ ]  -- CtrlCoreRestarts, 13 R413

/-- Every entry row of range 21, power. -/
def powerRows : List EntryRow := powerRows1

/-- Entries of range 22, calibration, part 1. -/
def calibrationRows1 : List EntryRow := [
  ⟨0x8800, 1, 1, 0x01, 1, .u8, .wo, false, fun _ _ => 0, .bits 0x7f⟩,  -- CalRequest, 15 R459
  ⟨0x8800, 1, 1, 0x02, 1, .u8, .ro, false, fun _ _ => 0, .any⟩,  -- CalState, 15 R459
  ⟨0x8800, 1, 1, 0x03, 1, .u8, .ro, false, fun _ _ => 0, .any⟩,  -- CalActive, 15 R459
  ⟨0x8800, 1, 1, 0x04, 1, .u8, .ro, false, fun _ _ => 0, .any⟩,  -- CalResult, 15 R459
  ⟨0x8800, 1, 1, 0x05, 1, .time64, .ro, false, fun _ _ => 0, .any⟩,  -- CalLastTime, 15 R459
  ⟨0x8800, 1, 1, 0x06, 1, .u8, .wo, false, fun _ _ => 0, .between 1 1⟩,  -- CalRestoreFactory, 15 R459
  ⟨0x8800, 1, 1, 0x07, 1, .i32, .ro, false, fun _ _ => 0, .any⟩,  -- CalRefclkPpb, 15 R459
  ⟨0x8801, 1, 1, 0x01, 32, .u8, .ro, false, fun _ _ => 0, .any⟩,  -- TrimFineDelay, 15 R459
  ⟨0x8802, 1, 1, 0x01, 16, .u16, .ro, false, fun _ _ => 0, .any⟩,  -- TrimSensor, 15 R459
  ⟨0x8803, 1, 1, 0x01, 4, .u16, .ro, false, fun _ _ => 0, .any⟩,  -- TrimMonitor, 15 R459
  ⟨0x8810, 1, 1, 0x01, 1, .u32, .wo, false, fun _ _ => 0, .bits 0x0FFFFFFF⟩,  -- SelfTestRequest, 15 R459
  ⟨0x8810, 1, 1, 0x02, 1, .u8, .ro, false, fun _ _ => 0, .any⟩,  -- SelfTestState, 15 R459
  ⟨0x8810, 1, 1, 0x03, 1, .u8, .ro, false, fun _ _ => 0, .any⟩,  -- SelfTestResult, 15 R459
  ⟨0x8810, 1, 1, 0x04, 1, .u64, .ro, false, fun _ _ => 0, .any⟩,  -- SelfTestDetail, 15 R459
  ⟨0x8810, 1, 1, 0x05, 1, .u32, .rwt, true, fun _ _ => 0x40, .between 1 65536⟩,  -- CheckInterval, 15 R459
  ⟨0x8810, 1, 1, 0x06, 1, .u32, .rwt, true, fun _ _ => 0x1000, .between 16 16777216⟩,  -- CheckOverdue, 15 R459
  ⟨0x8811, 1, 1, 0x01, 8, .u64, .ro, false, fun _ _ => 0, .any⟩,  -- CheckLastPass, 15 R459
  ⟨0x8812, 1, 1, 0x01, 8, .u32, .rc, false, fun _ _ => 0, .any⟩ ]  -- CheckDeferred, 15 R459

/-- Every entry row of range 22, calibration. -/
def calibrationRows : List EntryRow := calibrationRows1

/-- Entries of range 23, logs, part 1. -/
def logsRows1 : List EntryRow := [
  ⟨0x8C00, 1, 1, 0x01, 1, .u64, .ro, false, fun _ _ => 0, .any⟩,  -- TroubleHeadSeq, 15 R460
  ⟨0x8C00, 1, 1, 0x02, 1, .u64, .ro, false, fun _ _ => 0, .any⟩,  -- TroubleTailSeq, 15 R460
  ⟨0x8C00, 1, 1, 0x03, 1, .u64, .rw, false, fun _ _ => 0, .any⟩,  -- TroubleReadSeq, 15 R460
  ⟨0x8C00, 1, 1, 0x04, 4, .u64, .ro, false, fun _ _ => 0, .any⟩,  -- TroubleWord, 15 R460
  ⟨0x8C00, 1, 1, 0x08, 1, .u8, .ro, false, fun _ _ => 0, .any⟩,  -- TroubleReadResult, 15 R460
  ⟨0x8C01, 1, 1, 0x01, 4, .u32, .rc, false, fun _ _ => 0, .any⟩,  -- TroubleSeverityCount, 15 R460
  ⟨0x8C10, 1, 1, 0x01, 1, .u32, .ro, false, fun _ _ => 0, .any⟩,  -- RecHead, 15 R460
  ⟨0x8C10, 1, 1, 0x02, 1, .u32, .ro, false, fun _ _ => 0, .any⟩,  -- RecGeneration, 15 R460
  ⟨0x8C10, 1, 1, 0x03, 1, .u32, .rw, false, fun _ _ => 0, .any⟩,  -- RecReadIndex, 15 R460
  ⟨0x8C10, 1, 1, 0x04, 4, .u64, .ro, false, fun _ _ => 0, .any⟩,  -- RecWord, 15 R460
  ⟨0x8C10, 1, 1, 0x08, 1, .u8, .ro, false, fun _ _ => 0, .any⟩,  -- RecReadResult, 15 R460
  ⟨0x8C10, 1, 1, 0x09, 1, .u8, .rw, true, fun _ _ => 1, .between 0 3⟩,  -- RecSeverity, 15 R460
  ⟨0x8C10, 1, 1, 0x0A, 1, .u16, .ro, false, fun _ _ => 0, .any⟩,  -- RecStaged, 15 R460
  ⟨0x8C10, 1, 1, 0x0B, 1, .u32, .ro, false, fun _ _ => 0, .any⟩,  -- RecFlushCount, 15 R460
  ⟨0x8C10, 1, 1, 0x0C, 1, .u32, .ro, false, fun _ _ => 0, .any⟩,  -- RecFlushLast, 15 R460
  ⟨0x8C10, 1, 1, 0x0D, 1, .u16, .ro, false, fun _ _ => 0, .any⟩,  -- RecRetiredSlots, 15 R460
  ⟨0x8C10, 1, 1, 0x0E, 1, .u32, .rc, false, fun _ _ => 0, .any⟩,  -- RecDropped, 15 R460
  ⟨0x8C10, 1, 1, 0x0F, 1, .u8, .wo, false, fun _ _ => 0, .between 1 1⟩,  -- RecFlush, 15 R460
  ⟨0x8C11, 1, 1, 0x01, 32, .domain, .ro, false, fun _ _ => 0, .any⟩,  -- RecBlock, 15 R460
  ⟨0x8C20, 1, 1, 0x01, 1, .u32, .ro, false, fun _ _ => 0, .any⟩,  -- OperatingSeconds, 15 R460
  ⟨0x8C20, 1, 1, 0x02, 1, .u32, .ro, false, fun _ _ => 0, .any⟩,  -- PowerCycles, 15 R460
  ⟨0x8C20, 1, 1, 0x03, 1, .u32, .ro, false, fun _ _ => 0, .any⟩,  -- SysResetCount, 15 R460
  ⟨0x8C20, 1, 1, 0x04, 1, .u32, .ro, false, fun _ _ => 0, .any⟩,  -- PfailCount, 15 R460
  ⟨0x8C20, 1, 1, 0x05, 1, .u32, .ro, false, fun _ _ => 0, .any⟩,  -- AntiRollback, 15 R460
  ⟨0x8C20, 1, 1, 0x06, 1, .u32, .rc, false, fun _ _ => 0, .any⟩,  -- MramWriteErrors, 15 R460
  ⟨0x8C20, 1, 1, 0x07, 1, .u8, .ro, false, fun _ _ => 0, .any⟩,  -- BootCause, 15 R460
  ⟨0x8C20, 1, 1, 0x08, 1, .u8, .ro, false, fun _ _ => 0, .any⟩,  -- BootMode, 15 R460
  ⟨0x8C20, 1, 1, 0x09, 1, .u32, .ro, false, fun _ _ => 0, .any⟩,  -- BootTime, 15 R460
  ⟨0x8C20, 1, 1, 0x0A, 1, .u32, .ro, false, fun _ _ => 0, .any⟩,  -- InitTime, 15 R460
  ⟨0x8C30, 1, 1, 0x01, 1, .u8, .rws, true, fun _ _ => 0, .oneOf [0, 1, 2]⟩,  -- LrefSelect, 15 R460
  ⟨0x8C30, 1, 1, 0x02, 1, .u8, .ro, false, fun _ _ => 0, .any⟩,  -- LrefActive, 15 R460
  ⟨0x8C30, 1, 1, 0x03, 1, .u8, .ro, false, fun _ _ => 0, .any⟩,  -- LrefPresent, 15 R460
  ⟨0x8C30, 1, 1, 0x04, 1, .u32, .rc, false, fun _ _ => 0, .any⟩,  -- LrefSwitchCount, 15 R460
  ⟨0x8C40, 1, 1, 0x01, 1, .u16, .ro, false, fun _ _ => 0, .any⟩,  -- FaultCause, 15 R460
  ⟨0x8C40, 1, 1, 0x02, 1, .time64, .ro, false, fun _ _ => 0, .any⟩,  -- FaultTime, 15 R460
  ⟨0x8C40, 1, 1, 0x03, 1, .u64, .ro, false, fun _ _ => 0, .any⟩ ]  -- FaultEncCount, 15 R460

/-- Every entry row of range 23, logs. -/
def logsRows : List EntryRow := logsRows1

end Sys2Proof.Machine
end

