-- ==== Sys2Proof/Machine/Flags.lean ====
section
/-! DEFINITION. The check computations: CRC-32, CRC-16, BIP-8, SHA-256, HMAC, Adler-32. -/

namespace Sys2Proof.Machine

/-- n steps of a reflected CRC with polynomial `poly` (02 R37). -/
def crcReflected (poly : Nat) : Nat → Nat → Nat
  | 0, c => c
  | n + 1, c => crcReflected poly n (if c % 2 = 1 then (c / 2) ^^^ poly else c / 2)

/-- The CRC-32 register after the bytes, from a given register. -/
def crc32From (c : Nat) (bs : List Byte) : Nat :=
  bs.foldl (fun c b => crcReflected 0xEDB88320 8 (c ^^^ b.toNat)) c

/-- CRC-32 (02 R37): reflected, initial value and final XOR all ones. -/
def crc32 (bs : List Byte) : Nat := crc32From 0xFFFFFFFF bs ^^^ 0xFFFFFFFF

/-- n steps of a non-reflected 16-bit CRC with polynomial 0x1021. -/
def crc16Steps : Nat → Nat → Nat
  | 0, c => c
  | n + 1, c => crc16Steps n (if c / 0x8000 % 2 = 1 then ((2 * c) % 0x10000) ^^^ 0x1021 else (2 * c) % 0x10000)

/-- CRC-16/CCITT-FALSE: polynomial 0x1021, initial value 0xFFFF, no reflection, no final XOR (11 R329, 04 R112). -/
def crc16 (bs : List Byte) : Nat :=
  bs.foldl (fun c b => crc16Steps 8 (c ^^^ (b.toNat * 256))) 0xFFFF

/-- Adler-32 of a byte string, the checksum of a zlib trailer (09 R268). -/
def adler32 (bs : List Byte) : Nat :=
  let r := bs.foldl (fun (ab : Nat × Nat) b =>
    let a := (ab.1 + b.toNat) % 65521; (a, (ab.2 + a) % 65521)) (1, 0)
  r.2 * 65536 + r.1

/-! ## SHA-256 and HMAC-SHA-256 (11 R338, 15 R434) -/

/-- The round constants. -/
def shaK : List Nat := [
  0x428a2f98, 0x71374491, 0xb5c0fbcf, 0xe9b5dba5, 0x3956c25b, 0x59f111f1, 0x923f82a4, 0xab1c5ed5,
  0xd807aa98, 0x12835b01, 0x243185be, 0x550c7dc3, 0x72be5d74, 0x80deb1fe, 0x9bdc06a7, 0xc19bf174,
  0xe49b69c1, 0xefbe4786, 0x0fc19dc6, 0x240ca1cc, 0x2de92c6f, 0x4a7484aa, 0x5cb0a9dc, 0x76f988da,
  0x983e5152, 0xa831c66d, 0xb00327c8, 0xbf597fc7, 0xc6e00bf3, 0xd5a79147, 0x06ca6351, 0x14292967] ++ [
  0x27b70a85, 0x2e1b2138, 0x4d2c6dfc, 0x53380d13, 0x650a7354, 0x766a0abb, 0x81c2c92e, 0x92722c85,
  0xa2bfe8a1, 0xa81a664b, 0xc24b8b70, 0xc76c51a3, 0xd192e819, 0xd6990624, 0xf40e3585, 0x106aa070,
  0x19a4c116, 0x1e376c08, 0x2748774c, 0x34b0bcb5, 0x391c0cb3, 0x4ed8aa4a, 0x5b9cca4f, 0x682e6ff3,
  0x748f82ee, 0x78a5636f, 0x84c87814, 0x8cc70208, 0x90befffa, 0xa4506ceb, 0xbef9a3f7, 0xc67178f2]

/-- Rotate a 32-bit word right. -/
def rotr32 (x n : Nat) : Nat := x / pow2 n + (x % pow2 n) * pow2 (32 - n)

/-- The next word of the message schedule from the last sixteen, newest first. -/
def shaNextWord (w : List Nat) : Nat :=
  let x15 := w.getD 14 0
  let x2 := w.getD 1 0
  let s0 := rotr32 x15 7 ^^^ rotr32 x15 18 ^^^ (x15 / pow2 3)
  let s1 := rotr32 x2 17 ^^^ rotr32 x2 19 ^^^ (x2 / pow2 10)
  (w.getD 15 0 + s0 + w.getD 6 0 + s1) % pow2 32

/-- The message schedule, newest word first: n further words. -/
def shaExtend : Nat → List Nat → List Nat
  | 0, w => w
  | n + 1, w => shaExtend n (shaNextWord w :: w)

/-- The eight working variables. -/
structure ShaState where
  a : Nat
  b : Nat
  c : Nat
  d : Nat
  e : Nat
  f : Nat
  g : Nat
  h : Nat
  deriving DecidableEq, Repr

/-- One round. -/
def shaRound (s : ShaState) (kw : Nat × Nat) : ShaState :=
  let s1 := rotr32 s.e 6 ^^^ rotr32 s.e 11 ^^^ rotr32 s.e 25
  let ch := (s.e &&& s.f) ^^^ ((s.e ^^^ 0xFFFFFFFF) &&& s.g)
  let t1 := s.h + s1 + ch + kw.1 + kw.2
  let s0 := rotr32 s.a 2 ^^^ rotr32 s.a 13 ^^^ rotr32 s.a 22
  let maj := (s.a &&& s.b) ^^^ (s.a &&& s.c) ^^^ (s.b &&& s.c)
  ⟨(t1 + s0 + maj) % pow2 32, s.a, s.b, s.c, (s.d + t1) % pow2 32, s.e, s.f, s.g⟩

/-- One block of 64 bytes. -/
def shaBlock (s : ShaState) (block : List Byte) : ShaState :=
  let w16 := ((chunks 4 block).map ofBe).reverse
  let w := (shaExtend 48 w16).reverse
  let r := (shaK.zip w).foldl shaRound s
  ⟨(s.a + r.a) % pow2 32, (s.b + r.b) % pow2 32, (s.c + r.c) % pow2 32, (s.d + r.d) % pow2 32,
   (s.e + r.e) % pow2 32, (s.f + r.f) % pow2 32, (s.g + r.g) % pow2 32, (s.h + r.h) % pow2 32⟩

/-- SHA-256 of a byte string, 32 bytes. -/
def sha256 (bs : List Byte) : List Byte :=
  let padded := bs ++ [0x80] ++ zeros ((119 - bs.length % 64) % 64) ++ beBytes 8 (8 * bs.length)
  let r := (chunks 64 padded).foldl shaBlock
    ⟨0x6a09e667, 0xbb67ae85, 0x3c6ef372, 0xa54ff53a, 0x510e527f, 0x9b05688c, 0x1f83d9ab, 0x5be0cd19⟩
  [r.a, r.b, r.c, r.d, r.e, r.f, r.g, r.h].flatMap (beBytes 4)

/-- HMAC-SHA-256 with a key of at most 64 bytes (11 R338). -/
def hmacSha256 (key msg : List Byte) : List Byte :=
  let k := key ++ zeros (64 - key.length)
  sha256 (k.map (· ^^^ 0x5C) ++ sha256 (k.map (· ^^^ 0x36) ++ msg))

end Sys2Proof.Machine
end

