-- ==== Sys2Proof/Machine/Keys.lean ====
section
/-! DEFINITION. The keys of the dictionary entries (02 R31): index·256 + subindex, one name per row of the spec's entry tables.
Repeated blocks take the instance as `n` (and the plane as `q`), repeated subindices their offset `j`. -/

namespace Sys2Proof.Machine

/-- The key of index:sub (02 R31). -/
def key (index sub : Nat) : Nat := index * 256 + sub

/-- `VendorName` (02 R62). -/
def Key.vendorName : Nat := 0x100001

/-- `DeviceName` (02 R62). -/
def Key.deviceName : Nat := 0x100002

/-- `VendorId` (02 R62). -/
def Key.vendorId : Nat := 0x100003

/-- `DeviceId` (02 R62). -/
def Key.deviceId : Nat := 0x100004

/-- `Stepping` (02 R62). -/
def Key.stepping : Nat := 0x100005

/-- `Grade` (02 R62). -/
def Key.grade : Nat := 0x100006

/-- `SerialNumber` (02 R62). -/
def Key.serialNumber : Nat := 0x100007

/-- `FirmwareVersion` (02 R62). -/
def Key.firmwareVersion : Nat := 0x100008

/-- `BootRomVersion` (02 R62). -/
def Key.bootRomVersion : Nat := 0x100009

/-- `DictVersion` (02 R62). -/
def Key.dictVersion : Nat := 0x10000A

/-- `PipelineCount` (02 R62). -/
def Key.pipelineCount : Nat := 0x10000B

/-- `PortCount` (02 R62). -/
def Key.portCount : Nat := 0x10000C

/-- `LaneCount` (02 R62). -/
def Key.partLaneCount : Nat := 0x10000D

/-- `EntryCount` (02 R62). -/
def Key.entryCount : Nat := 0x10000E

/-- `StateRequest` (02 R62). -/
def Key.stateRequest : Nat := 0x110001

/-- `State` (02 R62). -/
def Key.state : Nat := 0x110002

/-- `RunSubState` (02 R62). -/
def Key.runSubState : Nat := 0x110003

/-- `AutoResume` (02 R62). -/
def Key.autoResume : Nat := 0x110004

/-- `CheckFailEntry` (02 R62). -/
def Key.checkFailEntry : Nat := 0x110005

/-- `CheckFailResult` (02 R62). -/
def Key.checkFailResult : Nat := 0x110006

/-- `StripIndex` (02 R62). -/
def Key.stripIndex : Nat := 0x110101

/-- `WorldLine` (02 R62). -/
def Key.worldLine : Nat := 0x110102

/-- `RunEntryTime` (02 R62). -/
def Key.runEntryTime : Nat := 0x110103

/-- `HostLastResult` (02 R62). -/
def Key.hostLastResult : Nat := 0x110201

/-- `HostLastTarget` (02 R62). -/
def Key.hostLastTarget : Nat := 0x110202

/-- `HostLastSeq` (02 R62). -/
def Key.hostLastSeq : Nat := 0x110203

/-- `HostRefusedCount` (02 R62). -/
def Key.hostRefusedCount : Nat := 0x110204

/-- `EffectiveQuery` (02 R62). -/
def Key.effectiveQuery : Nat := 0x110301

/-- `EffectiveValue` (02 R62). -/
def Key.effectiveValue : Nat := 0x110302

/-- `EffectivePending` (02 R62). -/
def Key.effectivePending : Nat := 0x110303

/-- `ShadowHold` (02 R62). -/
def Key.shadowHold : Nat := 0x110401

/-- `ShadowHoldLimit` (02 R62). -/
def Key.shadowHoldLimit : Nat := 0x110402

/-- `PendingCount` (02 R62). -/
def Key.pendingCount : Nat := 0x110403

/-- `ClaimRange` (02 R62). -/
def Key.claimRange : Nat := 0x111001

/-- `ReleaseRange` (02 R62). -/
def Key.releaseRange : Nat := 0x111002

/-- `BreakRange` (02 R62). -/
def Key.breakRange : Nat := 0x111003

/-- `OwnToken` (02 R62). -/
def Key.ownToken : Nat := 0x111004

/-- `ReclaimToken` (02 R62). -/
def Key.reclaimToken : Nat := 0x111005

/-- `ClaimHoldTime` (02 R62). -/
def Key.claimHoldTime : Nat := 0x111006

/-- `RangeOwner` (02 R62). -/
def Key.rangeOwner (j : Nat) : Nat := key (0x1111) (0x01 + j)

/-- `JournalHeadSeq` (02 R62). -/
def Key.journalHeadSeq : Nat := 0x120001

/-- `JournalTailSeq` (02 R62). -/
def Key.journalTailSeq : Nat := 0x120002

/-- `JournalReadSeq` (02 R62). -/
def Key.journalReadSeq : Nat := 0x120003

/-- `JournalWord` (02 R62). -/
def Key.journalWord (j : Nat) : Nat := key (0x1200) (0x04 + j)

/-- `JournalReadResult` (02 R62). -/
def Key.journalReadResult : Nat := 0x120008

/-- `JournalEpoch` (02 R62). -/
def Key.journalEpoch : Nat := 0x120009

/-- `SaveCommand` (02 R62). -/
def Key.saveCommand : Nat := 0x130001

/-- `RestoreCommand` (02 R62). -/
def Key.restoreCommand : Nat := 0x130002

/-- `SaveStatus` (02 R62). -/
def Key.saveStatus : Nat := 0x130003

/-- `ImageGenA` (02 R62). -/
def Key.imageGenA : Nat := 0x130004

/-- `ImageGenB` (02 R62). -/
def Key.imageGenB : Nat := 0x130005

/-- `ImageValid` (02 R62). -/
def Key.imageValid : Nat := 0x130006

/-- `ImageBytes` (02 R62). -/
def Key.imageBytes : Nat := 0x130007

/-- `SegTarget` (02 R62). -/
def Key.segTarget : Nat := 0x130101

/-- `SegMode` (02 R62). -/
def Key.segMode : Nat := 0x130102

/-- `SegLength` (02 R62). -/
def Key.segLength : Nat := 0x130103

/-- `SegCrc` (02 R62). -/
def Key.segCrc : Nat := 0x130104

/-- `SegStart` (02 R62). -/
def Key.segStart : Nat := 0x130105

/-- `SegOffset` (02 R62). -/
def Key.segOffset : Nat := 0x130106

/-- `SegStatus` (02 R62). -/
def Key.segStatus : Nat := 0x130107

/-- `SegResult` (02 R62). -/
def Key.segResult : Nat := 0x130108

/-- `SegTimeout` (02 R62). -/
def Key.segTimeout : Nat := 0x130109

/-- `SegStep` (02 R62). -/
def Key.segStep : Nat := 0x13010A

/-- `SegData` (02 R62). -/
def Key.segData (j : Nat) : Nat := key (0x1302) (0x01 + j)

/-- `TickSource` (03 R100). -/
def Key.tickSource : Nat := 0x600001

/-- `TickLines` (03 R100). -/
def Key.tickLines : Nat := 0x600002

/-- `TickPeriod` (03 R100). -/
def Key.tickPeriod : Nat := 0x600003

/-- `TickEventChannel` (03 R100). -/
def Key.tickEventChannel : Nat := 0x600004

/-- `ForcedTickCount` (03 R100). -/
def Key.forcedTickCount : Nat := 0x600005

/-- `DeferredTickCount` (03 R100). -/
def Key.deferredTickCount : Nat := 0x600006

/-- `MergedTickEvents` (03 R100). -/
def Key.mergedTickEvents : Nat := 0x600007

/-- `LastPeriod` (03 R100). -/
def Key.lastPeriod : Nat := 0x600008

/-- `Lag` (03 R100). -/
def Key.lag : Nat := 0x600101

/-- `LagPeak` (03 R100). -/
def Key.lagPeak : Nat := 0x600102

/-- `LagMax` (03 R100). -/
def Key.lagMax : Nat := 0x600103

/-- `LagAbort` (03 R100). -/
def Key.lagAbort : Nat := 0x600104

/-- `RepayTicks` (03 R100). -/
def Key.repayTicks : Nat := 0x600105

/-- `LateStripCount` (03 R100). -/
def Key.lateStripCount : Nat := 0x600106

/-- `PassThroughCount` (03 R100). -/
def Key.passThroughCount : Nat := 0x600107

/-- `ShedMask` (03 R100). -/
def Key.shedMask : Nat := 0x600108

/-- `ShedStripCount` (03 R100). -/
def Key.shedStripCount : Nat := 0x600109

/-- `LagEngine` (03 R100). -/
def Key.lagEngine : Nat := 0x60010A

/-- `OpNow` (03 R100). -/
def Key.opNow : Nat := 0x600201

/-- `OpMin` (03 R100). -/
def Key.opMin : Nat := 0x600202

/-- `OpMax` (03 R100). -/
def Key.opMax : Nat := 0x600203

/-- `OpCeiling` (03 R100). -/
def Key.opCeiling : Nat := 0x600204

/-- `OpRequired` (03 R100). -/
def Key.opRequired : Nat := 0x600205

/-- `CriticalEngine` (03 R100). -/
def Key.criticalEngine : Nat := 0x600206

/-- `OpTickCount` (03 R100). -/
def Key.opTickCount (j : Nat) : Nat := key (0x6003) (0x01 + j)

/-- `EngineWork` (03 R100). -/
def Key.engineWork (j : Nat) : Nat := key (0x6004) (0x01 + j)

/-- `EngineBacklog` (03 R100). -/
def Key.engineBacklog (j : Nat) : Nat := key (0x6005) (0x01 + j)

/-- `PortPlacement` (03 R100). -/
def Key.portPlacement (j : Nat) : Nat := key (0x6020) (0x01 + j)

/-- `PortEpoch` (03 R100). -/
def Key.portEpoch (j : Nat) : Nat := key (0x6021) (0x01 + j)

/-- `PlacementEpoch` (03 R100). -/
def Key.placementEpoch : Nat := 0x602201

/-- `AutoMigrate` (03 R100). -/
def Key.autoMigrate : Nat := 0x602202

/-- `MigrationCount` (03 R100). -/
def Key.migrationCount : Nat := 0x602203

/-- `PipelineInService` (03 R100). -/
def Key.pipelineInService (j : Nat) : Nat := key (0x6023) (0x01 + j)

/-- `PortEnable` (04 R137). -/
def Key.portEnable (n : Nat) : Nat := key (0x2000 + 0x100 * n) (0x01)

/-- `LaneCount` (04 R137). -/
def Key.laneCount (n : Nat) : Nat := key (0x2000 + 0x100 * n) (0x02)

/-- `LaneRate` (04 R137). -/
def Key.laneRate (n : Nat) : Nat := key (0x2000 + 0x100 * n) (0x03)

/-- `LanePolarity` (04 R137). -/
def Key.lanePolarity (n : Nat) : Nat := key (0x2000 + 0x100 * n) (0x04)

/-- `PortPowerRequest` (04 R137). -/
def Key.portPowerRequest (n : Nat) : Nat := key (0x2000 + 0x100 * n) (0x05)

/-- `TriggerMode` (04 R137). -/
def Key.triggerMode (n : Nat) : Nat := key (0x2000 + 0x100 * n) (0x06)

/-- `PortState` (04 R137). -/
def Key.portState (n : Nat) : Nat := key (0x2001 + 0x100 * n) (0x01)

/-- `LaneStates` (04 R137). -/
def Key.laneStates (n : Nat) : Nat := key (0x2001 + 0x100 * n) (0x02)

/-- `LaneMap` (04 R137). -/
def Key.laneMap (n : Nat) : Nat := key (0x2001 + 0x100 * n) (0x03)

/-- `Skew` (04 R137). -/
def Key.skew (n : Nat) : Nat := key (0x2001 + 0x100 * n) (0x04)

/-- `LinkUpCount` (04 R137). -/
def Key.linkUpCount (n : Nat) : Nat := key (0x2001 + 0x100 * n) (0x05)

/-- `LinkDownCount` (04 R137). -/
def Key.linkDownCount (n : Nat) : Nat := key (0x2001 + 0x100 * n) (0x06)

/-- `BipErrors` (04 R137). -/
def Key.bipErrors (n : Nat) : Nat := key (0x2001 + 0x100 * n) (0x07)

/-- `HeaderErrors` (04 R137). -/
def Key.headerErrors (n : Nat) : Nat := key (0x2001 + 0x100 * n) (0x08)

/-- `MarkerErrors` (04 R137). -/
def Key.markerErrors (n : Nat) : Nat := key (0x2001 + 0x100 * n) (0x09)

/-- `CreditLimit` (04 R137). -/
def Key.creditLimit (n : Nat) : Nat := key (0x2002 + 0x100 * n) (0x01)

/-- `CreditsConsumed` (04 R137). -/
def Key.creditsConsumed (n : Nat) : Nat := key (0x2002 + 0x100 * n) (0x02)

/-- `BufferFill` (04 R137). -/
def Key.bufferFill (n : Nat) : Nat := key (0x2002 + 0x100 * n) (0x03)

/-- `BufferPeak` (04 R137). -/
def Key.bufferPeak (n : Nat) : Nat := key (0x2002 + 0x100 * n) (0x04)

/-- `CreditStallTime` (04 R137). -/
def Key.creditStallTime (n : Nat) : Nat := key (0x2002 + 0x100 * n) (0x05)

/-- `CamLinesHeld` (04 R137). -/
def Key.camLinesHeld (n : Nat) : Nat := key (0x2002 + 0x100 * n) (0x06)

/-- `CamLinesDropped` (04 R137). -/
def Key.camLinesDropped (n : Nat) : Nat := key (0x2002 + 0x100 * n) (0x07)

/-- `CamStatus` (04 R137). -/
def Key.camStatus (n : Nat) : Nat := key (0x2002 + 0x100 * n) (0x08)

/-- `CamTemperature` (04 R137). -/
def Key.camTemperature (n : Nat) : Nat := key (0x2002 + 0x100 * n) (0x09)

/-- `TrigOffset` (04 R137). -/
def Key.trigOffset (n : Nat) : Nat := key (0x2003 + 0x100 * n) (0x01)

/-- `CamTimeOffset` (04 R137). -/
def Key.camTimeOffset (n : Nat) : Nat := key (0x2003 + 0x100 * n) (0x02)

/-- `BeaconPeriod` (04 R137). -/
def Key.beaconPeriod (n : Nat) : Nat := key (0x2003 + 0x100 * n) (0x03)

/-- `CamSilentTimeout` (04 R137). -/
def Key.camSilentTimeout (n : Nat) : Nat := key (0x2003 + 0x100 * n) (0x04)

/-- `TrigLineTimeout` (04 R137). -/
def Key.trigLineTimeout (n : Nat) : Nat := key (0x2003 + 0x100 * n) (0x05)

/-- `TriggerMergedCount` (04 R137). -/
def Key.triggerMergedCount (n : Nat) : Nat := key (0x2003 + 0x100 * n) (0x06)

/-- `PixelFormat` (04 R137). -/
def Key.pixelFormat (n : Nat) : Nat := key (0x2004 + 0x100 * n) (0x01)

/-- `CamLineLength` (04 R137). -/
def Key.camLineLength (n : Nat) : Nat := key (0x2004 + 0x100 * n) (0x02)

/-- `ColourMode` (04 R137). -/
def Key.colourMode (n : Nat) : Nat := key (0x2004 + 0x100 * n) (0x03)

/-- `CamFillValue` (04 R137). -/
def Key.camFillValue (n : Nat) : Nat := key (0x2004 + 0x100 * n) (0x04)

/-- `CamLineRateMax` (04 R137). -/
def Key.camLineRateMax (n : Nat) : Nat := key (0x2004 + 0x100 * n) (0x05)

/-- `PipeWeight` (04 R137). -/
def Key.pipeWeight (n : Nat) : Nat := key (0x2004 + 0x100 * n) (0x06)

/-- `LinePackets` (04 R137). -/
def Key.linePackets (n : Nat) : Nat := key (0x2005 + 0x100 * n) (0x01)

/-- `HdrCrcErrors` (04 R137). -/
def Key.hdrCrcErrors (n : Nat) : Nat := key (0x2005 + 0x100 * n) (0x02)

/-- `PayloadCrcErrors` (04 R137). -/
def Key.payloadCrcErrors (n : Nat) : Nat := key (0x2005 + 0x100 * n) (0x03)

/-- `FramingErrors` (04 R137). -/
def Key.framingErrors (n : Nat) : Nat := key (0x2005 + 0x100 * n) (0x04)

/-- `ShortLines` (04 R137). -/
def Key.shortLines (n : Nat) : Nat := key (0x2005 + 0x100 * n) (0x05)

/-- `LongLines` (04 R137). -/
def Key.longLines (n : Nat) : Nat := key (0x2005 + 0x100 * n) (0x06)

/-- `LinesOutsideRun` (04 R137). -/
def Key.linesOutsideRun (n : Nat) : Nat := key (0x2005 + 0x100 * n) (0x07)

/-- `CreditViolations` (04 R137). -/
def Key.creditViolations (n : Nat) : Nat := key (0x2005 + 0x100 * n) (0x08)

/-- `LastTrigSeq` (04 R137). -/
def Key.lastTrigSeq (n : Nat) : Nat := key (0x2006 + 0x100 * n) (0x01)

/-- `LedgerMissCount` (04 R137). -/
def Key.ledgerMissCount (n : Nat) : Nat := key (0x2006 + 0x100 * n) (0x02)

/-- `LedgerFutureCount` (04 R137). -/
def Key.ledgerFutureCount (n : Nat) : Nat := key (0x2006 + 0x100 * n) (0x03)

/-- `DuplicateLines` (04 R137). -/
def Key.duplicateLines (n : Nat) : Nat := key (0x2006 + 0x100 * n) (0x04)

/-- `LinesLost` (04 R137). -/
def Key.linesLost (n : Nat) : Nat := key (0x2006 + 0x100 * n) (0x05)

/-- `TriggerOverwrite` (04 R137). -/
def Key.triggerOverwrite (n : Nat) : Nat := key (0x2006 + 0x100 * n) (0x06)

/-- `ModeMismatchCount` (04 R137). -/
def Key.modeMismatchCount (n : Nat) : Nat := key (0x2006 + 0x100 * n) (0x07)

/-- `LedgerReadSeq` (04 R137). -/
def Key.ledgerReadSeq (n : Nat) : Nat := key (0x2006 + 0x100 * n) (0x08)

/-- `LedgerWord` (04 R137). -/
def Key.ledgerWord (n j : Nat) : Nat := key (0x2006 + 0x100 * n) (0x09 + j)

/-- `LedgerReadResult` (04 R137). -/
def Key.ledgerReadResult (n : Nat) : Nat := key (0x2006 + 0x100 * n) (0x0D)

/-- `TunnelRequest` (04 R137). -/
def Key.tunnelRequest (n : Nat) : Nat := key (0x2007 + 0x100 * n) (0x01)

/-- `TunnelResponse` (04 R137). -/
def Key.tunnelResponse (n : Nat) : Nat := key (0x2007 + 0x100 * n) (0x02)

/-- `TunnelStatus` (04 R137). -/
def Key.tunnelStatus (n : Nat) : Nat := key (0x2007 + 0x100 * n) (0x03)

/-- `TunnelTimeout` (04 R137). -/
def Key.tunnelTimeout (n : Nat) : Nat := key (0x2007 + 0x100 * n) (0x04)

/-- `CorrTableLo` (05 R165). -/
def Key.corrTableLo (n q : Nat) : Nat := key (0x3800 + 0x10 * n + q) (0x01)

/-- `CorrTableHi` (05 R165). -/
def Key.corrTableHi (n q : Nat) : Nat := key (0x3800 + 0x10 * n + q) (0x02)

/-- `DefectColumns` (05 R165). -/
def Key.defectColumns (n : Nat) : Nat := key (0x3804 + 0x10 * n) (0x01)

/-- `ToneLut` (05 R165). -/
def Key.toneLut (n q : Nat) : Nat := key (0x3808 + 0x10 * n + q) (0x01)

/-- `PixelParams` (05 R165). -/
def Key.pixelParams (n : Nat) : Nat := key (0x380C + 0x10 * n) (0x01)

/-- `PipeSamples` (05 R167). -/
def Key.pipeSamples (n : Nat) : Nat := key (0x3000 + 0x100 * n) (0x01)

/-- `PipeSwitches` (05 R167). -/
def Key.pipeSwitches (n : Nat) : Nat := key (0x3000 + 0x100 * n) (0x02)

/-- `PipePorts` (05 R167). -/
def Key.pipePorts (n : Nat) : Nat := key (0x3000 + 0x100 * n) (0x03)

/-- `PipeShareLoad` (05 R167). -/
def Key.pipeShareLoad (n : Nat) : Nat := key (0x3000 + 0x100 * n) (0x04)

/-- `CorrSramUsed` (05 R167). -/
def Key.corrSramUsed (n : Nat) : Nat := key (0x3000 + 0x100 * n) (0x05)

/-- `PipeOutputWait` (05 R167). -/
def Key.pipeOutputWait (n : Nat) : Nat := key (0x3000 + 0x100 * n) (0x06)

/-- `SatDarkFlat` (05 R167). -/
def Key.satDarkFlat (n : Nat) : Nat := key (0x3001 + 0x100 * n) (0x01)

/-- `SatWhiteBalance` (05 R167). -/
def Key.satWhiteBalance (n : Nat) : Nat := key (0x3001 + 0x100 * n) (0x02)

/-- `SatMatrix` (05 R167). -/
def Key.satMatrix (n : Nat) : Nat := key (0x3001 + 0x100 * n) (0x03)

/-- `SatLuma` (05 R167). -/
def Key.satLuma (n : Nat) : Nat := key (0x3001 + 0x100 * n) (0x04)

/-- `PlanesDiscarded` (05 R167). -/
def Key.planesDiscarded (n : Nat) : Nat := key (0x3001 + 0x100 * n) (0x05)

/-- `TableLoadCount` (05 R167). -/
def Key.tableLoadCount (n : Nat) : Nat := key (0x3002 + 0x100 * n) (0x01)

/-- `TableLoadLast` (05 R167). -/
def Key.tableLoadLast (n : Nat) : Nat := key (0x3002 + 0x100 * n) (0x02)

/-- `TableLoadWait` (05 R167). -/
def Key.tableLoadWait (n : Nat) : Nat := key (0x3002 + 0x100 * n) (0x03)

/-- `WorldWidth` (06 R198). -/
def Key.worldWidth : Nat := 0x400001

/-- `PitchX` (06 R198). -/
def Key.pitchX : Nat := 0x400002

/-- `PitchY` (06 R198). -/
def Key.pitchY : Nat := 0x400003

/-- `OriginX` (06 R198). -/
def Key.originX : Nat := 0x400004

/-- `WorldPlanes` (06 R198). -/
def Key.worldPlanes : Nat := 0x400005

/-- `AlongTaps` (06 R198). -/
def Key.alongTaps : Nat := 0x400006

/-- `AlongKernel` (06 R198). -/
def Key.alongKernel : Nat := 0x400007

/-- `ExpCentreEn` (06 R198). -/
def Key.expCentreEn : Nat := 0x400008

/-- `CoordMode` (06 R198). -/
def Key.coordMode : Nat := 0x400009

/-- `UncoveredValue` (06 R198). -/
def Key.uncoveredValue : Nat := 0x40000A

/-- `PortWaitMax` (06 R198). -/
def Key.portWaitMax : Nat := 0x40000B

/-- `GeomSramUsed` (06 R198). -/
def Key.geomSramUsed : Nat := 0x40000C

/-- `TruncLinesUsed` (06 R198). -/
def Key.truncLinesUsed : Nat := 0x40000D

/-- `EdgeTrackEn` (06 R198). -/
def Key.edgeTrackEn : Nat := 0x400101

/-- `EdgeThreshold` (06 R198). -/
def Key.edgeThreshold : Nat := 0x400102

/-- `EdgePolarity` (06 R198). -/
def Key.edgePolarity : Nat := 0x400103

/-- `EdgeRunMin` (06 R198). -/
def Key.edgeRunMin : Nat := 0x400104

/-- `EdgeFilterShift` (06 R198). -/
def Key.edgeFilterShift : Nat := 0x400105

/-- `EdgeJumpMax` (06 R198). -/
def Key.edgeJumpMax : Nat := 0x400106

/-- `EdgeLostLines` (06 R198). -/
def Key.edgeLostLines : Nat := 0x400107

/-- `EdgeInset` (06 R198). -/
def Key.edgeInset : Nat := 0x400108

/-- `EdgeLeft` (06 R198). -/
def Key.edgeLeft : Nat := 0x400109

/-- `EdgeRight` (06 R198). -/
def Key.edgeRight : Nat := 0x40010A

/-- `EdgeRejects` (06 R198). -/
def Key.edgeRejects : Nat := 0x40010B

/-- `EdgeLostCount` (06 R198). -/
def Key.edgeLostCount : Nat := 0x40010C

/-- `GainMatchEn` (06 R198). -/
def Key.gainMatchEn : Nat := 0x400201

/-- `GainRefPort` (06 R198). -/
def Key.gainRefPort : Nat := 0x400202

/-- `GainStepMax` (06 R198). -/
def Key.gainStepMax : Nat := 0x400203

/-- `GainMin` (06 R198). -/
def Key.gainMin : Nat := 0x400204

/-- `GainMax` (06 R198). -/
def Key.gainMax : Nat := 0x400205

/-- `GainMinPixels` (06 R198). -/
def Key.gainMinPixels : Nat := 0x400206

/-- `GainApply` (06 R198). -/
def Key.gainApply : Nat := 0x400207

/-- `GainFloor` (06 R198). -/
def Key.gainFloor : Nat := 0x400208

/-- `WorldLinesFormed` (06 R198). -/
def Key.worldLinesFormed : Nat := 0x400301

/-- `GapSynthCount` (06 R198). -/
def Key.gapSynthCount : Nat := 0x400302

/-- `SpanCount` (06 R198). -/
def Key.spanCount : Nat := 0x400303

/-- `LateLines` (06 R198). -/
def Key.lateLines : Nat := 0x400304

/-- `BackwardLines` (06 R198). -/
def Key.backwardLines : Nat := 0x400305

/-- `PortWaitExpired` (06 R198). -/
def Key.portWaitExpired : Nat := 0x400306

/-- `SpillFullCount` (06 R198). -/
def Key.spillFullCount : Nat := 0x400307

/-- `RecordHoldTime` (06 R198). -/
def Key.recordHoldTime : Nat := 0x400308

/-- `CovFirst` (06 R199). -/
def Key.covFirst (n : Nat) : Nat := key (0x4100 + n) (0x01)

/-- `CovLast` (06 R199). -/
def Key.covLast (n : Nat) : Nat := key (0x4100 + n) (0x02)

/-- `CrossKernel` (06 R199). -/
def Key.crossKernel (n : Nat) : Nat := key (0x4100 + n) (0x03)

/-- `AlongOffset` (06 R199). -/
def Key.alongOffset (n : Nat) : Nat := key (0x4100 + n) (0x04)

/-- `MergeMode` (06 R199). -/
def Key.mergeMode (n : Nat) : Nat := key (0x4100 + n) (0x05)

/-- `SeamColumn` (06 R199). -/
def Key.seamColumn (n : Nat) : Nat := key (0x4100 + n) (0x06)

/-- `FeatherWidth` (06 R199). -/
def Key.featherWidth (n : Nat) : Nat := key (0x4100 + n) (0x07)

/-- `PortGain` (06 R199). -/
def Key.portGain (n : Nat) : Nat := key (0x4100 + n) (0x08)

/-- `PortGainNow` (06 R199). -/
def Key.portGainNow (n : Nat) : Nat := key (0x4100 + n) (0x09)

/-- `PlaneResidual` (06 R199). -/
def Key.planeResidual (n j : Nat) : Nat := key (0x4100 + n) (0x0A + j)

/-- `PortLinesUsed` (06 R199). -/
def Key.portLinesUsed (n : Nat) : Nat := key (0x4100 + n) (0x0D)

/-- `PortGapState` (06 R199). -/
def Key.portGapState (n : Nat) : Nat := key (0x4100 + n) (0x0E)

/-- `PortSpillPeak` (06 R199). -/
def Key.portSpillPeak (n : Nat) : Nat := key (0x4100 + n) (0x0F)

/-- `KnotMap` (06 R200). -/
def Key.knotMap (n : Nat) : Nat := key (0x3900 + n) (0x01)

/-- `ReefEnable` (07 R226). -/
def Key.reefEnable : Nat := 0x440001

/-- `RefModel` (07 R226). -/
def Key.refModel : Nat := 0x440002

/-- `RefTolerance` (07 R226). -/
def Key.refTolerance : Nat := 0x440003

/-- `PeriodLines` (07 R226). -/
def Key.periodLines : Nat := 0x440004

/-- `StreakLimit` (07 R226). -/
def Key.streakLimit : Nat := 0x440005

/-- `EmitUnclassified` (07 R226). -/
def Key.emitUnclassified : Nat := 0x440006

/-- `RefStoreBase` (07 R226). -/
def Key.refStoreBase : Nat := 0x440007

/-- `RefStoreSize` (07 R226). -/
def Key.refStoreSize : Nat := 0x440008

/-- `ColFreeze` (07 R226). -/
def Key.colFreeze : Nat := 0x440101

/-- `LearnShift` (07 R226). -/
def Key.learnShift : Nat := 0x440102

/-- `BandScale` (07 R226). -/
def Key.bandScale : Nat := 0x440103

/-- `BandMin` (07 R226). -/
def Key.bandMin : Nat := 0x440104

/-- `LearnLines` (07 R226). -/
def Key.learnLines : Nat := 0x440105

/-- `ColModelValid` (07 R226). -/
def Key.colModelValid : Nat := 0x440106

/-- `ColModelClear` (07 R226). -/
def Key.colModelClear : Nat := 0x440107

/-- `GoldenBase` (07 R226). -/
def Key.goldenBase : Nat := 0x440201

/-- `GoldenWidth` (07 R226). -/
def Key.goldenWidth : Nat := 0x440202

/-- `GoldenHeight` (07 R226). -/
def Key.goldenHeight : Nat := 0x440203

/-- `GoldenStride` (07 R226). -/
def Key.goldenStride : Nat := 0x440204

/-- `GoldenColOffset` (07 R226). -/
def Key.goldenColOffset : Nat := 0x440205

/-- `GoldenLineOffset` (07 R226). -/
def Key.goldenLineOffset : Nat := 0x440206

/-- `RefStoreWriteAddr` (07 R226). -/
def Key.refStoreWriteAddr : Nat := 0x440207

/-- `RefStoreWriteData` (07 R226). -/
def Key.refStoreWriteData : Nat := 0x440208

/-- `ClassTable` (07 R226). -/
def Key.classTable : Nat := 0x442001

/-- `MapEnable` (07 R227). -/
def Key.mapEnable (n : Nat) : Nat := key (0x4410 + n) (0x01)

/-- `SeedThr` (07 R227). -/
def Key.seedThr (n : Nat) : Nat := key (0x4410 + n) (0x02)

/-- `GrowThr` (07 R227). -/
def Key.growThr (n : Nat) : Nat := key (0x4410 + n) (0x03)

/-- `BandSource` (07 R227). -/
def Key.bandSource (n : Nat) : Nat := key (0x4410 + n) (0x04)

/-- `SeedLow` (07 R227). -/
def Key.seedLow (n : Nat) : Nat := key (0x4410 + n) (0x05)

/-- `SeedHigh` (07 R227). -/
def Key.seedHigh (n : Nat) : Nat := key (0x4410 + n) (0x06)

/-- `GrowLow` (07 R227). -/
def Key.growLow (n : Nat) : Nat := key (0x4410 + n) (0x07)

/-- `GrowHigh` (07 R227). -/
def Key.growHigh (n : Nat) : Nat := key (0x4410 + n) (0x08)

/-- `PieceEnable` (07 R228). -/
def Key.pieceEnable : Nat := 0x443001

/-- `PieceStartChannel` (07 R228). -/
def Key.pieceStartChannel : Nat := 0x443002

/-- `PieceEndMode` (07 R228). -/
def Key.pieceEndMode : Nat := 0x443003

/-- `PieceEndChannel` (07 R228). -/
def Key.pieceEndChannel : Nat := 0x443004

/-- `PieceLength` (07 R228). -/
def Key.pieceLength : Nat := 0x443005

/-- `PieceLineOffset` (07 R228). -/
def Key.pieceLineOffset : Nat := 0x443006

/-- `PieceOriginCol` (07 R228). -/
def Key.pieceOriginCol : Nat := 0x443007

/-- `PieceColMode` (07 R228). -/
def Key.pieceColMode : Nat := 0x443008

/-- `PieceOriginMode` (07 R228). -/
def Key.pieceOriginMode : Nat := 0x443009

/-- `PieceEndOffset` (07 R228). -/
def Key.pieceEndOffset : Nat := 0x44300A

/-- `PieceIdNow` (07 R228). -/
def Key.pieceIdNow : Nat := 0x44300B

/-- `RegionsOpen` (07 R229). -/
def Key.regionsOpen : Nat := 0x444001

/-- `RegionsPeak` (07 R229). -/
def Key.regionsPeak : Nat := 0x444002

/-- `RegionsClosed` (07 R229). -/
def Key.regionsClosed : Nat := 0x444003

/-- `RecordsEmitted` (07 R229). -/
def Key.recordsEmitted : Nat := 0x444004

/-- `MergeCount` (07 R229). -/
def Key.mergeCount : Nat := 0x444005

/-- `ForcedCloseCount` (07 R229). -/
def Key.forcedCloseCount : Nat := 0x444006

/-- `OverflowRuns` (07 R229). -/
def Key.overflowRuns : Nat := 0x444007

/-- `UnclassifiedCount` (07 R229). -/
def Key.unclassifiedCount : Nat := 0x444008

/-- `UnclassifiedSuppressed` (07 R229). -/
def Key.unclassifiedSuppressed : Nat := 0x444009

/-- `OverflowRecords` (07 R229). -/
def Key.overflowRecords : Nat := 0x44400A

/-- `RefInvalidPixels` (07 R229). -/
def Key.refInvalidPixels : Nat := 0x44400B

/-- `RefLinesMissing` (07 R229). -/
def Key.refLinesMissing : Nat := 0x44400C

/-- `OutsideGoldenPixels` (07 R229). -/
def Key.outsideGoldenPixels : Nat := 0x44400D

/-- `GrowOnlyRuns` (07 R229). -/
def Key.growOnlyRuns : Nat := 0x44400E

/-- `PieceEndIgnored` (07 R229). -/
def Key.pieceEndIgnored : Nat := 0x44400F

/-- `RecordQueuePeak` (07 R229). -/
def Key.recordQueuePeak : Nat := 0x444010

/-- `ReefStallTime` (07 R229). -/
def Key.reefStallTime : Nat := 0x444011

/-- `ClassRecordCount` (07 R229). -/
def Key.classRecordCount (j : Nat) : Nat := key (0x4441) (0x01 + j)

/-- `ColModel` (07 R230). -/
def Key.colModel (j : Nat) : Nat := key (0x4480) (0x01 + j)

/-- `AtollEnable` (08 R249). -/
def Key.atollEnable : Nat := 0x500001

/-- `AtollScale` (08 R249). -/
def Key.atollScale : Nat := 0x500002

/-- `GridCols` (08 R249). -/
def Key.gridCols : Nat := 0x500101

/-- `GridRows` (08 R249). -/
def Key.gridRows : Nat := 0x500102

/-- `GridPitchX` (08 R249). -/
def Key.gridPitchX : Nat := 0x500103

/-- `GridPitchY` (08 R249). -/
def Key.gridPitchY : Nat := 0x500104

/-- `GridColOfs` (08 R249). -/
def Key.gridColOfs : Nat := 0x500105

/-- `GridLineOfs` (08 R249). -/
def Key.gridLineOfs : Nat := 0x500106

/-- `ApertureShape` (08 R249). -/
def Key.apertureShape : Nat := 0x500107

/-- `ApertureHalf` (08 R249). -/
def Key.apertureHalf : Nat := 0x500108

/-- `CellSramUsed` (08 R249). -/
def Key.cellSramUsed : Nat := 0x500109

/-- `PhaseCount` (08 R249). -/
def Key.phaseCount : Nat := 0x500201

/-- `PhaseDwell` (08 R249). -/
def Key.phaseDwell : Nat := 0x500202

/-- `PhaseGuard` (08 R249). -/
def Key.phaseGuard : Nat := 0x500203

/-- `PhaseStartDelay` (08 R249). -/
def Key.phaseStartDelay : Nat := 0x500204

/-- `CarrierNode` (08 R249). -/
def Key.carrierNode : Nat := 0x500205

/-- `AtollExposure` (08 R249). -/
def Key.atollExposure : Nat := 0x500206

/-- `PhaseT0` (08 R249). -/
def Key.phaseT0 : Nat := 0x500207

/-- `FidWindowCol` (08 R249). -/
def Key.fidWindowCol : Nat := 0x500301

/-- `FidWindowLine` (08 R249). -/
def Key.fidWindowLine : Nat := 0x500302

/-- `FidWidth` (08 R249). -/
def Key.fidWidth : Nat := 0x500303

/-- `FidHeight` (08 R249). -/
def Key.fidHeight : Nat := 0x500304

/-- `FidThreshold` (08 R249). -/
def Key.fidThreshold : Nat := 0x500305

/-- `FidPolarity` (08 R249). -/
def Key.fidPolarity : Nat := 0x500306

/-- `FidMinPixels` (08 R249). -/
def Key.fidMinPixels : Nat := 0x500307

/-- `FidOfsX` (08 R249). -/
def Key.fidOfsX : Nat := 0x500308

/-- `FidOfsY` (08 R249). -/
def Key.fidOfsY : Nat := 0x500309

/-- `AtollLimits` (08 R249). -/
def Key.atollLimits : Nat := 0x500401

/-- `LimitRecordEn` (08 R249). -/
def Key.limitRecordEn : Nat := 0x500402

/-- `EmittersMeasured` (08 R250). -/
def Key.emittersMeasured : Nat := 0x501001

/-- `EmitterRecords` (08 R250). -/
def Key.emitterRecords : Nat := 0x501002

/-- `LimitRecords` (08 R250). -/
def Key.limitRecords : Nat := 0x501003

/-- `StraddleCount` (08 R250). -/
def Key.straddleCount : Nat := 0x501004

/-- `PhaseSkipLines` (08 R250). -/
def Key.phaseSkipLines : Nat := 0x501005

/-- `PhaseMismatchPixels` (08 R250). -/
def Key.phaseMismatchPixels : Nat := 0x501006

/-- `FiducialMissCount` (08 R250). -/
def Key.fiducialMissCount : Nat := 0x501007

/-- `CarrierFailCount` (08 R250). -/
def Key.carrierFailCount : Nat := 0x501008

/-- `EmptyEmitters` (08 R250). -/
def Key.emptyEmitters : Nat := 0x501009

/-- `AtollStallTime` (08 R250). -/
def Key.atollStallTime : Nat := 0x50100A

/-- `CutEmitters` (08 R250). -/
def Key.cutEmitters : Nat := 0x50100B

/-- `EmitterQueuePeak` (08 R250). -/
def Key.emitterQueuePeak : Nat := 0x50100C

/-- `S0Enable` (09 R280). -/
def Key.s0Enable : Nat := 0x540001

/-- `S0Format` (09 R280). -/
def Key.s0Format : Nat := 0x540002

/-- `S0Planes` (09 R280). -/
def Key.s0Planes : Nat := 0x540003

/-- `S0CropFirst` (09 R280). -/
def Key.s0CropFirst : Nat := 0x540004

/-- `S0CropWidth` (09 R280). -/
def Key.s0CropWidth : Nat := 0x540005

/-- `S0RingEn` (09 R280). -/
def Key.s0RingEn : Nat := 0x540006

/-- `RingBase` (09 R280). -/
def Key.ringBase : Nat := 0x540007

/-- `RingSize` (09 R280). -/
def Key.ringSize : Nat := 0x540008

/-- `RingDepth` (09 R280). -/
def Key.ringDepth : Nat := 0x540009

/-- `RingSlotBytes` (09 R280). -/
def Key.ringSlotBytes : Nat := 0x54000A

/-- `RingNewest` (09 R280). -/
def Key.ringNewest : Nat := 0x54000B

/-- `SxEnable` (09 R280). -/
def Key.sxEnable (n : Nat) : Nat := key (0x5410 + 0x10 * n) (0x01)

/-- `SxFormat` (09 R280). -/
def Key.sxFormat (n : Nat) : Nat := key (0x5410 + 0x10 * n) (0x02)

/-- `SxPlanes` (09 R280). -/
def Key.sxPlanes (n : Nat) : Nat := key (0x5410 + 0x10 * n) (0x03)

/-- `SxCropFirst` (09 R280). -/
def Key.sxCropFirst (n : Nat) : Nat := key (0x5410 + 0x10 * n) (0x04)

/-- `SxCropWidth` (09 R280). -/
def Key.sxCropWidth (n : Nat) : Nat := key (0x5410 + 0x10 * n) (0x05)

/-- `SxFactorX` (09 R280). -/
def Key.sxFactorX (n : Nat) : Nat := key (0x5410 + 0x10 * n) (0x06)

/-- `SxFactorY` (09 R280). -/
def Key.sxFactorY (n : Nat) : Nat := key (0x5410 + 0x10 * n) (0x07)

/-- `SxKernelX` (09 R280). -/
def Key.sxKernelX (n : Nat) : Nat := key (0x5410 + 0x10 * n) (0x08)

/-- `SxKernelY` (09 R280). -/
def Key.sxKernelY (n : Nat) : Nat := key (0x5410 + 0x10 * n) (0x09)

/-- `SxLinesOut` (09 R280). -/
def Key.sxLinesOut (n : Nat) : Nat := key (0x5410 + 0x10 * n) (0x0A)

/-- `ChipEnable` (09 R280). -/
def Key.chipEnable : Nat := 0x544001

/-- `ChipClassTable` (09 R280). -/
def Key.chipClassTable : Nat := 0x544002

/-- `ChipFillValue` (09 R280). -/
def Key.chipFillValue : Nat := 0x544003

/-- `ChipsCut` (09 R280). -/
def Key.chipsCut : Nat := 0x544004

/-- `ChipsMissed` (09 R280). -/
def Key.chipsMissed : Nat := 0x544005

/-- `ChipsQueueFull` (09 R280). -/
def Key.chipsQueueFull : Nat := 0x544006

/-- `ChipsShed` (09 R280). -/
def Key.chipsShed : Nat := 0x544007

/-- `ChipQueuePeak` (09 R280). -/
def Key.chipQueuePeak : Nat := 0x544008

/-- `StatEnable` (09 R280). -/
def Key.statEnable : Nat := 0x545001

/-- `StatTypeMask` (09 R280). -/
def Key.statTypeMask : Nat := 0x545002

/-- `FieldRecordNode` (09 R280). -/
def Key.fieldRecordNode : Nat := 0x547001

/-- `FieldTypeMask` (09 R280). -/
def Key.fieldTypeMask : Nat := 0x547002

/-- `FieldClassMask` (09 R280). -/
def Key.fieldClassMask : Nat := 0x547003

/-- `FieldRecordTc` (09 R280). -/
def Key.fieldRecordTc : Nat := 0x547004

/-- `FieldRecordsSent` (09 R280). -/
def Key.fieldRecordsSent : Nat := 0x547005

/-- `FieldRecordsDropped` (09 R280). -/
def Key.fieldRecordsDropped : Nat := 0x547006

/-- `Route` (09 R281). -/
def Key.route (n : Nat) : Nat := key (0x5460 + n) (0x01)

/-- `CompEngine` (09 R281). -/
def Key.compEngine (n : Nat) : Nat := key (0x5460 + n) (0x02)

/-- `UnitsDelivered` (09 R281). -/
def Key.unitsDelivered (n : Nat) : Nat := key (0x5460 + n) (0x03)

/-- `UnitsDiscarded` (09 R281). -/
def Key.unitsDiscarded (n : Nat) : Nat := key (0x5460 + n) (0x04)

/-- `BytesOut` (09 R281). -/
def Key.bytesOut (n : Nat) : Nat := key (0x5460 + n) (0x05)

/-- `StagingBase` (09 R282). -/
def Key.stagingBase : Nat := 0x580001

/-- `StagingSize` (09 R282). -/
def Key.stagingSize : Nat := 0x580002

/-- `ChainGrace` (09 R282). -/
def Key.chainGrace : Nat := 0x580003

/-- `Wrapper` (09 R282). -/
def Key.wrapper (n : Nat) : Nat := key (0x5810 + n) (0x01)

/-- `Tables` (09 R282). -/
def Key.tables (n : Nat) : Nat := key (0x5810 + n) (0x02)

/-- `Depth` (09 R282). -/
def Key.depth (n : Nat) : Nat := key (0x5810 + n) (0x03)

/-- `PrePass` (09 R282). -/
def Key.prePass (n : Nat) : Nat := key (0x5810 + n) (0x04)

/-- `StoredFallback` (09 R282). -/
def Key.storedFallback (n : Nat) : Nat := key (0x5810 + n) (0x05)

/-- `BufRingBase` (09 R282). -/
def Key.bufRingBase (n : Nat) : Nat := key (0x5810 + n) (0x06)

/-- `BufRingEntries` (09 R282). -/
def Key.bufRingEntries (n : Nat) : Nat := key (0x5810 + n) (0x07)

/-- `BufProducer` (09 R282). -/
def Key.bufProducer (n : Nat) : Nat := key (0x5810 + n) (0x08)

/-- `BufConsumer` (09 R282). -/
def Key.bufConsumer (n : Nat) : Nat := key (0x5810 + n) (0x09)

/-- `ComplRingBase` (09 R282). -/
def Key.complRingBase (n : Nat) : Nat := key (0x5810 + n) (0x0A)

/-- `ComplRingEntries` (09 R282). -/
def Key.complRingEntries (n : Nat) : Nat := key (0x5810 + n) (0x0B)

/-- `ComplProducer` (09 R282). -/
def Key.complProducer (n : Nat) : Nat := key (0x5810 + n) (0x0C)

/-- `ComplConsumer` (09 R282). -/
def Key.complConsumer (n : Nat) : Nat := key (0x5810 + n) (0x0D)

/-- `JobRingBase` (09 R282). -/
def Key.jobRingBase (n : Nat) : Nat := key (0x5810 + n) (0x0E)

/-- `JobRingEntries` (09 R282). -/
def Key.jobRingEntries (n : Nat) : Nat := key (0x5810 + n) (0x0F)

/-- `JobProducer` (09 R282). -/
def Key.jobProducer (n : Nat) : Nat := key (0x5810 + n) (0x10)

/-- `JobConsumer` (09 R282). -/
def Key.jobConsumer (n : Nat) : Nat := key (0x5810 + n) (0x11)

/-- `JobState` (09 R282). -/
def Key.jobState (n : Nat) : Nat := key (0x5810 + n) (0x12)

/-- `UnitsDone` (09 R282). -/
def Key.unitsDone (n : Nat) : Nat := key (0x5810 + n) (0x13)

/-- `OverflowNoChain` (09 R282). -/
def Key.overflowNoChain (n : Nat) : Nat := key (0x5810 + n) (0x14)

/-- `DecodeErrors` (09 R282). -/
def Key.decodeErrors (n : Nat) : Nat := key (0x5810 + n) (0x15)

/-- `InBytes` (09 R282). -/
def Key.inBytes (n : Nat) : Nat := key (0x5810 + n) (0x16)

/-- `OutBytes` (09 R282). -/
def Key.outBytes (n : Nat) : Nat := key (0x5810 + n) (0x17)

/-- `StagingHeld` (09 R282). -/
def Key.stagingHeld (n : Nat) : Nat := key (0x5810 + n) (0x18)

/-- `EncEnable` (10 R307). -/
def Key.encEnable (n : Nat) : Nat := key (0x6400 + n) (0x01)

/-- `EncInvert` (10 R307). -/
def Key.encInvert (n : Nat) : Nat := key (0x6400 + n) (0x02)

/-- `EncFilter` (10 R307). -/
def Key.encFilter (n : Nat) : Nat := key (0x6400 + n) (0x03)

/-- `EncPitch` (10 R307). -/
def Key.encPitch (n : Nat) : Nat := key (0x6400 + n) (0x04)

/-- `EncCount` (10 R307). -/
def Key.encCount (n : Nat) : Nat := key (0x6400 + n) (0x05)

/-- `EncIndexLatch` (10 R307). -/
def Key.encIndexLatch (n : Nat) : Nat := key (0x6400 + n) (0x06)

/-- `EncIndexCount` (10 R307). -/
def Key.encIndexCount (n : Nat) : Nat := key (0x6400 + n) (0x07)

/-- `EncErrors` (10 R307). -/
def Key.encErrors (n : Nat) : Nat := key (0x6400 + n) (0x08)

/-- `WebEncoder` (10 R307). -/
def Key.webEncoder : Nat := 0x641001

/-- `WebOrigin` (10 R307). -/
def Key.webOrigin : Nat := 0x641002

/-- `EviFilter` (10 R307). -/
def Key.eviFilter (n : Nat) : Nat := key (0x64C0 + n) (0x01)

/-- `EviInvert` (10 R307). -/
def Key.eviInvert (n : Nat) : Nat := key (0x64C0 + n) (0x02)

/-- `EviLevel` (10 R307). -/
def Key.eviLevel (n : Nat) : Nat := key (0x64C0 + n) (0x03)

/-- `MotionOutRate` (10 R308). -/
def Key.motionOutRate : Nat := 0x641801

/-- `MotionResponse` (10 R308). -/
def Key.motionResponse (n : Nat) : Nat := key (0x6420 + n) (0x01)

/-- `VelWindow` (10 R308). -/
def Key.velWindow (n : Nat) : Nat := key (0x6420 + n) (0x02)

/-- `StandstillTime` (10 R308). -/
def Key.standstillTime (n : Nat) : Nat := key (0x6420 + n) (0x03)

/-- `LagComp` (10 R308). -/
def Key.lagComp (n : Nat) : Nat := key (0x6420 + n) (0x04)

/-- `UnderSpeed` (10 R308). -/
def Key.underSpeed (n : Nat) : Nat := key (0x6420 + n) (0x05)

/-- `OverSpeed` (10 R308). -/
def Key.overSpeed (n : Nat) : Nat := key (0x6420 + n) (0x06)

/-- `AccelLimit` (10 R308). -/
def Key.accelLimit (n : Nat) : Nat := key (0x6420 + n) (0x07)

/-- `SpeedHyst` (10 R308). -/
def Key.speedHyst (n : Nat) : Nat := key (0x6420 + n) (0x08)

/-- `Velocity` (10 R308). -/
def Key.velocity (n : Nat) : Nat := key (0x6420 + n) (0x09)

/-- `Acceleration` (10 R308). -/
def Key.acceleration (n : Nat) : Nat := key (0x6420 + n) (0x0A)

/-- `VelocityAtTick` (10 R308). -/
def Key.velocityAtTick (n : Nat) : Nat := key (0x6420 + n) (0x0B)

/-- `PositionAtTick` (10 R308). -/
def Key.positionAtTick (n : Nat) : Nat := key (0x6420 + n) (0x0C)

/-- `MotionStatus` (10 R308). -/
def Key.motionStatus (n : Nat) : Nat := key (0x6420 + n) (0x0D)

/-- `ThresholdEvents` (10 R308). -/
def Key.thresholdEvents (n : Nat) : Nat := key (0x6420 + n) (0x0E)

/-- `CmpMode` (10 R309). -/
def Key.cmpMode (n : Nat) : Nat := key (0x6440 + n) (0x01)

/-- `CmpEncoder` (10 R309). -/
def Key.cmpEncoder (n : Nat) : Nat := key (0x6440 + n) (0x02)

/-- `CmpDirection` (10 R309). -/
def Key.cmpDirection (n : Nat) : Nat := key (0x6440 + n) (0x03)

/-- `CmpTarget` (10 R309). -/
def Key.cmpTarget (n : Nat) : Nat := key (0x6440 + n) (0x04)

/-- `CmpPeriodNum` (10 R309). -/
def Key.cmpPeriodNum (n : Nat) : Nat := key (0x6440 + n) (0x05)

/-- `CmpPeriodDen` (10 R309). -/
def Key.cmpPeriodDen (n : Nat) : Nat := key (0x6440 + n) (0x06)

/-- `CmpPhase` (10 R309). -/
def Key.cmpPhase (n : Nat) : Nat := key (0x6440 + n) (0x07)

/-- `CmpTimeStart` (10 R309). -/
def Key.cmpTimeStart (n : Nat) : Nat := key (0x6440 + n) (0x08)

/-- `CmpTimePeriod` (10 R309). -/
def Key.cmpTimePeriod (n : Nat) : Nat := key (0x6440 + n) (0x09)

/-- `CmpL0Enable` (10 R309). -/
def Key.cmpL0Enable (n : Nat) : Nat := key (0x6440 + n) (0x0A)

/-- `CmpArmChannel` (10 R309). -/
def Key.cmpArmChannel (n : Nat) : Nat := key (0x6440 + n) (0x0B)

/-- `CmpArm` (10 R309). -/
def Key.cmpArm (n : Nat) : Nat := key (0x6440 + n) (0x0C)

/-- `CmpArmed` (10 R309). -/
def Key.cmpArmed (n : Nat) : Nat := key (0x6440 + n) (0x0D)

/-- `CmpL0HoldOff` (10 R309). -/
def Key.cmpL0HoldOff (n : Nat) : Nat := key (0x6440 + n) (0x0E)

/-- `CmpFireCount` (10 R309). -/
def Key.cmpFireCount (n : Nat) : Nat := key (0x6440 + n) (0x0F)

/-- `CmpLastFireCount` (10 R309). -/
def Key.cmpLastFireCount (n : Nat) : Nat := key (0x6440 + n) (0x10)

/-- `CmpLastFireTime` (10 R309). -/
def Key.cmpLastFireTime (n : Nat) : Nat := key (0x6440 + n) (0x11)

/-- `TrgEnable` (10 R310). -/
def Key.trgEnable (n : Nat) : Nat := key (0x6480 + n) (0x01)

/-- `TrgPolarity` (10 R310). -/
def Key.trgPolarity (n : Nat) : Nat := key (0x6480 + n) (0x02)

/-- `TrgSafeLevel` (10 R310). -/
def Key.trgSafeLevel (n : Nat) : Nat := key (0x6480 + n) (0x03)

/-- `TrgPulseWidth` (10 R310). -/
def Key.trgPulseWidth (n : Nat) : Nat := key (0x6480 + n) (0x04)

/-- `TrgCoarseDelay` (10 R310). -/
def Key.trgCoarseDelay (n : Nat) : Nat := key (0x6480 + n) (0x05)

/-- `TrgFineDelay` (10 R310). -/
def Key.trgFineDelay (n : Nat) : Nat := key (0x6480 + n) (0x06)

/-- `TrgStale` (10 R310). -/
def Key.trgStale (n : Nat) : Nat := key (0x6480 + n) (0x07)

/-- `TrgL1Channel` (10 R310). -/
def Key.trgL1Channel (n : Nat) : Nat := key (0x6480 + n) (0x08)

/-- `TrgPulses` (10 R310). -/
def Key.trgPulses (n : Nat) : Nat := key (0x6480 + n) (0x09)

/-- `TrgCollision` (10 R310). -/
def Key.trgCollision (n : Nat) : Nat := key (0x6480 + n) (0x0A)

/-- `TrgCollisionCount` (10 R310). -/
def Key.trgCollisionCount (n : Nat) : Nat := key (0x6480 + n) (0x0B)

/-- `TrgOverlap` (10 R310). -/
def Key.trgOverlap (n : Nat) : Nat := key (0x6480 + n) (0x0C)

/-- `TrgQueueFull` (10 R310). -/
def Key.trgQueueFull (n : Nat) : Nat := key (0x6480 + n) (0x0D)

/-- `GenL1Channel` (10 R310). -/
def Key.genL1Channel (n : Nat) : Nat := key (0x64A0 + n) (0x01)

/-- `GenCollisionCount` (10 R310). -/
def Key.genCollisionCount (n : Nat) : Nat := key (0x64A0 + n) (0x02)

/-- `Inject` (10 R311). -/
def Key.inject : Nat := 0x680001

/-- `GuardTripCount` (10 R311). -/
def Key.guardTripCount : Nat := 0x680002

/-- `ChanProducer` (10 R311). -/
def Key.chanProducer (n : Nat) : Nat := key (0x6900 + n) (0x01)

/-- `ChanHoldOff` (10 R311). -/
def Key.chanHoldOff (n : Nat) : Nat := key (0x6900 + n) (0x02)

/-- `ChanSeen` (10 R311). -/
def Key.chanSeen (n : Nat) : Nat := key (0x6900 + n) (0x03)

/-- `ChanCount` (10 R311). -/
def Key.chanCount (n : Nat) : Nat := key (0x6900 + n) (0x04)

/-- `ChanGuardMax` (10 R311). -/
def Key.chanGuardMax (n : Nat) : Nat := key (0x6900 + n) (0x05)

/-- `ChanGuardTripped` (10 R311). -/
def Key.chanGuardTripped (n : Nat) : Nat := key (0x6900 + n) (0x06)

/-- `ChanConsumer` (10 R311). -/
def Key.chanConsumer (n : Nat) : Nat := key (0x6900 + n) (0x07)

/-- `ChanInjectMerge` (10 R311). -/
def Key.chanInjectMerge (n : Nat) : Nat := key (0x6900 + n) (0x08)

/-- `CounterNow` (11 R346). -/
def Key.counterNow : Nat := 0x6C0001

/-- `WNow` (11 R346). -/
def Key.wNow : Nat := 0x6C0002

/-- `WSelect` (11 R346). -/
def Key.wSelect : Nat := 0x6C0003

/-- `WSource` (11 R346). -/
def Key.wSource : Nat := 0x6C0004

/-- `WState` (11 R346). -/
def Key.wState : Nat := 0x6C0005

/-- `WError` (11 R346). -/
def Key.wError : Nat := 0x6C0006

/-- `SlewMax` (11 R346). -/
def Key.slewMax : Nat := 0x6C0007

/-- `WRevertTime` (11 R346). -/
def Key.wRevertTime : Nat := 0x6C0008

/-- `WSwitchCount` (11 R346). -/
def Key.wSwitchCount : Nat := 0x6C0009

/-- `StepThreshold` (11 R346). -/
def Key.stepThreshold : Nat := 0x6C000A

/-- `WFreeRunOk` (11 R346). -/
def Key.wFreeRunOk : Nat := 0x6C000B

/-- `DomOffset` (11 R346). -/
def Key.domOffset (n : Nat) : Nat := key (0x6C10 + n) (0x01)

/-- `DomOffsetFrac` (11 R346). -/
def Key.domOffsetFrac (n : Nat) : Nat := key (0x6C10 + n) (0x02)

/-- `DomRate` (11 R346). -/
def Key.domRate (n : Nat) : Nat := key (0x6C10 + n) (0x03)

/-- `DomAnchor` (11 R346). -/
def Key.domAnchor (n : Nat) : Nat := key (0x6C10 + n) (0x04)

/-- `DomNow` (11 R346). -/
def Key.domNow (n : Nat) : Nat := key (0x6C10 + n) (0x05)

/-- `DomState` (11 R346). -/
def Key.domState (n : Nat) : Nat := key (0x6C10 + n) (0x06)

/-- `DomMasterOffset` (11 R346). -/
def Key.domMasterOffset (n : Nat) : Nat := key (0x6C10 + n) (0x07)

/-- `DomStepCount` (11 R346). -/
def Key.domStepCount (n : Nat) : Nat := key (0x6C10 + n) (0x08)

/-- `PtpEnable` (11 R346). -/
def Key.ptpEnable (n : Nat) : Nat := key (0x6C20 + n) (0x01)

/-- `PtpDomainNumber` (11 R346). -/
def Key.ptpDomainNumber (n : Nat) : Nat := key (0x6C20 + n) (0x02)

/-- `PtpPortMask` (11 R346). -/
def Key.ptpPortMask (n : Nat) : Nat := key (0x6C20 + n) (0x03)

/-- `PtpPriority1` (11 R346). -/
def Key.ptpPriority1 (n : Nat) : Nat := key (0x6C20 + n) (0x04)

/-- `PtpPriority2` (11 R346). -/
def Key.ptpPriority2 (n : Nat) : Nat := key (0x6C20 + n) (0x05)

/-- `PtpLogSyncInterval` (11 R346). -/
def Key.ptpLogSyncInterval (n : Nat) : Nat := key (0x6C20 + n) (0x06)

/-- `PtpSyncTimeout` (11 R346). -/
def Key.ptpSyncTimeout (n : Nat) : Nat := key (0x6C20 + n) (0x07)

/-- `PtpLockThreshold` (11 R346). -/
def Key.ptpLockThreshold (n : Nat) : Nat := key (0x6C20 + n) (0x08)

/-- `PtpGmIdentity` (11 R346). -/
def Key.ptpGmIdentity (n : Nat) : Nat := key (0x6C20 + n) (0x09)

/-- `PtpSlavePort` (11 R346). -/
def Key.ptpSlavePort (n : Nat) : Nat := key (0x6C20 + n) (0x0A)

/-- `PtpMeanLinkDelay` (11 R346). -/
def Key.ptpMeanLinkDelay (n : Nat) : Nat := key (0x6C30 + n) (0x01)

/-- `PtpAsCapable` (11 R346). -/
def Key.ptpAsCapable (n : Nat) : Nat := key (0x6C30 + n) (0x02)

/-- `PtpDelayAsymmetry` (11 R346). -/
def Key.ptpDelayAsymmetry (n : Nat) : Nat := key (0x6C30 + n) (0x03)

/-- `PtpPortRoles` (11 R346). -/
def Key.ptpPortRoles (n : Nat) : Nat := key (0x6C30 + n) (0x04)

/-- `FldMode` (11 R347). -/
def Key.fldMode (n : Nat) : Nat := key (0x7000 + n) (0x01)

/-- `FldMac` (11 R347). -/
def Key.fldMac (n : Nat) : Nat := key (0x7000 + n) (0x02)

/-- `FldIpAddr` (11 R347). -/
def Key.fldIpAddr (n : Nat) : Nat := key (0x7000 + n) (0x03)

/-- `FldNetMask` (11 R347). -/
def Key.fldNetMask (n : Nat) : Nat := key (0x7000 + n) (0x04)

/-- `FldVlanId` (11 R347). -/
def Key.fldVlanId (n : Nat) : Nat := key (0x7000 + n) (0x05)

/-- `FldPreemptEn` (11 R347). -/
def Key.fldPreemptEn (n : Nat) : Nat := key (0x7000 + n) (0x06)

/-- `FldLinkUp` (11 R347). -/
def Key.fldLinkUp (n : Nat) : Nat := key (0x7000 + n) (0x07)

/-- `FldPreemptActive` (11 R347). -/
def Key.fldPreemptActive (n : Nat) : Nat := key (0x7000 + n) (0x08)

/-- `FldRxDiscards` (11 R347). -/
def Key.fldRxDiscards (n : Nat) : Nat := key (0x7000 + n) (0x09)

/-- `FldQueueDrops` (11 R347). -/
def Key.fldQueueDrops (n : Nat) : Nat := key (0x7000 + n) (0x0A)

/-- `Tc7LateCount` (11 R347). -/
def Key.tc7LateCount (n : Nat) : Nat := key (0x7000 + n) (0x0B)

/-- `JfpUdpPort` (11 R347). -/
def Key.jfpUdpPort : Nat := 0x701001

/-- `AuthRequired` (11 R347). -/
def Key.authRequired : Nat := 0x701002

/-- `SessionTimeout` (11 R347). -/
def Key.sessionTimeout : Nat := 0x701003

/-- `SessionClose` (11 R347). -/
def Key.sessionClose : Nat := 0x701004

/-- `JfpRxDiscards` (11 R347). -/
def Key.jfpRxDiscards : Nat := 0x701005

/-- `AuthFailures` (11 R347). -/
def Key.authFailures : Nat := 0x701006

/-- `ReplayDiscards` (11 R347). -/
def Key.replayDiscards : Nat := 0x701007

/-- `SessionRefused` (11 R347). -/
def Key.sessionRefused : Nat := 0x701008

/-- `RecordBatchTime` (11 R347). -/
def Key.recordBatchTime : Nat := 0x701009

/-- `SessState` (11 R347). -/
def Key.sessState (n : Nat) : Nat := key (0x7020 + n) (0x01)

/-- `SessPeerIp` (11 R347). -/
def Key.sessPeerIp (n : Nat) : Nat := key (0x7020 + n) (0x02)

/-- `SessPeerPort` (11 R347). -/
def Key.sessPeerPort (n : Nat) : Nat := key (0x7020 + n) (0x03)

/-- `SessNotifyMask` (11 R347). -/
def Key.sessNotifyMask (n : Nat) : Nat := key (0x7020 + n) (0x04)

/-- `SessAuthSlot` (11 R347). -/
def Key.sessAuthSlot (n : Nat) : Nat := key (0x7020 + n) (0x05)

/-- `KeyLoad` (11 R347). -/
def Key.keyLoad : Nat := 0x704001

/-- `KeyValid` (11 R347). -/
def Key.keyValid : Nat := 0x704002

/-- `KeyErase` (11 R347). -/
def Key.keyErase : Nat := 0x704003

/-- `RelaunchTol` (11 R347). -/
def Key.relaunchTol : Nat := 0x710001

/-- `CommitLead` (11 R347). -/
def Key.commitLead : Nat := 0x710002

/-- `MarkMinSpeed` (11 R347). -/
def Key.markMinSpeed : Nat := 0x710003

/-- `MarkHoldMax` (11 R347). -/
def Key.markHoldMax : Nat := 0x710004

/-- `MarkIssued` (11 R347). -/
def Key.markIssued : Nat := 0x710005

/-- `MarkRelaunched` (11 R347). -/
def Key.markRelaunched : Nat := 0x710006

/-- `MarkLate` (11 R347). -/
def Key.markLate : Nat := 0x710007

/-- `MarkDropped` (11 R347). -/
def Key.markDropped : Nat := 0x710008

/-- `MarkPending` (11 R347). -/
def Key.markPending : Nat := 0x710009

/-- `MarkNode` (11 R347). -/
def Key.markNode (n : Nat) : Nat := key (0x7200 + n) (0x01)

/-- `MarkAim` (11 R347). -/
def Key.markAim (n : Nat) : Nat := key (0x7200 + n) (0x02)

/-- `MarkAimOfs` (11 R347). -/
def Key.markAimOfs (n : Nat) : Nat := key (0x7200 + n) (0x03)

/-- `MarkParam` (11 R347). -/
def Key.markParam (n : Nat) : Nat := key (0x7200 + n) (0x04)

/-- `NodeProbePeriod` (11 R347). -/
def Key.nodeProbePeriod : Nat := 0x730001

/-- `NodeMissMax` (11 R347). -/
def Key.nodeMissMax : Nat := 0x730002

/-- `NodesUp` (11 R347). -/
def Key.nodesUp : Nat := 0x730003

/-- `NodeEnable` (11 R347). -/
def Key.nodeEnable (n : Nat) : Nat := key (0x7400 + n) (0x01)

/-- `NodeClass` (11 R347). -/
def Key.nodeClass (n : Nat) : Nat := key (0x7400 + n) (0x02)

/-- `NodeMac` (11 R347). -/
def Key.nodeMac (n : Nat) : Nat := key (0x7400 + n) (0x03)

/-- `NodeIp` (11 R347). -/
def Key.nodeIp (n : Nat) : Nat := key (0x7400 + n) (0x04)

/-- `NodeUdpPort` (11 R347). -/
def Key.nodeUdpPort (n : Nat) : Nat := key (0x7400 + n) (0x05)

/-- `NodePort` (11 R347). -/
def Key.nodePort (n : Nat) : Nat := key (0x7400 + n) (0x06)

/-- `NodeCyclicPeriod` (11 R347). -/
def Key.nodeCyclicPeriod (n : Nat) : Nat := key (0x7400 + n) (0x07)

/-- `NodeLeadTime` (11 R347). -/
def Key.nodeLeadTime (n : Nat) : Nat := key (0x7400 + n) (0x08)

/-- `NodeAckTimeout` (11 R347). -/
def Key.nodeAckTimeout (n : Nat) : Nat := key (0x7400 + n) (0x09)

/-- `NodeDistance` (11 R347). -/
def Key.nodeDistance (n : Nat) : Nat := key (0x7400 + n) (0x0A)

/-- `NodeKeySlot` (11 R347). -/
def Key.nodeKeySlot (n : Nat) : Nat := key (0x7400 + n) (0x0B)

/-- `NodeCyclicTc` (11 R347). -/
def Key.nodeCyclicTc (n : Nat) : Nat := key (0x7400 + n) (0x0C)

/-- `NodeCyclicOut` (11 R347). -/
def Key.nodeCyclicOut (n : Nat) : Nat := key (0x7400 + n) (0x0D)

/-- `NodeCyclicIn` (11 R347). -/
def Key.nodeCyclicIn (n : Nat) : Nat := key (0x7400 + n) (0x0E)

/-- `NodeState` (11 R347). -/
def Key.nodeState (n : Nat) : Nat := key (0x7400 + n) (0x0F)

/-- `NodeCmdWrite` (11 R347). -/
def Key.nodeCmdWrite (n : Nat) : Nat := key (0x7400 + n) (0x10)

/-- `NodeCmdSent` (11 R347). -/
def Key.nodeCmdSent (n : Nat) : Nat := key (0x7400 + n) (0x11)

/-- `NodeAckFail` (11 R347). -/
def Key.nodeAckFail (n : Nat) : Nat := key (0x7400 + n) (0x12)

/-- `NodeLastEvent` (11 R347). -/
def Key.nodeLastEvent (n : Nat) : Nat := key (0x7400 + n) (0x13)

/-- `NodeCmdLate` (11 R347). -/
def Key.nodeCmdLate (n : Nat) : Nat := key (0x7400 + n) (0x14)

/-- `G6DeviceDensity` (12 R384). -/
def Key.g6DeviceDensity : Nat := 0x780001

/-- `G6Grain` (12 R384). -/
def Key.g6Grain : Nat := 0x780002

/-- `G6GrainActive` (12 R384). -/
def Key.g6GrainActive : Nat := 0x780003

/-- `G6Secded` (12 R384). -/
def Key.g6Secded : Nat := 0x780004

/-- `G6SecdedActive` (12 R384). -/
def Key.g6SecdedActive : Nat := 0x780005

/-- `G6ExcludeMask` (12 R384). -/
def Key.g6ExcludeMask : Nat := 0x780006

/-- `G6ChannelsActive` (12 R384). -/
def Key.g6ChannelsActive : Nat := 0x780007

/-- `G6LocalTop` (12 R384). -/
def Key.g6LocalTop : Nat := 0x780008

/-- `G6EdcRetryMax` (12 R384). -/
def Key.g6EdcRetryMax : Nat := 0x780009

/-- `G6RhThreshold` (12 R384). -/
def Key.g6RhThreshold : Nat := 0x78000A

/-- `G6RhRadius` (12 R384). -/
def Key.g6RhRadius : Nat := 0x78000B

/-- `G6ChState` (12 R385). -/
def Key.g6ChState (n : Nat) : Nat := key (0x7810 + n) (0x01)

/-- `G6Temp` (12 R385). -/
def Key.g6Temp (n : Nat) : Nat := key (0x7810 + n) (0x02)

/-- `G6RefreshRate` (12 R385). -/
def Key.g6RefreshRate (n : Nat) : Nat := key (0x7810 + n) (0x03)

/-- `G6RefreshDebtPeak` (12 R385). -/
def Key.g6RefreshDebtPeak (n : Nat) : Nat := key (0x7810 + n) (0x04)

/-- `G6RefreshForced` (12 R385). -/
def Key.g6RefreshForced (n : Nat) : Nat := key (0x7810 + n) (0x05)

/-- `G6StallPeak` (12 R385). -/
def Key.g6StallPeak (n : Nat) : Nat := key (0x7810 + n) (0x06)

/-- `G6EdcRetries` (12 R385). -/
def Key.g6EdcRetries (n : Nat) : Nat := key (0x7810 + n) (0x07)

/-- `G6EccCorrected` (12 R385). -/
def Key.g6EccCorrected (n : Nat) : Nat := key (0x7810 + n) (0x08)

/-- `G6EccUncorrected` (12 R385). -/
def Key.g6EccUncorrected (n : Nat) : Nat := key (0x7810 + n) (0x09)

/-- `G6RhRefreshes` (12 R385). -/
def Key.g6RhRefreshes (n : Nat) : Nat := key (0x7810 + n) (0x0A)

/-- `G6ReadBytes` (12 R385). -/
def Key.g6ReadBytes (n : Nat) : Nat := key (0x7810 + n) (0x0B)

/-- `G6WriteBytes` (12 R385). -/
def Key.g6WriteBytes (n : Nat) : Nat := key (0x7810 + n) (0x0C)

/-- `G6WriteDrains` (12 R385). -/
def Key.g6WriteDrains (n : Nat) : Nat := key (0x7810 + n) (0x0D)

/-- `G6PortBytes` (12 R386). -/
def Key.g6PortBytes (n : Nat) : Nat := key (0x7830 + n) (0x01)

/-- `G6PortWaitMax` (12 R386). -/
def Key.g6PortWaitMax (n : Nat) : Nat := key (0x7830 + n) (0x02)

/-- `G6PortStallTime` (12 R386). -/
def Key.g6PortStallTime (n : Nat) : Nat := key (0x7830 + n) (0x03)

/-- `FerryChainLimit` (12 R387). -/
def Key.ferryChainLimit : Nat := 0x7C0001

/-- `FerryCplTimeoutCount` (12 R387). -/
def Key.ferryCplTimeoutCount : Nat := 0x7C0002

/-- `FerryBufferPeak` (12 R387). -/
def Key.ferryBufferPeak : Nat := 0x7C0003

/-- `FerryDescAddr` (12 R387). -/
def Key.ferryDescAddr (n : Nat) : Nat := key (0x7C10 + n) (0x01)

/-- `FerryCommand` (12 R387). -/
def Key.ferryCommand (n : Nat) : Nat := key (0x7C10 + n) (0x02)

/-- `FerryState` (12 R387). -/
def Key.ferryState (n : Nat) : Nat := key (0x7C10 + n) (0x03)

/-- `FerryPriority` (12 R387). -/
def Key.ferryPriority (n : Nat) : Nat := key (0x7C10 + n) (0x04)

/-- `FerryMaxBursts` (12 R387). -/
def Key.ferryMaxBursts (n : Nat) : Nat := key (0x7C10 + n) (0x05)

/-- `FerryReqChannel` (12 R387). -/
def Key.ferryReqChannel (n : Nat) : Nat := key (0x7C10 + n) (0x06)

/-- `FerryReqEvi` (12 R387). -/
def Key.ferryReqEvi (n : Nat) : Nat := key (0x7C10 + n) (0x07)

/-- `FerryLastStatus` (12 R387). -/
def Key.ferryLastStatus (n : Nat) : Nat := key (0x7C10 + n) (0x08)

/-- `FerryResidue` (12 R387). -/
def Key.ferryResidue (n : Nat) : Nat := key (0x7C10 + n) (0x09)

/-- `FerryChainCount` (12 R387). -/
def Key.ferryChainCount (n : Nat) : Nat := key (0x7C10 + n) (0x0A)

/-- `FerryNextAddr` (12 R387). -/
def Key.ferryNextAddr (n : Nat) : Nat := key (0x7C10 + n) (0x0B)

/-- `FerryBytes` (12 R387). -/
def Key.ferryBytes (n : Nat) : Nat := key (0x7C10 + n) (0x0C)

/-- `FerryGrantOverflow` (12 R387). -/
def Key.ferryGrantOverflow (n : Nat) : Nat := key (0x7C10 + n) (0x0D)

/-- `HostRingBase` (12 R388). -/
def Key.hostRingBase (n : Nat) : Nat := key (0x7C40 + n) (0x01)

/-- `HostRingSize` (12 R388). -/
def Key.hostRingSize (n : Nat) : Nat := key (0x7C40 + n) (0x02)

/-- `HostRingProdAddr` (12 R388). -/
def Key.hostRingProdAddr (n : Nat) : Nat := key (0x7C40 + n) (0x03)

/-- `HostRingProducer` (12 R388). -/
def Key.hostRingProducer (n : Nat) : Nat := key (0x7C40 + n) (0x04)

/-- `HostRingConsumer` (12 R388). -/
def Key.hostRingConsumer (n : Nat) : Nat := key (0x7C40 + n) (0x05)

/-- `HostRingFullTime` (12 R388). -/
def Key.hostRingFullTime (n : Nat) : Nat := key (0x7C40 + n) (0x06)

/-- `HmHostPriority` (13 R411). -/
def Key.hmHostPriority (n : Nat) : Nat := key (0x8000 + n) (0x01)

/-- `HmHostTargets` (13 R411). -/
def Key.hmHostTargets (n : Nat) : Nat := key (0x8000 + n) (0x02)

/-- `HmHostMask` (13 R411). -/
def Key.hmHostMask (n : Nat) : Nat := key (0x8000 + n) (0x03)

/-- `HmFilter` (13 R411). -/
def Key.hmFilter (n : Nat) : Nat := key (0x8000 + n) (0x04)

/-- `HmVector` (13 R411). -/
def Key.hmVector (n : Nat) : Nat := key (0x8000 + n) (0x05)

/-- `HmHostState` (13 R411). -/
def Key.hmHostState (n : Nat) : Nat := key (0x8000 + n) (0x06)

/-- `HmFwPriority` (13 R411). -/
def Key.hmFwPriority (n : Nat) : Nat := key (0x8000 + n) (0x07)

/-- `HmFwTargets` (13 R411). -/
def Key.hmFwTargets (n : Nat) : Nat := key (0x8000 + n) (0x08)

/-- `HmKind` (13 R411). -/
def Key.hmKind (n : Nat) : Nat := key (0x8000 + n) (0x09)

/-- `HmEventCount` (13 R411). -/
def Key.hmEventCount (n : Nat) : Nat := key (0x8000 + n) (0x0A)

/-- `HmHostAttach` (13 R412). -/
def Key.hmHostAttach : Nat := 0x830001

/-- `HmWindow` (13 R412). -/
def Key.hmWindow : Nat := 0x830002

/-- `HmEventChannel` (13 R412). -/
def Key.hmEventChannel (j : Nat) : Nat := key (0x8330) (0x01 + j)

/-- `HmRunPriority` (13 R412). -/
def Key.hmRunPriority (n : Nat) : Nat := key (0x8310 + n) (0x01)

/-- `HmStackDepth` (13 R412). -/
def Key.hmStackDepth (n : Nat) : Nat := key (0x8310 + n) (0x02)

/-- `HmThreshold` (13 R412). -/
def Key.hmThreshold (n : Nat) : Nat := key (0x8310 + n) (0x03)

/-- `HmTargetAwake` (13 R412). -/
def Key.hmTargetAwake (n : Nat) : Nat := key (0x8310 + n) (0x04)

/-- `HmHostSleep` (13 R412). -/
def Key.hmHostSleep (n : Nat) : Nat := key (0x8310 + n) (0x05)

/-- `HmModInterval` (13 R412). -/
def Key.hmModInterval (n : Nat) : Nat := key (0x8310 + n) (0x06)

/-- `HmClaims` (13 R412). -/
def Key.hmClaims (n : Nat) : Nat := key (0x8310 + n) (0x07)

/-- `HmSpurious` (13 R412). -/
def Key.hmSpurious (n : Nat) : Nat := key (0x8310 + n) (0x08)

/-- `HmEoiMismatch` (13 R412). -/
def Key.hmEoiMismatch (n : Nat) : Nat := key (0x8310 + n) (0x09)

/-- `HmModDeferred` (13 R412). -/
def Key.hmModDeferred (n : Nat) : Nat := key (0x8310 + n) (0x0A)

/-- `HmWakeRequests` (13 R412). -/
def Key.hmWakeRequests (n : Nat) : Nat := key (0x8310 + n) (0x0B)

/-- `HmLateMaskDeliveries` (13 R412). -/
def Key.hmLateMaskDeliveries (n : Nat) : Nat := key (0x8310 + n) (0x0C)

/-- `PowerNow` (13 R413). -/
def Key.powerNow : Nat := 0x840001

/-- `EnergyTotal` (13 R413). -/
def Key.energyTotal : Nat := 0x840002

/-- `EnergyStale` (13 R413). -/
def Key.energyStale : Nat := 0x840003

/-- `MonitorPower` (13 R413). -/
def Key.monitorPower (j : Nat) : Nat := key (0x8401) (0x01 + j)

/-- `OpVoltage` (13 R413). -/
def Key.opVoltage (j : Nat) : Nat := key (0x8410) (0x01 + j)

/-- `VddCoreNow` (13 R413). -/
def Key.vddCoreNow : Nat := 0x841009

/-- `AvsEnable` (13 R413). -/
def Key.avsEnable : Nat := 0x84100A

/-- `OpChangeCount` (13 R413). -/
def Key.opChangeCount : Nat := 0x84100B

/-- `OpChangeLast` (13 R413). -/
def Key.opChangeLast : Nat := 0x84100C

/-- `ThermMax` (13 R413). -/
def Key.thermMax : Nat := 0x842001

/-- `ThermState` (13 R413). -/
def Key.thermState : Nat := 0x842002

/-- `ThermWarnCount` (13 R413). -/
def Key.thermWarnCount : Nat := 0x842003

/-- `ThermLimitCount` (13 R413). -/
def Key.thermLimitCount : Nat := 0x842004

/-- `ThermLimitTime` (13 R413). -/
def Key.thermLimitTime : Nat := 0x842005

/-- `ThermStaleMask` (13 R413). -/
def Key.thermStaleMask : Nat := 0x842006

/-- `ThermSensor` (13 R413). -/
def Key.thermSensor (j : Nat) : Nat := key (0x8421) (0x01 + j)

/-- `PmbClock` (13 R413). -/
def Key.pmbClock : Nat := 0x843001

/-- `PmbErrors` (13 R413). -/
def Key.pmbErrors : Nat := 0x843002

/-- `PmbAlertCount` (13 R413). -/
def Key.pmbAlertCount : Nat := 0x843003

/-- `PmbCoreLost` (13 R413). -/
def Key.pmbCoreLost : Nat := 0x843004

/-- `RegAddress` (13 R413). -/
def Key.regAddress (n : Nat) : Nat := key (0x8440 + n) (0x01)

/-- `RegRail` (13 R413). -/
def Key.regRail (n : Nat) : Nat := key (0x8440 + n) (0x02)

/-- `RegRole` (13 R413). -/
def Key.regRole (n : Nat) : Nat := key (0x8440 + n) (0x03)

/-- `RegVout` (13 R413). -/
def Key.regVout (n : Nat) : Nat := key (0x8440 + n) (0x04)

/-- `RegIout` (13 R413). -/
def Key.regIout (n : Nat) : Nat := key (0x8440 + n) (0x05)

/-- `RegStatusWord` (13 R413). -/
def Key.regStatusWord (n : Nat) : Nat := key (0x8440 + n) (0x06)

/-- `RegTemp` (13 R413). -/
def Key.regTemp (n : Nat) : Nat := key (0x8440 + n) (0x07)

/-- `GateUnused` (13 R413). -/
def Key.gateUnused : Nat := 0x846001

/-- `GatedMask` (13 R413). -/
def Key.gatedMask : Nat := 0x846002

/-- `CtrlCoreLoad` (13 R413). -/
def Key.ctrlCoreLoad (j : Nat) : Nat := key (0x8470) (0x01 + j)

/-- `CtrlCoreRestarts` (13 R413). -/
def Key.ctrlCoreRestarts (j : Nat) : Nat := key (0x8471) (0x01 + j)

/-- `CalRequest` (15 R459). -/
def Key.calRequest : Nat := 0x880001

/-- `CalState` (15 R459). -/
def Key.calState : Nat := 0x880002

/-- `CalActive` (15 R459). -/
def Key.calActive : Nat := 0x880003

/-- `CalResult` (15 R459). -/
def Key.calResult : Nat := 0x880004

/-- `CalLastTime` (15 R459). -/
def Key.calLastTime : Nat := 0x880005

/-- `CalRestoreFactory` (15 R459). -/
def Key.calRestoreFactory : Nat := 0x880006

/-- `CalRefclkPpb` (15 R459). -/
def Key.calRefclkPpb : Nat := 0x880007

/-- `TrimFineDelay` (15 R459). -/
def Key.trimFineDelay (j : Nat) : Nat := key (0x8801) (0x01 + j)

/-- `TrimSensor` (15 R459). -/
def Key.trimSensor (j : Nat) : Nat := key (0x8802) (0x01 + j)

/-- `TrimMonitor` (15 R459). -/
def Key.trimMonitor (j : Nat) : Nat := key (0x8803) (0x01 + j)

/-- `SelfTestRequest` (15 R459). -/
def Key.selfTestRequest : Nat := 0x881001

/-- `SelfTestState` (15 R459). -/
def Key.selfTestState : Nat := 0x881002

/-- `SelfTestResult` (15 R459). -/
def Key.selfTestResult : Nat := 0x881003

/-- `SelfTestDetail` (15 R459). -/
def Key.selfTestDetail : Nat := 0x881004

/-- `CheckInterval` (15 R459). -/
def Key.checkInterval : Nat := 0x881005

/-- `CheckOverdue` (15 R459). -/
def Key.checkOverdue : Nat := 0x881006

/-- `CheckLastPass` (15 R459). -/
def Key.checkLastPass (j : Nat) : Nat := key (0x8811) (0x01 + j)

/-- `CheckDeferred` (15 R459). -/
def Key.checkDeferred (j : Nat) : Nat := key (0x8812) (0x01 + j)

/-- `TroubleHeadSeq` (15 R460). -/
def Key.troubleHeadSeq : Nat := 0x8C0001

/-- `TroubleTailSeq` (15 R460). -/
def Key.troubleTailSeq : Nat := 0x8C0002

/-- `TroubleReadSeq` (15 R460). -/
def Key.troubleReadSeq : Nat := 0x8C0003

/-- `TroubleWord` (15 R460). -/
def Key.troubleWord (j : Nat) : Nat := key (0x8C00) (0x04 + j)

/-- `TroubleReadResult` (15 R460). -/
def Key.troubleReadResult : Nat := 0x8C0008

/-- `TroubleSeverityCount` (15 R460). -/
def Key.troubleSeverityCount (j : Nat) : Nat := key (0x8C01) (0x01 + j)

/-- `RecHead` (15 R460). -/
def Key.recHead : Nat := 0x8C1001

/-- `RecGeneration` (15 R460). -/
def Key.recGeneration : Nat := 0x8C1002

/-- `RecReadIndex` (15 R460). -/
def Key.recReadIndex : Nat := 0x8C1003

/-- `RecWord` (15 R460). -/
def Key.recWord (j : Nat) : Nat := key (0x8C10) (0x04 + j)

/-- `RecReadResult` (15 R460). -/
def Key.recReadResult : Nat := 0x8C1008

/-- `RecSeverity` (15 R460). -/
def Key.recSeverity : Nat := 0x8C1009

/-- `RecStaged` (15 R460). -/
def Key.recStaged : Nat := 0x8C100A

/-- `RecFlushCount` (15 R460). -/
def Key.recFlushCount : Nat := 0x8C100B

/-- `RecFlushLast` (15 R460). -/
def Key.recFlushLast : Nat := 0x8C100C

/-- `RecRetiredSlots` (15 R460). -/
def Key.recRetiredSlots : Nat := 0x8C100D

/-- `RecDropped` (15 R460). -/
def Key.recDropped : Nat := 0x8C100E

/-- `RecFlush` (15 R460). -/
def Key.recFlush : Nat := 0x8C100F

/-- `RecBlock` (15 R460). -/
def Key.recBlock (j : Nat) : Nat := key (0x8C11) (0x01 + j)

/-- `OperatingSeconds` (15 R460). -/
def Key.operatingSeconds : Nat := 0x8C2001

/-- `PowerCycles` (15 R460). -/
def Key.powerCycles : Nat := 0x8C2002

/-- `SysResetCount` (15 R460). -/
def Key.sysResetCount : Nat := 0x8C2003

/-- `PfailCount` (15 R460). -/
def Key.pfailCount : Nat := 0x8C2004

/-- `AntiRollback` (15 R460). -/
def Key.antiRollback : Nat := 0x8C2005

/-- `MramWriteErrors` (15 R460). -/
def Key.mramWriteErrors : Nat := 0x8C2006

/-- `BootCause` (15 R460). -/
def Key.bootCause : Nat := 0x8C2007

/-- `BootMode` (15 R460). -/
def Key.bootMode : Nat := 0x8C2008

/-- `BootTime` (15 R460). -/
def Key.bootTime : Nat := 0x8C2009

/-- `InitTime` (15 R460). -/
def Key.initTime : Nat := 0x8C200A

/-- `LrefSelect` (15 R460). -/
def Key.lrefSelect : Nat := 0x8C3001

/-- `LrefActive` (15 R460). -/
def Key.lrefActive : Nat := 0x8C3002

/-- `LrefPresent` (15 R460). -/
def Key.lrefPresent : Nat := 0x8C3003

/-- `LrefSwitchCount` (15 R460). -/
def Key.lrefSwitchCount : Nat := 0x8C3004

/-- `FaultCause` (15 R460). -/
def Key.faultCause : Nat := 0x8C4001

/-- `FaultTime` (15 R460). -/
def Key.faultTime : Nat := 0x8C4002

/-- `FaultEncCount` (15 R460). -/
def Key.faultEncCount : Nat := 0x8C4003

end Sys2Proof.Machine
end

