-- ==== Sys2Proof/Machine/State.lean ====
section
/-! DEFINITION. The state of the block as plain data: every register, queue, buffer, counter, mode and pin the spec gives
it, grouped by the chapter that gives it, and the queue of commands that wait. -/

namespace Sys2Proof.Machine

open Sys2Proof

/-! ## Outcomes -/

/-- Why a command stops with a fault. -/
inductive Fault where
  /-- Raised by G6_ACCESS at a local address above `G6LocalTop`, which 12 R352 says does not exist. Safe. -/
  | noSuchLocalAddress
  deriving DecidableEq, Repr

/-- Why a command has no meaning. -/
inductive Refusal where
  /-- Raised by exec's arm of a command the model does not give a meaning. Safe. -/
  | notModelled (mnemonic : String)
  deriving DecidableEq, Repr

/-! ## The part and its pins (00, 16) -/

/-- The two variants of the die (00 R1). -/
inductive Variant where
  | rl6416
  | rl3208
  deriving DecidableEq, Repr

/-- What manufacture fixes (02 R493, 12 R349, 15 R438). -/
structure Part where
  variant    : Variant := .rl6416
  grade      : Nat := 0
  serial     : Nat := 0
  bootRom    : Nat := 0
  dense16    : Bool := false
  macs       : List Nat := []
  deriving DecidableEq, Repr

/-- The device states of 01 R24; the code of 02 R62 is the place in this list. -/
inductive DevState where
  | off | boot | init | ready | run | fault | safe
  deriving DecidableEq, Repr

/-- Input pins and the open-drain outputs (16 R461, R463). -/
structure Pins where
  suppliesValid : Bool := false
  sysResetN     : Bool := false
  pfailN        : Bool := false
  faultN        : Bool := false
  thermN        : Bool := false
  pmbAlertN     : Bool := false
  qspiHighZ     : Bool := false
  powerOnFlag   : Bool := false
  deriving DecidableEq, Repr

/-- Where the device stands in its life cycle (01 R24–R28, 12 R367, 15 R433–R436). -/
structure Life where
  state          : DevState := .off
  bootMode       : Nat := 0
  bootCause      : Nat := 0
  slotTried      : Nat := 0
  slotB          : Bool := false
  programming    : Bool := false
  bootFault      : Bool := false
  resumePending  : Bool := false
  faultFromRun   : Bool := false
  recoverable    : Bool := false
  lostDevice     : Option Nat := none
  lanesStopped   : Bool := false
  g6Stopped      : Bool := false
  draining       : Bool := false
  readyRequested : Bool := false
  dictServed     : Bool := false
  trigReset      : Bool := true
  bootStart      : Nat := 0
  initStart      : Nat := 0
  imgVersion     : Nat := 0
  imgRollback    : Nat := 0
  logsOn         : Bool := false
  opStart        : Nat := 0
  deriving DecidableEq, Repr

/-! ## MRAM (15 R438) -/

/-- One value of a saved image: key, length and bytes (02 R58). -/
structure SavedEntry where
  key   : Nat := 0
  bytes : List Byte := []
  deriving DecidableEq, Repr

/-- A dictionary image in MRAM (02 R58). -/
structure Image where
  valid   : Bool := false
  gen     : Nat := 0
  version : Nat := 0
  bytes   : Nat := 0
  entries : List SavedEntry := []
  deriving DecidableEq, Repr

/-- A recorder record (15 R443). -/
structure RecRecord where
  index       : Nat := 0
  opSeconds   : Nat := 0
  powerCycles : Nat := 0
  code        : Nat := 0
  unit        : Nat := 0
  time        : Nat := 0
  detail      : Nat := 0
  deriving DecidableEq, Repr

/-- The trims of the 32 outputs, 16 sensors and 4 monitors (15 R449). -/
structure Trims where
  fine     : Tbl Nat := []
  sensors  : Tbl Nat := []
  monitors : Tbl Nat := []
  deriving DecidableEq, Repr

/-- The contents of the MRAM (15 R438). -/
structure Mram where
  imageA       : Image := {}
  imageB       : Image := {}
  recorder     : Tbl RecRecord := []
  recHead      : Nat := 0
  retired      : List Nat := []
  opSeconds    : Nat := 0
  powerCycles  : Nat := 0
  resets       : Nat := 0
  pfails       : Nat := 0
  epoch        : Nat := 0
  antiRollback : Nat := 0
  trims        : Trims := {}
  factory      : Trims := {}
  deriving DecidableEq, Repr

/-! ## Dictionary, sources, journal and logs (02, 15) -/

/-- A segmented transfer of one source (02 R51–R54). -/
structure Transfer where
  target   : Nat := 0
  download : Bool := false
  length   : Nat := 0
  crc      : Nat := 0
  data     : List Byte := []
  offset   : Nat := 0
  lastTime : Nat := 0
  deriving DecidableEq, Repr

/-- A per-source copy of a log or ledger entry: the words read and the result (02 R69, 04 R138, 15 R440, R446). -/
structure ReadCopy where
  index  : Nat := 0
  bytes  : List Byte := []
  result : Nat := 0
  deriving DecidableEq, Repr

/-- What each source owns of its own (02 R46, R53, R55, R56). -/
structure SourceState where
  effTarget  : Nat := 0
  segTarget  : Nat := 0
  segMode    : Nat := 1
  segLength  : Nat := 0
  segCrc     : Nat := 0
  segOffset  : Nat := 0
  segStatus  : Nat := 0
  segResult  : Nat := 0
  segData    : Tbl Slot := []
  transfer   : Option Transfer := none
  journal    : ReadCopy := {}
  trouble    : ReadCopy := {}
  recorder   : ReadCopy := {}
  ledger     : Tbl ReadCopy := []
  deriving DecidableEq, Repr

/-- The owner of a range (02 R55–R57): source code, token, and the time at which a closed session's claim lapses. -/
structure Owner where
  source : Nat := 0
  token  : Nat := 0
  lapse  : Option Nat := none
  deriving DecidableEq, Repr

/-- A journal entry (02 R66). -/
structure JournalEntry where
  seq     : Nat := 0
  time    : Nat := 0
  value   : Nat := 0
  source  : Nat := 0
  target  : Nat := 0
  inRun   : Bool := false
  result  : Nat := 0
  stripLo : Nat := 0
  deriving DecidableEq, Repr

/-- A trouble log entry (15 R440). -/
structure TroubleEntry where
  seq      : Nat := 0
  time     : Nat := 0
  code     : Nat := 0
  unit     : Nat := 0
  severity : Nat := 0
  state    : Nat := 0
  stripLo  : Nat := 0
  detail   : Nat := 0
  deriving DecidableEq, Repr

/-- A write that waits for the dictionary (02 R42, 13 R390, 14 R424). -/
structure HeldWrite where
  src   : Source := .host
  index : BitVec 16
  sub   : BitVec 8
  size  : Nat := 0
  value : Slot := 0
  deriving DecidableEq, Repr

/-- The object dictionary: values in effect, pending values, byte blocks, sources, owners, journal, saves (02). -/
structure Dict where
  vals       : Tbl Slot := []
  pend       : Tbl Slot := []
  blobs      : Tbl (List Byte) := []
  pendBlobs  : Tbl (List Byte) := []
  sources    : Tbl SourceState := []
  owners     : Tbl Owner := []
  journal    : List JournalEntry := []
  nextSeq    : Nat := 0
  held       : List HeldWrite := []
  holdTicks  : Nat := 0
  saving     : Option (List SavedEntry × Nat) := none
  forced     : Tbl Slot := []
  deriving DecidableEq, Repr

/-- Trouble log and recorder staging (15 R440–R446). -/
structure Logs where
  trouble     : List TroubleEntry := []
  nextTl      : Nat := 0
  staged      : List RecRecord := []
  flushing    : Option (Nat × Nat) := none
  flushAgain  : Bool := false
  lastFlush   : Nat := 0
  droppedSince : Nat := 0
  stopped     : Bool := false
  lastSecondSave : Nat := 0
  pfailFlush  : Bool := false
  waiting     : List (Option TroubleEntry × RecRecord) := []
  deriving DecidableEq, Repr

/-! ## Schedule (03) -/

/-- Sums of one neighbour pair over a strip (06 R191). -/
structure PairSum where
  left   : Nat := 0
  right  : Nat := 0
  sumA   : Nat := 0
  sumB   : Nat := 0
  pixels : Nat := 0
  gainL  : Nat := 0
  gainR  : Nat := 0
  flags  : Nat := 0
  ratio  : Nat := 0
  deriving DecidableEq, Repr

/-- Edge statistics of a strip (06 R197). -/
structure EdgeStats where
  accepted : Nat := 0
  lines    : Nat := 0
  sumL     : Nat := 0
  minL     : Nat := 0
  maxL     : Nat := 0
  sumR     : Nat := 0
  minR     : Nat := 0
  maxR     : Nat := 0
  rejected : Nat := 0
  lostL    : Bool := false
  lostR    : Bool := false
  span     : Bool := false
  synth    : Bool := false
  deriving DecidableEq, Repr

/-- A strip from its opening tick to its summary (03 R72–R90); `old` and `oldBlobs` are the settings it goes on with that
later ticks have changed (02 R43). -/
structure Strip where
  index       : Nat := 0
  lineFirst   : Nat := 0
  lineEnd     : Option Nat := none
  tickTime    : Nat := 0
  openedAt    : Nat := 0
  closedAt    : Nat := 0
  forced      : Bool := false
  deferred    : Bool := false
  passed      : Bool := false
  migrated    : Bool := false
  opCapped    : Bool := false
  energyStale : Bool := false
  shedMask    : Nat := 0
  opMax       : Nat := 0
  opSel       : Nat := 0
  lag         : Nat := 0
  records     : Nat := 0
  openRegions : Nat := 0
  epoch       : Nat := 0
  energyNj    : Nat := 0
  samples     : Nat := 0
  pairs       : List PairSum := []
  gainsDone   : Bool := false
  edges       : EdgeStats := {}
  old         : Tbl Slot := []
  oldBlobs    : Tbl (List Byte) := []
  qty         : Tbl Nat := []
  pred        : List Nat := []
  deriving DecidableEq, Repr

/-- The measured quantities of one strip that the predictor keeps, newest strip first (03 R79, R80). -/
structure Measured where
  lines  : Nat := 0
  period : Nat := 0
  qty    : Tbl Nat := []
  deriving DecidableEq, Repr

/-- An operating-point change in progress (03 R83, 13 R407). -/
structure OpChange where
  target  : Nat := 0
  started : Nat := 0
  deriving DecidableEq, Repr

/-- The checks of a pipeline (15 R453): the ticks since its last passed check, whether a check is due, the strip for which it
was granted, and whether `CHECK_OVERDUE` has been entered. -/
structure Check where
  since   : Nat := 0
  due     : Bool := false
  granted : Option Nat := none
  overdue : Bool := false
  deriving DecidableEq, Repr

/-- Tick, window, predictor, shedding and operating point (03); `deferredForced` while the deferred tick is one that
R73 forces. -/
structure Sched where
  strips     : List Strip := []
  history    : List Measured := []
  lastTick   : Nat := 0
  deferredAt : Option Nat := none
  deferredForced : Bool := false
  arrived    : Nat := 0
  deadlines  : Tbl Nat := []
  shed       : Nat := 0
  opChange   : Option OpChange := none
  opNext     : Option Nat := none
  marginHigh : Bool := false
  settling   : Bool := false
  settleStopped : Bool := false
  cut        : List (Nat × Nat) := []
  lostCeiling : Option Nat := none
  thermLimit : Bool := false
  checks     : Tbl Check := []
  deriving DecidableEq, Repr

/-! ## Camera ingress (04) and pipelines (05) -/

/-- Lane states (04 R109); the code is that of `LaneStates`. -/
inductive LaneState where
  | off | cdr | block | marker | locked
  deriving DecidableEq, Repr

/-- One receive lane (04 R103–R109). -/
structure Lane where
  state     : LaneState := .off
  logical   : Nat := 0
  markers   : Nat := 0
  missed    : Nat := 0
  since     : Nat := 0
  noSignal  : Bool := false
  deriving DecidableEq, Repr

/-- A trigger ledger entry (04 R129). -/
structure LedgerEntry where
  seq      : Nat := 0
  encoder  : Nat := 0
  valid    : Bool := false
  matched  : Bool := false
  timeMode : Bool := false
  lost     : Bool := false
  planes   : Nat := 0
  beforeOrigin : Bool := false
  encCount : Nat := 0
  trigTime : Nat := 0
  worldPos : Nat := 0
  creditTime : Nat := 0
  deriving DecidableEq, Repr

/-- What a line packet's header carries on with it (04 R113, R120, R121). -/
structure LineHead where
  plane     : Nat := 0
  format    : Nat := 0
  triggered : Bool := false
  pixels    : Nat := 0
  seq       : Nat := 0
  counter   : Nat := 0
  camTime   : Nat := 0
  exposure  : Nat := 0
  trigTime  : Nat := 0
  worldPos  : Int := 0
  encoder   : Nat := 0
  deriving DecidableEq, Repr

/-- A line packet in the ingress buffer or in a pipeline (04 R120, R134). -/
structure LinePacket where
  head    : LineHead := {}
  length  : Nat := 0
  payload : Option (List Byte) := none
  crcOk   : Bool := false
  deriving DecidableEq, Repr

/-- The packet in reception on a port (04 R111, R124). -/
structure RxPacket where
  length  : Nat := 0
  discard : Bool := false
  matched : Option LineHead := none
  taken   : Bool := false
  headOk  : Bool := false
  mark    : Option LineHead := none
  deriving DecidableEq, Repr

/-- One sensor plane after stages 1 to 3 (05 R139, R147); `filled` is 0, 1 for a filled pixel (04 R121), or 2 for a sample
that 05 R142 replaced with the fill value. -/
structure Plane where
  head    : LineHead := {}
  q       : Nat := 0
  samples : List Nat := []
  filled  : List Nat := []
  trunc   : Bool := false
  arrived : Nat := 0
  deriving DecidableEq, Repr

/-- A corrected camera line on its way to Causeway (05 R154). -/
structure CamLine where
  head   : LineHead := {}
  planes : List (List Nat) := []
  filled : List Nat := []
  trunc  : Bool := false
  epoch  : Nat := 0
  deriving DecidableEq, Repr

/-- A missing camera line reported to Causeway: its trigger, if any, and its position in 2^−16 world lines;
`half` while that awaits the next formed line (04 R132, 05 R146, R148; 06 R183). -/
structure Missing where
  seq  : Option Nat := none
  pos  : Int := 0
  half : Bool := false
  deriving DecidableEq, Repr

/-- Focus accumulators of one zone (05 R161). -/
structure Zone where
  gradH2   : Nat := 0
  brenner  : Nat := 0
  gradV2   : Nat := 0
  gradMax  : Nat := 0
  excluded : Nat := 0
  deriving DecidableEq, Repr

/-- Focus accumulators of one port and strip (05 R161–R163). -/
structure Focus where
  zones    : Tbl Zone := []
  lines    : Nat := 0
  linesV   : Nat := 0
  lost     : Bool := false
  fill     : Bool := false
  pipe     : Option Nat := none
  migrated : Bool := false
  deriving DecidableEq, Repr

/-- A camera port: state machine, credits, buffer, ledger, planes held, output to Causeway (04 R110–R136, 05 R145–R163). -/
structure Port where
  state      : Nat := 0
  poweredAt  : Option Nat := none
  lastValid  : Nat := 0
  deskewFail : Option Nat := none
  rx         : Option RxPacket := none
  buffer     : List LinePacket := []
  consumed   : Nat := 0
  limit      : Nat := 0
  fill       : Nat := 0
  creditDue  : Bool := false
  lastCredit : Nat := 0
  stallSince : Option Nat := none
  stallTotal : Nat := 0
  beaconSeq  : Nat := 0
  lastBeacon : Nat := 0
  tunTag     : Nat := 0
  tunSent    : Option Nat := none
  violated   : Bool := false
  camState   : Nat := 0
  nextSeq    : Nat := 0
  issued     : Bool := false
  lastTrig   : Option Nat := none
  ledger     : Tbl LedgerEntry := []
  held       : List Plane := []
  closed     : List Nat := []
  taken      : List (Nat × Nat) := []
  prevLuma   : Option (List Nat × List Bool) := none
  lastPos    : Option Int := none
  focus      : Tbl Focus := []
  output     : List CamLine := []
  missing    : List Missing := []
  loading    : Bool := false
  loadStart  : Nat := 0
  deriving DecidableEq, Repr

/-- A pipeline: whose turn it is and the plane it works on (04 R134, 05 R140). -/
structure Pipe where
  lastPort  : Nat := 15
  turnCount : Nat := 0
  work      : Option (Nat × LinePacket) := none
  testing   : Bool := false
  returning : Bool := false
  deriving DecidableEq, Repr

/-! ## Causeway (06) -/

/-- A used camera line after its cross-web step: its place, the gain in effect at that step, and its segment between spans (06
R176–R180, R185, R190, R196). -/
structure UsedLine where
  y       : Int := 0
  gain    : Nat := 16384
  seg     : Nat := 0
  planes  : List (List Nat) := []
  filled  : List Bool := []
  deriving DecidableEq, Repr

/-- A span of a port, with its end once it has one; world lines below `reported` are with Reef (06 R184, R185). -/
structure Span where
  first    : Nat := 0
  cause    : Nat := 0
  reported : Nat := 0
  stop     : Option Nat := none
  deriving DecidableEq, Repr

/-- Causeway's state of one port (06 R179–R185). Spans divide its used lines into segments; `spans` are those with world lines
still to form or report, `seg` the segment of the newest line, and a line before world line `resume`, the L_e of the last span that
ended, is late; `dates` are position without `AlongOffset` and exposure centre in half ns of the used lines, newest first (06
R194). -/
structure Geo where
  used      : List UsedLine := []
  lastY     : Option Int := none
  missing   : List Int := []
  gaps      : List (Int × Int) := []
  spans     : List Span := []
  seg       : Nat := 0
  resume    : Nat := 0
  waitSince : Option Nat := none
  spillHold : Bool := false
  dates     : List (Int × Int) := []
  deriving DecidableEq, Repr

/-- One filtered web edge (06 R192). -/
structure Edge where
  value  : Nat := 0
  known  : Bool := false
  missed : Nat := 0
  lost   : Bool := false
  deriving DecidableEq, Repr

/-- A formed world line: planes, marks and the mask of contributing ports by column, edges in u20.12, time and velocity
(06 R169, R190, R193, R194). -/
structure WorldLine where
  line   : Nat := 0
  strip  : Nat := 0
  planes : List (List Nat) := []
  marks  : List Nat := []
  ports  : List Nat := []
  edgeL  : Nat := 0
  edgeR  : Nat := 0
  time   : Int := 0
  vel    : Int := 0
  deriving DecidableEq, Repr

/-- A span handed to Reef (06 R185). -/
structure SpanReport where
  port     : Nat := 0
  cause    : Nat := 0
  first    : Nat := 0
  count    : Nat := 0
  colFirst : Nat := 0
  colCount : Nat := 0
  cont     : Bool := false
  deriving DecidableEq, Repr

/-- What is kept of a formed world line for the run: its time and left edge (06 R192, R194). -/
structure LinePast where
  line  : Nat := 0
  time  : Int := 0
  edgeL : Nat := 0
  deriving DecidableEq, Repr

/-- Causeway (06); `recent` are the last formed lines, `never` the runs of lines never formed (03 R88), first to end, `gains`
the port gains that the next tick puts in effect (06 R191). -/
structure Causeway where
  geo      : Tbl Geo := []
  nextLine : Nat := 0
  left     : Edge := {}
  right    : Edge := {}
  formed   : List WorldLine := []
  spans    : List SpanReport := []
  holdSince : Option Nat := none
  recent   : List WorldLine := []
  past     : List LinePast := []
  never    : List (Nat × Nat) := []
  gains    : Tbl Nat := []
  deriving DecidableEq, Repr

/-! ## Reef, pieces and Atoll (07, 08) -/

/-- A column of the column model (07 R203). -/
structure Column where
  mean  : Nat := 0
  mad   : Nat := 0
  valid : Bool := false
  deriving DecidableEq, Repr

/-- What a region accumulates (07 R214). -/
structure Region where
  id      : Nat := 0
  map     : Nat := 0
  band    : Option Nat := none
  lineMin : Nat := 0
  lineMax : Nat := 0
  colMin  : Nat := 0
  colMax  : Nat := 0
  area    : Nat := 0
  sumD    : Int := 0
  sumAbs  : Nat := 0
  sumAbsX : Nat := 0
  sumAbsL : Nat := 0
  peak    : Int := 0
  peakCol : Nat := 0
  peakLine : Nat := 0
  cams    : Nat := 0
  marks   : Nat := 0
  edge    : Bool := false
  ovf     : Bool := false
  edgeL   : Nat := 0
  deriving DecidableEq, Repr

/-- A run of the last line with the region or overflow band it belongs to (07 R210). -/
structure Run where
  map    : Nat := 0
  first  : Nat := 0
  last   : Nat := 0
  region : Option Nat := none
  band   : Option Nat := none
  forced : Bool := false
  deriving DecidableEq, Repr

/-- A record of the 64-byte stream before it takes its SEQ: its bytes, its closing line, its place among the records of
that line, the strip it counts in where the line does not tell, the edge column its columns are relative to, and the world line whose
time it carries where that is filled in as it leaves (06 R195; 07 R222–R224). -/
structure StreamRecord where
  bytes : List Byte := []
  close : Nat := 0
  rank  : Nat := 0
  order : Nat × Nat := (0, 0)
  strip : Option Nat := none
  base  : Nat := 0
  dated : Option Nat := none
  deriving DecidableEq, Repr

/-- Reef (07): `uninsp` the run of lines without reference so far, `openAt` the open regions at the end of each strip,
`held` the records that await their turn, `queue` when each queued record leaves and its strip. -/
structure Reef where
  columns   : Tbl Column := []
  loaded    : List Nat := []
  warmLeft  : Nat := 0
  nextLine  : Nat := 0
  runs      : List Run := []
  regions   : List Region := []
  bands     : List Region := []
  nextId    : Nat := 0
  uninsp    : Option (Nat × Nat) := none
  openAt    : Tbl Nat := []
  seq       : Nat := 0
  held      : List StreamRecord := []
  queue     : List (Nat × Nat) := []
  stalled   : Option Nat := none
  goldenLost : Bool := false
  model     : Option Nat := none
  deriving DecidableEq, Repr

/-- A piece from its start event to its piece-end record (07 R220–R222). -/
structure Piece where
  id        : Nat := 0
  line      : Nat := 0
  col       : Nat := 0
  lineEnd   : Option Nat := none
  byLength  : Bool := false
  cutShort  : Bool := false
  fiducial  : Bool := false
  final     : Bool := false
  startTime : Nat := 0
  encCount  : Nat := 0
  cutPrev   : Bool := false
  length    : Nat := 0
  endMode   : Nat := 0
  endOffset : Int := 0
  channel   : Nat := 0
  defects   : Nat := 0
  unclass   : Nat := 0
  overflows : Nat := 0
  spans     : List (Nat × Nat) := []
  lastClose : Nat := 0
  done      : Bool := false
  deriving DecidableEq, Repr

/-- The accumulator of one emitter and phase (08 R241, R242). -/
structure Cell where
  n      : Nat := 0
  sum0   : Nat := 0
  sum1   : Nat := 0
  sum2   : Nat := 0
  sumDx  : Int := 0
  sumDy  : Int := 0
  peak   : Nat := 0
  marks  : Nat := 0
  ports  : Nat := 0
  sat    : Bool := false
  skip   : Bool := false
  part   : Bool := false
  deriving DecidableEq, Repr

/-- The grid of one piece (08 R233, R236, R240, R241): its settings are those in effect at its start event (08 R248);
`finalLine` is the first line taken after its origin was final, `row` the lowest row not closed, cells are keyed by column
and phase. -/
structure GridRun where
  piece     : Nat := 0
  settings  : List (Nat × Slot) := []
  nomX      : Nat := 0
  nomL      : Nat := 0
  originX   : Int := 0
  originL   : Int := 0
  final     : Bool := false
  finalLine : Nat := 0
  fiducial  : Bool := false
  t0        : Nat := 0
  carrierBad : Bool := false
  row       : Nat := 0
  cells     : Tbl Cell := []
  fidCount  : Nat := 0
  fidSum    : Nat := 0
  fidX      : Nat := 0
  fidL      : Nat := 0
  deriving DecidableEq, Repr

/-- Atoll (08): the grids of the pieces not ended, the phase reference with the one before it, the invalid dwells by port
and start (08 R239), the times in half ns at which the queued emitter records leave, with their strips, and the runs of lines
that Atoll passed through (08 R246). -/
structure Atoll where
  grids     : List GridRun := []
  t0        : Nat := 0
  oldT0     : Nat := 0
  badDwell  : List (Nat × Int) := []
  nextLine  : Nat := 0
  queue     : List (Nat × Nat) := []
  stalled   : Option Nat := none
  passed    : List (Nat × Nat) := []
  deriving DecidableEq, Repr

/-! ## Streams and compression (09) -/

/-- A delivery unit of a stream (09 R251). -/
structure SUnit where
  bytes  : List Byte := []
  strip  : Nat := 0
  engine : Nat := 0
  deriving DecidableEq, Repr

/-- A chip request (09 R259). -/
structure ChipReq where
  recSeq  : Nat := 0
  col     : Nat := 0
  line    : Nat := 0
  width   : Nat := 0
  height  : Nat := 0
  flags   : Nat := 0
  cls     : Nat := 0
  piece   : Nat := 0
  time    : Nat := 0
  endLine : Nat := 0
  avail   : Nat := 0
  deriving DecidableEq, Repr

/-- A batch of records for the field (11 R337). -/
structure Batch where
  records : List (List Byte) := []
  opened  : Nat := 0
  deriving DecidableEq, Repr

/-- The settings and input of a compression unit or job (09 R267, R268, R276). -/
structure CompWork where
  source    : Nat := 0
  decompress : Bool := false
  zlib      : Bool := false
  dynamic   : Bool := false
  prepass   : Bool := false
  checkCrc  : Bool := false
  fallback  : Bool := false
  irq       : Bool := false
  depth     : Nat := 0
  ppBytes   : Nat := 0
  ppLine    : Nat := 0
  parts     : List (List Byte) := []
  hostSrc   : Bool := false
  dstAddr   : Nat := 0
  dstLen    : Nat := 0
  expect    : Nat := 0
  tag       : Nat := 0
  deadline  : Nat := 0
  strip     : Nat := 0
  deriving DecidableEq, Repr

/-- A compression engine (09 R267–R278). -/
structure Engine where
  state    : Nat := 0
  work     : Option CompWork := none
  bufAddr  : Nat := 0
  bufLen   : Nat := 0
  bufTag   : Nat := 0
  hasBuf   : Bool := false
  unitSeq  : Nat := 0
  outLen   : Nat := 0
  overrun  : Nat := 0
  ready    : List CompWork := []
  deriving DecidableEq, Repr

/-- Output streams, chips, statistics and engines (09). -/
structure Streams where
  units     : Tbl (List SUnit) := []
  shareHost : Tbl (List SUnit) := []
  skipped   : Tbl Nat := []
  sxNext    : Tbl Nat := []
  chips     : List ChipReq := []
  frameSeq  : Nat := 0
  batches   : Tbl Batch := []
  engines   : Tbl Engine := []
  deriving DecidableEq, Repr

/-! ## Encoders, triggers, motion, Narrows (10) -/

/-- An edge stamp: counter value, count after it and direction (10 R284). -/
structure Stamp where
  time  : Nat := 0
  count : Nat := 0
  up    : Bool := false
  deriving DecidableEq, Repr

/-- An encoder channel with its motion filter (10 R283–R300); velocities are in 2^−32 nm per ns. -/
structure Encoder where
  a        : Bool := false
  b        : Bool := false
  count    : Nat := 0
  stamps   : List Stamp := []
  illegal  : Nat := 0
  raws     : List (Nat × Int) := []
  underOn  : Option Bool := none
  overOn   : Option Bool := none
  accelOn  : Option Bool := none
  dir      : Option Bool := none
  lastOut  : Option Nat := none
  deriving DecidableEq, Repr

/-- A compare unit (10 R286–R289). -/
structure Compare where
  armed   : Bool := false
  acc     : Int := 0
  rt      : Nat := 0
  next    : Nat := 0
  ref     : Nat := 0
  lastHop : Option Nat := none
  deriving DecidableEq, Repr

/-- A pulse of a trigger output: start and end in the time counter, and the fine delay in 10 ps (10 R290). -/
structure Pulse where
  start  : Nat := 0
  finish : Nat := 0
  fine   : Nat := 0
  deriving DecidableEq, Repr

/-- A trigger output (10 R290–R293). -/
structure TrigOut where
  queue   : List Pulse := []
  current : Option Pulse := none
  lastEnd : Option Nat := none
  newTrim : Option Nat := none
  deriving DecidableEq, Repr

/-- A Narrows level-1 channel (10 R301–R306). -/
structure Channel where
  lastHop : Option Nat := none
  carried : Nat := 0
  deriving DecidableEq, Repr

/-- Encoders, compare units, outputs and Narrows (10). -/
structure Motion where
  encoders  : Tbl Encoder := []
  compares  : Tbl Compare := []
  outputs   : Tbl TrigOut := []
  channels  : Tbl Channel := []
  levels    : Tbl Bool := []
  wires     : Tbl (List (Nat × Bool)) := []
  intervalStart : Nat := 0
  encIntervalStart : Nat := 0
  deriving DecidableEq, Repr

/-! ## Time and field network (11) -/

/-- A time domain: offset in 2^−16 ns, anchor and rate in 2^−40 (11 R313). -/
structure Domain where
  offset : Int := 0
  anchor : Nat := 0
  rate   : Int := 0
  deriving DecidableEq, Repr

/-- A gPTP instance (11 R320–R322). -/
structure Ptp where
  master     : Option Announce := none
  masterPort : Nat := 0
  good       : Nat := 0
  stepped    : Bool := false
  lastSync   : Nat := 0
  lastAnn    : Nat := 0
  lastSent   : Nat := 0
  deriving DecidableEq, Repr

/-- A frame waiting on a field port: class, destination and bytes (11 R325, R326). A datagram to a node is held as its
message type and body, and numbered when it leaves (11 R340). -/
structure Frame where
  cls    : Nat := 0
  node   : Option Nat := none
  cmdId  : Nat := 0
  launch : Option Nat := none
  ip     : Nat := 0
  udp    : Nat := 0
  msg    : Nat := 0
  bytes  : List Byte := []
  order  : Nat := 0
  deriving DecidableEq, Repr

/-- A supervisor session (11 R339, R340). -/
structure Session where
  peer     : Option Peer := none
  lastSeq  : Nat := 0
  answer   : List Byte := []
  refused  : Nat := 0
  lastTime : Nat := 0
  authSlot : Nat := 0
  outSeq   : Nat := 0
  auth     : Bool := false
  deriving DecidableEq, Repr

/-- A NODE_CMD that waits for its acknowledgement (11 R335, R336). -/
structure OutCmd where
  id       : Nat := 0
  rev      : Nat := 0
  code     : Nat := 0
  deadline : Nat := 0
  piece    : Nat := 0
  deriving DecidableEq, Repr

/-- A node (11 R341). -/
structure Node where
  cycCount : Nat := 0
  lastOut  : Nat := 0
  missed   : Nat := 0
  lastSeq  : Option Nat := none
  outSeq   : Nat := 0
  nextCmd  : Nat := 0
  waiting  : List OutCmd := []
  deriving DecidableEq, Repr

/-- A MARK command before its commit (11 R342–R344). -/
structure MarkCmd where
  node      : Nat := 0
  id        : Nat := 0
  rev       : Nat := 0
  recSeq    : Nat := 0
  param     : Nat := 0
  aim       : Int := 0
  act       : Nat := 0
  launch    : Nat := 0
  queued    : Bool := false
  committed : Bool := false
  late      : Bool := false
  order     : Nat := 0
  heldSince : Option Nat := none
  deriving DecidableEq, Repr

/-- A defect record whose MARK command waits while T1 restarts (13 R390). -/
structure MarkRequest where
  cls     : Nat := 0
  recSeq  : Nat := 0
  lineMin : Nat := 0
  lineExt : Nat := 0
  centOfs : Nat := 0
  deriving DecidableEq, Repr

/-- An authentication key slot (11 R338). -/
structure KeySlot where
  ip  : Nat := 0
  key : List Byte := []
  deriving DecidableEq, Repr

/-- Time domains and field network (11); `waiting` are the supervisors' datagrams that wait while T0 restarts (13 R390). -/
structure Net where
  domains  : Tbl Domain := []
  w        : Domain := {}
  wAligned : Bool := false
  wDiverged : Bool := false
  launched : Tbl Nat := []
  d0Since  : Option Nat := none
  ptp      : Tbl Ptp := []
  queues   : Tbl (List Frame) := []
  order    : Nat := 0
  sessions : Tbl Session := []
  nodes    : Tbl Node := []
  marks    : List MarkCmd := []
  fresh    : List MarkRequest := []
  keys     : Tbl KeySlot := []
  waiting  : List (Peer × List Byte) := []
  deriving DecidableEq, Repr

/-! ## Memory and Ferry (12) -/

/-- A row-disturbance entry (12 R365). -/
structure RowCount where
  bank  : Nat := 0
  row   : Nat := 0
  count : Nat := 0
  deriving DecidableEq, Repr

/-- A GDDR6 channel (12 R357–R365). -/
structure G6Chan where
  debt  : Nat := 0
  rows  : List RowCount := []
  openRows : Tbl (Option (Nat × Nat)) := []
  deriving DecidableEq, Repr

/-- The external memory (12 R349–R368): contents, uncorrectable units, channels. -/
structure G6 where
  mem   : Tbl Byte := []
  bad   : List Nat := []
  chans : Tbl G6Chan := []
  deriving DecidableEq, Repr

/-- A Ferry descriptor (12 R372). -/
structure Desc where
  op       : Nat := 0
  irq      : Bool := false
  chain    : Bool := false
  statusWb : Bool := false
  reqMode  : Nat := 0
  rsMode   : Nat := 0
  elem     : Nat := 0
  planes   : Nat := 0
  length   : Nat := 0
  src      : Nat := 0
  dst      : Nat := 0
  fill     : Nat := 0
  next     : Nat := 0
  status   : Nat := 0
  rowBytes : Nat := 0
  tag      : Nat := 0
  deriving DecidableEq, Repr

/-- A burst in flight: offset in the descriptor and length (12 R370). -/
structure Burst where
  offset : Nat := 0
  length : Nat := 0
  deriving DecidableEq, Repr

/-- A Ferry channel (12 R369–R383). -/
structure FerryChan where
  desc     : Option Desc := none
  issued   : Nat := 0
  done     : Nat := 0
  bursts   : List Burst := []
  grants   : Nat := 0
  aborting : Bool := false
  mismatch : Option Nat := none
  rsData   : List Byte := []
  fetch    : Nat := 0
  waitSince : Nat := 0
  deriving DecidableEq, Repr

/-- Ferry (12). -/
structure Ferry where
  chans : Tbl FerryChan := []
  turn  : Nat := 0
  deriving DecidableEq, Repr

/-! ## Harbourmaster, PCIe, power (13, 14) -/

/-- A Harbourmaster source on one path (13 R391–R399). -/
structure HmSource where
  pending : Bool := false
  service : Bool := false
  again   : Bool := false
  level   : Bool := false
  route   : Option Nat := none
  last    : Option Nat := none
  waking  : Bool := false
  maskedAt : Option Nat := none
  deriving DecidableEq, Repr

/-- A Harbourmaster target (13 R394–R398). -/
structure HmTarget where
  stack     : List (Nat × Nat) := []
  signalled : Bool := false
  since     : Bool := false
  lastMsg   : Option Nat := none
  deferred  : Bool := false
  deriving DecidableEq, Repr

/-- Harbourmaster: the firmware path and the host path (13 R391). -/
structure Harbour where
  req     : Tbl Nat := []
  fw      : Tbl HmSource := []
  host    : Tbl HmSource := []
  targets : Tbl HmTarget := []
  fwRecovery : Bool := false
  deriving DecidableEq, Repr

/-- The PCIe function (14 R414–R431). -/
structure Pcie where
  linkUp     : Bool := false
  busMaster  : Bool := false
  msixEnable : Bool := false
  funcMask   : Bool := false
  unmasked   : List Nat := []
  pba        : List Nat := []
  d3hot      : Bool := false
  pmeEn      : Bool := false
  bar2Base   : Nat := 0
  bar2Discards : Nat := 0
  bar2Aborts : Nat := 0
  badAccess  : Nat := 0
  recovery   : Bool := false
  deriving DecidableEq, Repr

/-- Power, thermal control and control cores (13 R389–R410): cores in restart, the warning level, when the thermal limit
began, energy in nJ since boot and since the last tick, whether calibration touched the interval, and voltage trims in mV. -/
structure Power where
  restarting : List Nat := []
  warnOn     : Bool := false
  limitSince : Nat := 0
  energyNj   : Nat := 0
  sinceTick  : Nat := 0
  staleTick  : Bool := false
  trims      : Tbl Int := []
  deriving DecidableEq, Repr

/-- Calibration, self-test and lane references (15 R449–R456). -/
structure Maint where
  banks      : List Nat := []
  bank       : Option Nat := none
  test       : Option (Nat × Nat × Nat) := none
  lrefLost   : Tbl Bool := []
  lrefLostAt : Option Nat := none
  switching  : Option (Nat × Nat) := none
  linesLost  : Nat := 0
  deriving DecidableEq, Repr

/-! ## What leaves the chip -/

/-- Where something the chip sends goes. -/
inductive SentTo where
  /-- a camera port's downlink (04) -/
  | downlink (port : Nat)
  /-- a field port, on a traffic class, with the VID of its tag (`none` untagged), to an IPv4 address and port (11 R325) -/
  | field (port cls : Nat) (tag : Option Nat) (ip udp : Nat)
  /-- a PCIe memory write (12, 14) -/
  | hostWrite (addr : Nat)
  /-- an MSI-X message (13 R395) -/
  | msix (vector : Nat)
  /-- a PM_PME message (14 R428) -/
  | pme
  /-- a PCIe completion (14 R418, R425); `ok` false with Completer Abort or poison -/
  | completion (ok : Bool)
  /-- a PMBus write (13 R405–R407) -/
  | pmbus (reg cmd : Nat)
  /-- the UART console (01 R25) -/
  | console
  deriving DecidableEq, Repr

/-- One thing the chip sent, with the counter value at which it left: the model's own trace of its outputs. -/
structure Sent where
  dest : SentTo
  time : Nat
  data : List Byte
  deriving DecidableEq, Repr

/-- The whole machine. -/
structure State where
  pending   : List Instr := []
  now       : Nat := 0
  freeCount : Nat := 0
  part      : Part := {}
  pins      : Pins := {}
  life      : Life := {}
  mram      : Mram := {}
  dict      : Dict := {}
  logs      : Logs := {}
  sched     : Sched := {}
  lanes     : Tbl Lane := []
  ports     : Tbl Port := []
  pipes     : Tbl Pipe := []
  cause     : Causeway := {}
  reef      : Reef := {}
  pieces    : List Piece := []
  pieceNext : Nat := 0
  atoll     : Atoll := {}
  streams   : Streams := {}
  motion    : Motion := {}
  net       : Net := {}
  g6        : G6 := {}
  ferry     : Ferry := {}
  harbour   : Harbour := {}
  pcie      : Pcie := {}
  power     : Power := {}
  maint     : Maint := {}
  sent      : List Sent := []
  deriving DecidableEq, Repr

/-! ## After reset -/

/-- The part of `State.reset`: an RL-6416 with 16 Gb devices; what manufacture fixes reads 0 (DESIGN CHOICE, log entry 4). -/
def Part.new : Part := { variant := .rl6416, grade := 1, dense16 := true, macs := [0, 0, 0, 0] }

/-- The pins while no supply is valid: inputs that are active low are released, open-drain outputs high (16 R463). -/
def Pins.new : Pins := { pfailN := true, faultN := true, thermN := true, pmbAlertN := true }

/-- The machine right after reset: OFF (01 R24), the volatile state clear, the MRAM of a part that leaves manufacture
(02 R63; log entries 3, 4), no command waiting. -/
def State.reset : State := { part := Part.new, pins := Pins.new }

end Sys2Proof.Machine
end

