-- ==== Sys2Proof/Machine/Ops.lean ====
section
/-! DEFINITION. Named operations over the state: tables, memory, dictionary values, time, what leaves the chip, the
journal, the trouble log, the recorder's staging. -/

namespace Sys2Proof.Machine

open Sys2Proof

/-! ## Sparse tables -/

/-- The value at key k; d where the table lists none. -/
def tblGet {α : Type} (t : Tbl α) (d : α) (k : Nat) : α :=
  match t with
  | [] => d
  | (j, v) :: rest => if j = k then v else tblGet rest d k

/-- Insert or replace in a table that lists every value given. -/
def tblSet {α : Type} (t : Tbl α) (k : Nat) (v : α) : Tbl α :=
  match t with
  | [] => [(k, v)]
  | (j, w) :: rest =>
    if j < k then (j, w) :: tblSet rest k v
    else if j = k then (k, v) :: rest else (k, v) :: (j, w) :: rest

/-- Remove a key. -/
def tblDel {α : Type} (t : Tbl α) (k : Nat) : Tbl α := t.filter (fun e => e.1 ≠ k)

/-- The table with v at key k; nothing is listed at k when v is the default d. Keys stay strictly rising. -/
def tblPut {α : Type} [DecidableEq α] (t : Tbl α) (d : α) (k : Nat) (v : α) : Tbl α :=
  if v = d then tblDel t k else tblSet t k v

/-- The table with a function applied to the value at key k. -/
def tblMod {α : Type} [DecidableEq α] (t : Tbl α) (d : α) (k : Nat) (f : α → α) : Tbl α :=
  tblPut t d k (f (tblGet t d k))

/-- Whether every listed key is above k, keys rise strictly, and no value is the default. -/
def tblWfFrom {α : Type} [DecidableEq α] (d : α) : Option Nat → Tbl α → Bool
  | _, [] => true
  | lo, (j, v) :: rest => (match lo with | none => true | some l => decide (l < j)) && decide (v ≠ d) && tblWfFrom d (some j) rest

/-- The canonical form of a table. -/
def tblWf {α : Type} [DecidableEq α] (d : α) (t : Tbl α) : Bool := tblWfFrom d none t

/-! ## Memory (12 R349–R353) -/

/-- What a byte of GDDR6 that nothing has written reads as: 0 (DESIGN CHOICE, unsafe, log entry 1; INIT writes 0, R368). -/
def memDefault : Byte := 0

/-- The canonical form of the memory. -/
def Memory.wf (m : Tbl Byte) : Bool := tblWf memDefault m

/-- The byte at a local address. -/
def memByte (m : Tbl Byte) (a : Nat) : Byte := tblGet m memDefault a

/-- n bytes from a local address. -/
def memRead (m : Tbl Byte) (a : Nat) : Nat → List Byte
  | 0 => []
  | n + 1 => memByte m a :: memRead m (a + 1) n

/-- The memory with the bytes stored from a local address on. -/
def memWrite (m : Tbl Byte) (a : Nat) : List Byte → Tbl Byte
  | [] => m
  | b :: bs => memWrite (tblPut m memDefault a b) (a + 1) bs

/-- The state with another memory. -/
def State.setMem (s : State) (m : Tbl Byte) : State := { s with g6 := { s.g6 with mem := m } }

/-- Bytes stored in GDDR6. A unit written whole is marked uncorrectable no more: it holds a new code (12 R353, R360). -/
def State.store (s : State) (a : Nat) (bs : List Byte) : State :=
  let s := s.setMem (memWrite s.g6.mem a bs)
  let kept := s.g6.bad.filter fun u => !(a ≤ 64 * u && 64 * u + 64 ≤ a + bs.length)
  { s with g6 := { s.g6 with bad := kept } }

/-- Bytes read from GDDR6. -/
def State.load (s : State) (a n : Nat) : List Byte := memRead s.g6.mem a n

/-! ## Free values (log entry 2) -/

/-- The state after a free value is taken. -/
def State.stepFree (s : State) : State := { s with freeCount := s.freeCount + 1 }

/-- The next free number. -/
def State.free (s : State) : Nat := Config.freeNat s.freeCount

/-! ## Dictionary entries (02 R31–R38) -/

/-- The range an index lies in (02 R38). -/
def rangeOf (i : Nat) : Option Nat :=
  if i < 0x1000 then none
  else if i < 0x1100 then some 0 else if i < 0x1200 then some 1 else if i < 0x1300 then some 2
  else if i < 0x1400 then some 3 else if i < 0x2000 then none
  else if i < 0x3000 then some 4 else if i < 0x3800 then some 5 else if i < 0x4000 then some 6
  else if i < 0x4400 then some 7 else if i < 0x5000 then some 8 else if i < 0x5400 then some 9
  else if i < 0x5800 then some 10 else if i < 0x5C00 then some 11 else if i < 0x6000 then none
  else if i < 0x6400 then some 12 else if i < 0x6800 then some 13 else if i < 0x6C00 then some 14
  else if i < 0x7000 then some 15 else if i < 0x7400 then some 16 else if i < 0x7800 then some 17
  else if i < 0x7C00 then some 18 else if i < 0x8000 then some 19 else if i < 0x8400 then some 20
  else if i < 0x8800 then some 21 else if i < 0x8C00 then some 22 else if i < 0x9000 then some 23
  else none

/-- The entry rows of a range. -/
def rowsOf (r : Nat) : List EntryRow :=
  match r with
  | 0 => identityRows | 1 => stateRows | 2 => journalRows | 3 => saveSegmentRows | 4 => portsRows
  | 5 => pipelinesRows | 6 => tablesRows | 7 => causewayRows | 8 => reefRows | 9 => atollRows
  | 10 => streamsRows | 11 => compressionRows | 12 => scheduleRows | 13 => encodersRows
  | 14 => narrowsRows | 15 => timeDomainsRows | 16 => fieldJfpRows | 17 => nodesRows
  | 18 => memoryRows | 19 => ferryRows | 20 => harbourRows | 21 => powerRows
  | 22 => calibrationRows | 23 => logsRows | _ => []

/-- Whether an index belongs to a row's block. -/
def EntryRow.hasIndex (r : EntryRow) (i : Nat) : Bool :=
  r.base ≤ i && (i - r.base) % r.stride = 0 && (i - r.base) / r.stride < r.count

/-- Whether a row describes index:subindex. -/
def EntryRow.has (r : EntryRow) (i sub : Nat) : Bool :=
  r.hasIndex i && r.sub ≤ sub && sub < r.sub + r.subs

/-- Rows whose subindex 00 is implied: the highest subindex an index has (02 R31). -/
def highestSub (i : Nat) : Nat :=
  match rangeOf i with
  | none => 0
  | some r => ((rowsOf r).filter (·.hasIndex i)).foldl (fun m row => max m (row.sub + row.subs - 1)) 0

/-- The row of an entry. -/
def entryRow (i sub : Nat) : Option EntryRow :=
  match rangeOf i with
  | none => none
  | some r => (rowsOf r).find? (·.has i sub)

/-- The row of a key. -/
def keyRow (k : Nat) : Option EntryRow := entryRow (k / 256) (k % 256)

/-- The default of an entry: by instance and subindex offset (02 R31). -/
def keyDefault (k : Nat) : Slot :=
  match keyRow k with
  | none => 0
  | some r => r.dflt ((k / 256 - r.base) / r.stride) (k % 256 - r.sub)

/-- The value of an entry in effect (02 R43, R46). -/
def State.val (s : State) (k : Nat) : Slot :=
  match s.dict.vals.find? (fun e => e.1 = k) with
  | some e => e.2
  | none => keyDefault k

/-- The value in effect as a number. -/
def State.num (s : State) (k : Nat) : Nat := (s.val k).toNat

/-- The value in effect as a signed number. -/
def State.int (s : State) (k : Nat) : Int := (s.val k).toInt

/-- The value in effect as a truth value. -/
def State.flag (s : State) (k : Nat) : Bool := s.num k ≠ 0

/-- The last accepted value: the pending one where there is one (02 R13, R34). -/
def State.lastVal (s : State) (k : Nat) : Slot :=
  match s.dict.pend.find? (fun e => e.1 = k) with
  | some e => e.2
  | none => s.val k

/-- The last accepted value as a number. -/
def State.lastNum (s : State) (k : Nat) : Nat := (s.lastVal k).toNat

/-- The value a table lists at a key, if any. -/
def tblFind {α : Type} (t : Tbl α) (k : Nat) : Option α := (t.find? (fun e => e.1 = k)).map (·.2)

/-- The dictionary with a value in effect; a value equal to its default is not listed. -/
def State.setVal (s : State) (k : Nat) (v : Slot) : State :=
  { s with dict := { s.dict with vals := tblPut s.dict.vals (keyDefault k) k v } }

/-- A number stored in an entry. -/
def State.setNum (s : State) (k n : Nat) : State := s.setVal k (BitVec.ofNat 64 n)

/-- A signed number stored in an entry. -/
def State.setInt (s : State) (k : Nat) (i : Int) : State := s.setVal k (BitVec.ofInt 64 i)

/-- A truth value stored in an entry. -/
def State.setFlag (s : State) (k : Nat) (b : Bool) : State := s.setNum k (bit b)

/-- The bits of the type of an entry's count. -/
def keyBits (k : Nat) : Nat :=
  match keyRow k with
  | none => 64
  | some r => 8 * r.ty.size

/-- A counter raised by n. Past the width of its type the spec gives no value: a free value (log entry 11). -/
def State.add (s : State) (k n : Nat) : State :=
  let v := s.num k + n
  if v < pow2 (keyBits k) then s.setNum k v
  else (s.stepFree).setNum k (s.free % pow2 (keyBits k))

/-- A counter raised by 1. -/
def State.bump (s : State) (k : Nat) : State := s.add k 1

/-- A counter raised by 1 where a condition holds. -/
def State.bumpIf (s : State) (b : Bool) (k : Nat) : State := if b then s.bump k else s

/-- The default `PixelParams` (05 R166). -/
def pixelParamsDefault : List Byte :=
  leBytes 2 1 ++ zeros 6 ++ leBytes 2 4096 ++ leBytes 2 4096 ++ leBytes 2 4096 ++ zeros 2
    ++ (List.range 9).flatMap (fun i => leBytes 2 (if i % 4 = 0 then 4096 else 0)) ++ zeros 14
    ++ leBytes 2 871 ++ leBytes 2 2929 ++ leBytes 2 296 ++ zeros 10

/-- The number of knots of port n's cross-web map (06 R172). -/
def State.knotCount (s : State) (n : Nat) : Nat := (s.num (Key.covLast n) - s.num (Key.covFirst n) + 63) / 64 + 1

/-- The default bytes of a STR or DOMAIN entry: the tables of 05 R165, 06 R200, 07, 08 and 09; empty elsewhere. -/
def State.blobDefault (s : State) (k : Nat) : List Byte :=
  let i := k / 256
  if k = Key.vendorName then asciiBytes "Dullinar"
  else if k = Key.deviceName then asciiBytes (match s.part.variant with | .rl6416 => "RL-6416" | .rl3208 => "RL-3208")
  else if 0x3800 ≤ i && i < 0x3900 then
    let n := (i - 0x3800) / 16
    let o := (i - 0x3800) % 16
    let len := s.num (Key.camLineLength n)
    if o < 3 then
      (List.replicate (if k % 256 = 1 then min len 16384 else len - 16384) (leBytes 4 (16384 * pow2 16))).flatten
    else if o = 4 then leBytes 4 0x30000
    else if 8 ≤ o && o < 11 then (List.range 4096).flatMap fun j => leBytes 2 (16 * j)
    else if o = 12 then pixelParamsDefault else []
  else if 0x3900 ≤ i && i < 0x3910 then (List.range (s.knotCount (i - 0x3900))).flatMap fun j => leBytes 4 (0x400000 * j)
  else if k = Key.classTable then zeros 3072
  else if k = Key.atollLimits then zeros 96
  else if k = Key.chipClassTable then zeros 1024
  else if k = Key.fieldClassMask then List.replicate 32 0xFF
  else []

/-- The bytes of a STR or DOMAIN entry in effect; its default where none was written. -/
def State.blob (s : State) (k : Nat) : List Byte :=
  match tblFind s.dict.blobs k with
  | some b => b
  | none => s.blobDefault k

/-- The last accepted bytes of a STR or DOMAIN entry. -/
def State.lastBlob (s : State) (k : Nat) : List Byte :=
  match tblFind s.dict.pendBlobs k with
  | some b => b
  | none => s.blob k

/-- Bytes put in effect. -/
def State.setBlob (s : State) (k : Nat) (b : List Byte) : State :=
  { s with dict := { s.dict with blobs := tblSet s.dict.blobs k b } }

/-- A state changed where a condition holds. -/
def State.when (s : State) (b : Bool) (f : State → State) : State := if b then f s else s

/-- A state changed for each number below n, in rising order. -/
def State.forN (s : State) (n : Nat) (f : State → Nat → State) : State := (List.range n).foldl f s

/-! ## Instances of a variant (00 R1) -/

/-- The number of ports enabled on the part (00 R1). -/
def State.portCount (s : State) : Nat := match s.part.variant with | .rl6416 => 16 | .rl3208 => 8

/-- The number of pipelines enabled on the part (00 R1). -/
def State.pipeCount (s : State) : Nat := match s.part.variant with | .rl6416 => 8 | .rl3208 => 4

/-- The number of camera lanes enabled on the part (00 R1). -/
def State.laneCount (s : State) : Nat := match s.part.variant with | .rl6416 => 64 | .rl3208 => 32

/-- A per-instance part of the state: a port. -/
def State.port (s : State) (n : Nat) : Port := tblGet s.ports {} n

/-- A port replaced. -/
def State.setPort (s : State) (n : Nat) (p : Port) : State := { s with ports := tblPut s.ports {} n p }

/-- A port changed. -/
def State.modPort (s : State) (n : Nat) (f : Port → Port) : State := s.setPort n (f (s.port n))

/-- A lane. -/
def State.lane (s : State) (n : Nat) : Lane := tblGet s.lanes {} n

/-- A lane changed. -/
def State.modLane (s : State) (n : Nat) (f : Lane → Lane) : State :=
  { s with lanes := tblPut s.lanes {} n (f (s.lane n)) }

/-- A pipeline. -/
def State.pipe (s : State) (p : Nat) : Pipe := tblGet s.pipes {} p

/-- A pipeline changed. -/
def State.modPipe (s : State) (p : Nat) (f : Pipe → Pipe) : State :=
  { s with pipes := tblPut s.pipes {} p (f (s.pipe p)) }

/-! ## Device state (01 R24, 02 R62) -/

/-- The state code of 02 R62; OFF reads 0. -/
def DevState.code : DevState → Nat
  | .off => 0 | .boot => 1 | .init => 2 | .ready => 3 | .run => 4 | .fault => 5 | .safe => 6

/-- Whether the processor is in RUN. -/
def State.inRun (s : State) : Bool := s.life.state = .run

/-! ## Time (11 R312–R318) -/

/-- A domain's time at counter value c, in 2^−16 ns (11 R313). -/
def Domain.at16 (d : Domain) (c : Nat) : Int :=
  d.offset + ((c : Int) - (d.anchor : Int)) * ((pow2 40 : Int) + d.rate) / (pow2 24 : Int)

/-- The integer part of a domain's time, as a TIME64 (11 R313). -/
def Domain.ns (d : Domain) (c : Nat) : Nat := toTwos 64 (d.at16 c / (pow2 16 : Int))

/-- The working time W now (11 R316, R318). -/
def State.wNow (s : State) : Nat := s.net.w.ns s.now

/-- W at a counter value (11 R316). -/
def State.wAt (s : State) (c : Nat) : Nat := s.net.w.ns c

/-- A time domain. -/
def State.domain (s : State) (d : Nat) : Domain := tblGet s.net.domains {} d

/-- Re-anchoring at a counter value with a new rate (11 R314). -/
def Domain.reanchor (d : Domain) (c : Nat) (rate : Int) : Domain := ⟨d.at16 c, c, rate⟩

/-! ## What leaves the chip -/

/-- Something leaves the chip now. -/
def State.send (s : State) (dest : SentTo) (data : List Byte) : State :=
  { s with sent := s.sent ++ [⟨dest, s.now, data⟩] }

/-- An edge of a Harbourmaster source is requested (13 R393); HM_SOURCE_EVENT takes it. -/
def State.raiseHm (s : State) (n : Nat) : State :=
  { s with harbour := { s.harbour with req := tblMod s.harbour.req 0 n (· + 1) } }

/-- An event reaches a consumer's wire (or, at 0x10000 + k, channel k) at counter value t; the mark tells level 1 from
level 0 (10 R292, R301), and on a channel an injected event from its producer's (10 R305). -/
def State.putWire (s : State) (code t : Nat) (mark : Bool) : State :=
  { s with motion := { s.motion with wires := tblMod s.motion.wires [] code (· ++ [(t, mark)]) } }

/-- The events waiting at a consumer. -/
def State.wire (s : State) (code : Nat) : List (Nat × Bool) := tblGet s.motion.wires [] code

/-- The oldest event's Narrows cycle taken off a consumer's wire, with every event of that cycle (10 R292). -/
def State.takeWire (s : State) (code : Nat) : State :=
  let cycle := match s.wire code with | [] => 0 | e :: _ => e.1 / 2
  { s with motion := { s.motion with
      wires := tblMod s.motion.wires [] code fun w => w.filter fun e => e.1 / 2 ≠ cycle } }

/-! ## JFP datagrams (11 R325–R340) -/

/-- The authentication key of a slot (11 R338). -/
def State.keySlot (s : State) (slot : Nat) : KeySlot := tblGet s.net.keys {} slot

/-- A JFP datagram: header, body, and the trailer of 11 R338 where a key is given (11 R329). -/
def jfpDatagram (msgType session seq node : Nat) (body : List Byte) (key : Option (List Byte)) : List Byte :=
  let h := leBytes 2 0x564A ++ [0x01, BitVec.ofNat 8 msgType, BitVec.ofNat 8 (bit key.isSome), BitVec.ofNat 8 session]
    ++ leBytes 2 body.length ++ leBytes 4 seq ++ leBytes 2 node
  let d := h ++ leBytes 2 (crc16 h) ++ body
  match key with
  | none => d
  | some k => d ++ (hmacSha256 k d).take 16

/-- The key of a queue of a field port's traffic class. -/
def queueKey (port cls : Nat) : Nat := port * 8 + cls

/-- A frame handed to a field port on a class below 7 or without a launch time: it leaves at once while the link is up,
in order of arrival (DESIGN CHOICE, log entry 6); else it waits in the class's queue of 64 (11 R326). `drop` counts a
frame that finds the queue full. -/
def State.sendField (s : State) (port cls : Nat) (f : Frame) (drop : State → State) : State :=
  let tag := if cls = 6 then none else some (s.num (Key.fldVlanId port))
  if s.flag (Key.fldLinkUp port) && cls ≠ 7 then s.send (.field port cls tag f.ip f.udp) f.bytes
  else
    let q := tblGet s.net.queues [] (queueKey port cls)
    if q.length < 64 then
      { s with net := { s.net with
          order := s.net.order + 1
          queues := tblPut s.net.queues [] (queueKey port cls) (q ++ [{ f with order := s.net.order }]) } }
    else drop s

/-- A frame dropped at a full queue is counted in `FldQueueDrops` (11 R326). -/
def countQueueDrop (port : Nat) (s : State) : State := s.bump (Key.fldQueueDrops port)

/-- A session (11 R339). -/
def State.session (s : State) (i : Nat) : Session := tblGet s.net.sessions {} i

/-- A session changed. -/
def State.modSession (s : State) (i : Nat) (f : Session → Session) : State :=
  { s with net := { s.net with sessions := tblPut s.net.sessions {} i (f (s.session i)) } }

/-- The key a session's datagrams are authenticated with (11 R338). -/
def State.sessionKey (s : State) (i : Nat) : Option (List Byte) :=
  let x := s.session i
  if x.auth && x.authSlot < 32 then some (s.keySlot x.authSlot).key else none

/-- A datagram of the processor's own sent to an open session, numbered by R340. -/
def State.sendSession (s : State) (i cls msgType : Nat) (body : List Byte) : State :=
  let x := s.session i
  match x.peer with
  | none => s
  | some p =>
    let d := jfpDatagram msgType i x.outSeq 0xFFFF body (s.sessionKey i)
    (s.modSession i fun x => { x with outSeq := (x.outSeq + 1) % pow2 32 }).sendField p.port.val cls
      { cls := cls, ip := p.ip, udp := p.udp, bytes := d } (countQueueDrop p.port.val)

/-- The head and data of an EVENT_NOTIFY (11 R337). -/
def eventNotifyBody (code count time : Nat) (data : List Byte) : List Byte :=
  leBytes 2 code ++ leBytes 2 count ++ zeros 4 ++ leBytes 8 time ++ data

/-- An EVENT_NOTIFY to every open session whose `SessNotifyMask` has bit b (11 R337), on class 3 (11 R325). -/
def State.notifySessions (s : State) (b code : Nat) (data : List Byte) : State :=
  s.forN 16 fun s i =>
    if (s.session i).peer.isSome && bitAt (s.num (Key.sessNotifyMask i)) b then
      s.sendSession i 3 0x30 (eventNotifyBody code 1 s.wNow data)
    else s

/-! ## Journal (02 R64–R68) -/

/-- `STRIP_LO` of the strip being formed (02 R67). -/
def State.stripLo (s : State) : Nat := s.num Key.stripIndex % pow2 24

/-- A journal entry (02 R65, R66); `strip` names the strip where the operation counts as one in RUN. Nothing is
journalled before the journal starts at boot (15 R436). -/
def State.journalStrip (s : State) (src target : Nat) (value : Slot) (result : Nat) (strip : Option Nat) : State :=
  if s.life.logsOn then
    let e : JournalEntry :=
      { seq := s.dict.nextSeq, time := s.wNow, value := value.toNat, source := src, target := target,
        inRun := strip.isSome, result := result, stripLo := (strip.getD (pow2 24 - 1)) % pow2 24 }
    { s with dict := { s.dict with journal := (e :: s.dict.journal).take 65536, nextSeq := s.dict.nextSeq + 1 } }
  else s

/-- A journal entry about something that takes effect now (02 R67). -/
def State.journalAdd (s : State) (src target : Nat) (value : Slot) (result : Nat) : State :=
  s.journalStrip src target value result (if s.inRun then some (s.num Key.stripIndex) else none)

/-- An event of the processor's own in the journal (02 R68). -/
def State.journalEvent (s : State) (target value : Nat) : State :=
  s.journalAdd 0 target (BitVec.ofNat 64 value) 0

/-- The 32 bytes of a journal entry (02 R66). -/
def JournalEntry.bytes (e : JournalEntry) : List Byte :=
  leBytes 8 e.seq ++ leBytes 8 e.time ++ leBytes 8 e.value
    ++ leBytes 4 (e.source * pow2 24 + e.target % pow2 24)
    ++ leBytes 4 (bit e.inRun * pow2 31 + e.result % 128 * pow2 24 + e.stripLo)

/-! ## Recorder staging and trouble log (15 R440–R447) -/

/-- Operating seconds as held on die (15 R447). -/
def State.opSecondsNow (s : State) : Nat := s.life.opStart + s.now / 1000000000

/-- A flush begins: it takes what is staged, and a `DROPPED` record where records were dropped (15 R444, R446). -/
def State.startFlush (s : State) : State :=
  if s.logs.stopped then s
  else if s.logs.flushing.isSome then { s with logs := { s.logs with flushAgain := true } }
  else
    let dropped : List RecRecord := if s.logs.droppedSince = 0 then [] else
      [{ opSeconds := s.opSecondsNow, powerCycles := s.mram.powerCycles, code := 0x0104, unit := 0xFFFF, time := s.wNow,
         detail := s.logs.droppedSince }]
    ({ s with logs := { s.logs with
        staged := s.logs.staged ++ dropped
        droppedSince := 0
        flushing := some (s.logs.staged.length + dropped.length, s.now) } }).bump Key.recGeneration

/-- A record of what happens now (15 R443). -/
def State.record (s : State) (code unit detail : Nat) : RecRecord :=
  { opSeconds := s.opSecondsNow, powerCycles := s.mram.powerCycles, code := code, unit := unit, time := s.wNow, detail := detail }

/-- A record enters staging, or is dropped and counted (15 R444, R445). -/
def State.stageRecord (s : State) (r : RecRecord) : State :=
  if s.logs.stopped then s.bump Key.recDropped
  else if s.logs.staged.length ≥ 2048 then
    ({ s with logs := { s.logs with droppedSince := s.logs.droppedSince + 1 } }).bump Key.recDropped
  else
    let s := { s with logs := { s.logs with staged := s.logs.staged ++ [r] } }
    if s.logs.staged.length = 1536 then s.startFlush else s

/-- The 32 bytes of a trouble log entry (15 R440). -/
def TroubleEntry.bytes (e : TroubleEntry) : List Byte :=
  leBytes 8 e.seq ++ leBytes 8 e.time ++ leBytes 2 e.code ++ leBytes 2 e.unit
    ++ leBytes 4 (e.severity * pow2 30 + e.state * pow2 26 + e.stripLo) ++ leBytes 8 e.detail

/-- The 32 bytes of a recorder record (15 R443). -/
def RecRecord.bytes (r : RecRecord) : List Byte :=
  leBytes 4 r.index ++ leBytes 4 r.opSeconds ++ leBytes 4 r.powerCycles ++ leBytes 2 r.code ++ leBytes 2 r.unit
    ++ leBytes 8 r.time ++ leBytes 8 r.detail

/-- Whether records stay in their hardware queues: T3 restarts (13 R390). -/
def State.recordsWait (s : State) : Bool := s.power.restarting.contains 3

/-- A record that waits for T3, with the trouble log entry it copies where there is one (13 R390). -/
def State.queueRecord (s : State) (e : Option TroubleEntry) (r : RecRecord) : State :=
  { s with logs := { s.logs with waiting := s.logs.waiting ++ [(e, r)] } }

/-- A record that the recorder alone carries (15 R442). -/
def State.stage (s : State) (code unit detail : Nat) : State :=
  let r := s.record code unit detail
  if s.recordsWait then s.queueRecord none r else s.stageRecord r

/-- An entry is written to the trouble log: its count by severity, Harbourmaster source 72, the supervisors' notice and the
recorder's copy (15 R440, R442). -/
def State.enterTrouble (s : State) (e : TroubleEntry) (r : RecRecord) : State :=
  let e := { e with seq := s.logs.nextTl }
  let s := { s with logs := { s.logs with trouble := (e :: s.logs.trouble).take 16384, nextTl := s.logs.nextTl + 1 } }
  let s := s.bump (Key.troubleSeverityCount e.severity)
  let s := if e.severity ≥ 1 then (s.raiseHm 72).notifySessions 1 0x0011 e.bytes else s
  if e.severity ≥ s.num Key.recSeverity then s.stageRecord r else s

/-- The records that waited for T3, in order (13 R390). -/
def State.releaseRecords (s : State) : State :=
  s.logs.waiting.foldl (fun (s : State) (w : Option TroubleEntry × RecRecord) => match w.1 with
    | some e => s.enterTrouble e w.2
    | none => s.stageRecord w.2) { s with logs := { s.logs with waiting := [] } }

/-- A trouble log entry that names a strip (15 R440, R441), written at once unless T3 restarts. -/
def State.troubleStrip (s : State) (code unit sev detail strip : Nat) : State :=
  if s.life.logsOn then
    let e : TroubleEntry :=
      { time := s.wNow, code := code, unit := unit, severity := sev, state := s.life.state.code, stripLo := strip, detail := detail }
    let r := s.record code unit detail
    if s.recordsWait then s.queueRecord (some e) r else s.enterTrouble e r
  else s

/-- A trouble log entry (15 R440). -/
def State.trouble (s : State) (code unit sev detail : Nat) : State :=
  s.troubleStrip code unit sev detail (if s.inRun then s.stripLo else pow2 24 - 1)

/-- No unit (15 R440). -/
def noUnit : Nat := 0xFFFF

end Sys2Proof.Machine
end

