-- ==== Sys2Proof/Machine/Dict.lean ====
section
/-! DEFINITION. The object dictionary's shared operations: sources, ownership, the checks of a write in their order, the
effect of an accepted write on values, and how a write's result is reported (02). -/

namespace Sys2Proof.Machine

open Sys2Proof

/-! ## Sources (02 R39) -/

/-- The 8-bit source code (02 R39). -/
def Source.code : Source → Nat
  | .processor => 0x00
  | .host => 0x01
  | .session i => 0x10 + i.val

/-- A source's own copies. -/
def State.source (s : State) (src : Source) : SourceState := tblGet s.dict.sources {} (Source.code src)

/-- A source's own copies changed. -/
def State.modSource (s : State) (src : Source) (f : SourceState → SourceState) : State :=
  { s with dict := { s.dict with sources := tblPut s.dict.sources {} (Source.code src) (f (s.source src)) } }

/-! ## Ownership (02 R55–R57) -/

/-- The owner of a range, if any. -/
def State.owner (s : State) (r : Nat) : Option Owner := tblFind s.dict.owners r

/-- Whether a source owns a range. A range whose session has closed is held under its token but by no open source. -/
def State.ownedBy (s : State) (r : Nat) (src : Source) : Bool :=
  match s.owner r with
  | none => false
  | some o => o.source = Source.code src && o.lapse.isNone

/-- Whether another source owns a range. -/
def State.ownedByOther (s : State) (r : Nat) (src : Source) : Bool :=
  (s.owner r).isSome && !s.ownedBy r src

/-- The token of a source's ranges; 0 where it owns none (02 R55). -/
def State.tokenOf (s : State) (src : Source) : Nat :=
  match s.dict.owners.find? (fun e => e.2.source = Source.code src && e.2.lapse.isNone) with
  | some e => e.2.token
  | none => 0

/-- Entries that ownership does not cover (02 R56). -/
def ownershipExempt (k : Nat) : Bool :=
  let i := k / 256
  let sub := k % 256
  i = 0x1103 || (i = 0x1110 && 1 ≤ sub && sub ≤ 5) || (i = 0x1301 && ((1 ≤ sub && sub ≤ 8) || sub = 0x0A)) || i = 0x1302
    || k = Key.journalReadSeq || k = Key.troubleReadSeq || k = Key.recReadIndex
    || (List.range 16).any fun n => k = Key.ledgerReadSeq n

/-! ## Absent entries on the RL-3208 (00 R2) -/

/-- Whether the entry belongs to a resource the RL-3208 does not have (00 R2, 13 R392, 15 R460). -/
def absentKey (k : Nat) : Bool :=
  let i := k / 256
  let sub := k % 256
  (0x2800 ≤ i && i < 0x3000) || (0x3400 ≤ i && i < 0x3800) || (0x3880 ≤ i && i < 0x3900)
    || (0x3908 ≤ i && i < 0x3910) || (0x4108 ≤ i && i < 0x4110)
    || ((i = 0x6020 || i = 0x6021) && 0x09 ≤ sub && sub ≤ 0x10)
    || ((i = 0x6023 || i = 0x8811 || i = 0x8812) && 0x05 ≤ sub && sub ≤ 0x08)
    || (0x64A8 ≤ i && i < 0x64B0) || (0x6468 ≤ i && i < 0x6470 && sub = 0x0A)
    || (0x8031 ≤ i && i ≤ 0x8038) || (0x803D ≤ i && i ≤ 0x8040)

/-- Whether the entry is ABSENT on this part. -/
def State.absent (s : State) (k : Nat) : Bool := s.part.variant = .rl3208 && absentKey k

/-! ## The checks of a write (02 R34, R48, R494) -/

/-- Result codes (02 R36). -/
def resOk : Nat := 0x00
/-- No such entry. -/
def resUnknown : Nat := 0x01
/-- The access right forbids the operation. -/
def resAccess : Nat := 0x02
/-- Not in this state. -/
def resWrongState : Nat := 0x03
/-- Outside the range. -/
def resRange : Nat := 0x04
/-- The width or length does not fit. -/
def resSize : Nat := 0x05
/-- Another source owns the range. -/
def resNotOwner : Nat := 0x06
/-- Absent on this variant. -/
def resAbsent : Nat := 0x07
/-- In progress already. -/
def resBusy : Nat := 0x08
/-- In use in RUN. -/
def resBusyTick : Nat := 0x09
/-- A rule that ties entries together. -/
def resConflict : Nat := 0x0A
/-- A capacity rule. -/
def resCapacity : Nat := 0x0B
/-- The CRC-32 of a download does not match. -/
def resSegCrc : Nat := 0x0C
/-- A transfer aborted, timed out or not in progress. -/
def resSegAbort : Nat := 0x0D
/-- An MRAM write failed. -/
def resMramFail : Nat := 0x0E
/-- ShadowHold released by its limit. -/
def resHeld : Nat := 0x0F

/-- The order in which failing checks decide (02 R494); a step without a transfer is decided before its value is checked. -/
def checkOrder : List Nat :=
  [resUnknown, resAbsent, resAccess, resSegAbort, resSize, resNotOwner, resWrongState, resBusy, resBusyTick, resRange, resConflict,
   resCapacity]

/-- The code of the first failing check in the order of R494; OK where none fails. -/
def firstCode (fails : List Nat) : Nat := (checkOrder.find? fails.contains).getD resOk

/-- The code, where a check fails. -/
def failIf (b : Bool) (code : Nat) : List Nat := if b then [code] else []

/-- Whether index:00 is the highest-subindex entry of its index (02 R31). -/
def countEntry (k : Nat) : Bool := k % 256 = 0 && 1 < highestSub (k / 256)

/-- Whether an entry's write is refused whatever its row's access says: domains 0 and 1 (11 R346), targets T0 to T3
(13 R412), the host's alone (11 R338). -/
def accessExtra (src : Source) (k : Nat) : Bool :=
  let i := k / 256
  let sub := k % 256
  ((i = 0x6C10 || i = 0x6C11) && sub ≤ 3)
    || (0x8310 ≤ i && i ≤ 0x8313 && (sub = 3 || sub = 5 || sub = 6))
    || ((k = Key.keyLoad || k = Key.keyErase) && (match src with | .session _ => true | _ => false))

/-- Whether the entry belongs to a reserved Harbourmaster source (13 R392). -/
def reservedSource (k : Nat) : Bool :=
  let i := k / 256
  0x8000 ≤ i && i < 0x8300 && (i = 0x8000 || (91 ≤ i - 0x8000 && i - 0x8000 ≤ 128) || 209 ≤ i - 0x8000)

/-- The value as the check sees it: a 4-byte write of the host fills the slot by R9 (02 R48). -/
def slotValue (src : Source) (ty : EntryType) (size : Nat) (v : Slot) : Slot :=
  match src, size with
  | .host, 4 => if ty.signed then BitVec.ofInt 64 (ofTwos 32 v.toNat) else BitVec.ofNat 64 (v.toNat % pow2 32)
  | _, _ => v

/-- Whether the access form fits the entry (02 R48, R50, 11 R331). -/
def sizeOk (src : Source) (ty : EntryType) (size : Nat) : Bool :=
  !ty.block && (match src with
    | .host => size = 8 || (size = 4 && ty.size ≤ 4)
    | .session _ => size = ty.size
    | .processor => true)

/-- The codes of the checks every write meets, apart from rules that tie entries together (02 R34, R494). -/
def State.commonFails (s : State) (src : Source) (k size : Nat) (v : Slot) : List Nat :=
  match keyRow k with
  | none => if countEntry k then [resAccess] else [resUnknown]
  | some r =>
    let v := slotValue src r.ty size v
    failIf (s.absent k) resAbsent
      ++ failIf (r.access = .ro || r.access = .rc || accessExtra src k) resAccess
      ++ failIf (!sizeOk src r.ty size) resSize
      ++ failIf (src ≠ .processor && !ownershipExempt k && s.ownedByOther ((rangeOf (k / 256)).getD 0) src) resNotOwner
      ++ failIf (r.access = .rws && s.inRun) resWrongState
      ++ failIf (!r.ty.fits v || !r.range.ok (r.ty.value v) || reservedSource k) resRange

/-! ## An accepted write's effect on values (02 R13, R35, R43) -/

/-- The state with v as the pending value of an RWT entry. -/
def State.setPend (s : State) (k : Nat) (v : Slot) : State :=
  { s with dict := { s.dict with pend := tblSet s.dict.pend k v } }

/-- Whether an RWT write waits: in RUN, or outside RUN under ShadowHold (02 R35, R43). -/
def State.shadowed (s : State) : Bool := s.inRun || s.flag Key.shadowHold

/-- The last accepted value of an entry replaced, for the rules that are checked against it (02 R34). -/
def State.withLast (s : State) (k : Nat) (v : Slot) : State := s.setPend k v

/-- The strip a write's journal entry names (02 R67): in RUN, the strip being formed, or for an RWT write the next. -/
def State.writeStrip (s : State) (access : Access) : Option Nat :=
  if s.inRun then some (s.num Key.stripIndex + (if access = .rwt then 1 else 0)) else none

/-! ## Reporting (02 R42, R49, R64; 11 R332) -/

/-- What the source learns of its write: the host's last result and refused count, the session's refused count. -/
def State.report (s : State) (src : Source) (k result seq : Nat) : State :=
  match src with
  | .processor => s
  | .host =>
    let s := (s.setNum Key.hostLastResult result).setNum Key.hostLastTarget k
    if result = 0 then s.setNum Key.hostLastSeq seq else s.bump Key.hostRefusedCount
  | .session i => if result = 0 then s else s.modSession i.val fun x => { x with refused := x.refused + 1 }

/-- Whether a refused operation is journalled (02 R64): a state request, a self-test request. -/
def refusalJournalled (k : Nat) : Bool := k = Key.stateRequest || k = Key.selfTestRequest

/-- The outcome of an attempted write: the state, the result code and the journal SEQ of an accepted write. -/
structure Written where
  state  : State
  result : Nat
  seq    : Nat

/-- A write whose failing checks are known: refused whole, or journalled and then given its effect (02 R34, R64). -/
def State.conclude (s : State) (src : Source) (k : Nat) (v : Slot) (access : Access) (fails : List Nat)
    (eff : State → State) : Written :=
  let code := firstCode fails
  if code = 0 then
    let seq := s.dict.nextSeq
    let s := s.journalStrip (Source.code src) k v 0 (s.writeStrip access)
    ⟨(eff s).report src k 0 seq, 0, seq⟩
  else
    let s := if refusalJournalled k then s.journalAdd (Source.code src) k v code else s
    ⟨s.report src k code 0, code, 0⟩

/-- The value a write of `size` bytes gives its entry. -/
def writeValue (src : Source) (k size : Nat) (v : Slot) : Slot :=
  match keyRow k with
  | none => v
  | some r => slotValue src r.ty size v

/-- The access right of an entry. -/
def keyAccess (k : Nat) : Access :=
  match keyRow k with
  | none => .ro
  | some r => r.access

/-- A write of a source: the common checks, the row's own checks on the value, and its effect. A write waits while the
dictionary is not served, and behind one that waits (02 R40, R42, 13 R390, 14 R424); in OFF nothing takes it. -/
def State.attempt (s : State) (src : Source) (k size : Nat) (v : Slot) (extra : Slot → List Nat)
    (eff : Slot → State → State) : Written :=
  if s.life.state = .off then ⟨s, resWrongState, 0⟩
  else if !s.life.dictServed || !s.dict.held.isEmpty then
    ⟨{ s with dict := { s.dict with
        held := s.dict.held ++ [⟨src, BitVec.ofNat 16 (k / 256), BitVec.ofNat 8 (k % 256), size, v⟩] } }, 0, 0⟩
  else
    let w := writeValue src k size v
    s.conclude src k w (keyAccess k) (s.commonFails src k size v ++ extra w) (eff w)

/-! ## STR and DOMAIN writes (02 R50, R51, R66) -/

/-- What the journal carries of a byte block: CRC-32 and length (02 R66). -/
def blockValue (data : List Byte) : Slot := BitVec.ofNat 64 (crc32 data + data.length * pow2 32)

/-- Whether a block's length fits its entry. -/
def Range.lengthOk (r : Range) (n : Nat) : Bool :=
  match r with
  | .bytes lo hi => lo ≤ n && n ≤ hi
  | _ => true

/-- The codes of the checks every write of a STR or DOMAIN value meets (02 R34, R51, R494). -/
def State.blockFails (s : State) (src : Source) (k : Nat) (data : List Byte) : List Nat :=
  match keyRow k with
  | none => if countEntry k then [resAccess] else [resUnknown]
  | some r =>
    failIf (s.absent k) resAbsent
      ++ failIf (r.access = .ro || r.access = .rc || accessExtra src k) resAccess
      ++ failIf (!r.ty.block || !r.range.lengthOk data.length) resSize
      ++ failIf (src ≠ .processor && !ownershipExempt k && s.ownedByOther ((rangeOf (k / 256)).getD 0) src) resNotOwner
      ++ failIf (r.access = .rws && s.inRun) resWrongState

/-- A write of a whole STR or DOMAIN value, as one write (02 R51); while the dictionary is not served its last segment
waits, and so does it (13 R390). -/
def State.attemptBlock (s : State) (src : Source) (k : Nat) (data : List Byte) (extra : List Nat)
    (eff : State → State) : Written :=
  if !s.life.dictServed then ⟨s, resWrongState, 0⟩
  else s.conclude src k (blockValue data) (keyAccess k) (s.blockFails src k data ++ extra) eff

/-- The width of a command row's write: the host uses an 8-byte access, a session the entry's size. -/
def naturalSize (src : Source) (k : Nat) : Nat :=
  match src with
  | .session _ => (match keyRow k with | none => 8 | some r => r.ty.size)
  | _ => 8

/-- The state after a write to the entry of a command's own row, in its natural width. -/
def State.command (s : State) (src : Source) (k : Nat) (v : Slot) (extra : Slot → List Nat)
    (eff : Slot → State → State) : State :=
  (s.attempt src k (naturalSize src k) v extra eff).state

end Sys2Proof.Machine
end

