-- ==== Sys2Proof/Machine/Motion.lean ====
section
/-! DEFINITION. Encoders, compare units, trigger outputs, the motion filter and Narrows (10). -/

namespace Sys2Proof.Machine

open Sys2Proof

/-! ## Parts -/

/-- An encoder channel. -/
def State.encoder (s : State) (c : Nat) : Encoder := tblGet s.motion.encoders {} c

/-- An encoder channel changed. -/
def State.modEncoder (s : State) (c : Nat) (f : Encoder → Encoder) : State :=
  { s with motion := { s.motion with encoders := tblMod s.motion.encoders {} c f } }

/-- A compare unit. -/
def State.cmp (s : State) (u : Nat) : Compare := tblGet s.motion.compares {} u

/-- A compare unit changed. -/
def State.modCmp (s : State) (u : Nat) (f : Compare → Compare) : State :=
  { s with motion := { s.motion with compares := tblMod s.motion.compares {} u f } }

/-- A trigger output. -/
def State.trg (s : State) (o : Nat) : TrigOut := tblGet s.motion.outputs {} o

/-- A trigger output changed. -/
def State.modTrg (s : State) (o : Nat) (f : TrigOut → TrigOut) : State :=
  { s with motion := { s.motion with outputs := tblMod s.motion.outputs {} o f } }

/-- A level-1 channel. -/
def State.evChan (s : State) (k : Nat) : Channel := tblGet s.motion.channels {} k

/-- A level-1 channel changed. -/
def State.modEvChan (s : State) (k : Nat) (f : Channel → Channel) : State :=
  { s with motion := { s.motion with channels := tblMod s.motion.channels {} k f } }

/-- READY or RUN, in which compare units and outputs act (10 R289, R293). -/
def State.inService (s : State) : Bool := s.life.state = .ready || s.life.state = .run

/-! ## Producers and consumers of level 1 (10 R301–R303) -/

/-- The wire key of channel k. -/
def chanWire (k : Nat) : Nat := 0x10000 + k

/-- Producer `code` fires at counter value t: one hop on to every channel it drives that is not tripped (10 R302, R306). -/
def State.produce (s : State) (code t : Nat) : State :=
  (s.dict.vals.filter fun e => 0x6900 ≤ e.1 / 256 && e.1 / 256 < 0x6A00 && e.1 % 256 = 1 && e.2.toNat = code).foldl
    (fun s e =>
      let k := e.1 / 256 - 0x6900
      if s.flag (Key.chanGuardTripped k) then s else s.putWire (chanWire k) (t + 4) false) s

/-- The channel a select entry names by default (03 R100, 07 R228, 10 R303); 0xFFFF none. -/
def selectDefault (sel : Nat) : Nat :=
  if sel = Key.tickEventChannel || sel = Key.pieceStartChannel then 0 else if sel = Key.pieceEndChannel then 1 else 0xFFFF

/-- Whether a select entry holds channel k in effect. -/
def State.picks (s : State) (sel k : Nat) : Bool :=
  match tblFind s.dict.vals sel with
  | none => selectDefault sel = k
  | some v => v.toNat = k

/-- The consumer inputs: code and select entry (10 R303, 12 R377, 13 R401). -/
def consumerInputs : List (Nat × Nat) :=
  (List.range 32).map (fun o => (o, Key.trgL1Channel o))
    ++ (List.range 16).map (fun n => (0x0020 + n, Key.genL1Channel n))
    ++ (List.range 48).map (fun u => (0x0030 + u, Key.cmpArmChannel u))
    ++ [(0x0060, Key.tickEventChannel), (0x0061, Key.pieceStartChannel), (0x0062, Key.pieceEndChannel)]
    ++ (List.range 32).map (fun c => (0x0100 + c, Key.ferryReqChannel c))
    ++ (List.range 64).map (fun j => (0x0140 + j, Key.hmEventChannel j))

/-- The activity condition of an input beyond its select (10 R303); `v` reads an entry's number. -/
def inputActive (v : Nat → Nat) (code : Nat) : Bool :=
  if code = 0x0060 then v Key.tickSource = 3
  else if code = 0x0061 then v Key.pieceEnable = 1
  else if code = 0x0062 then v Key.pieceEnable = 1 && v Key.pieceEndMode = 1
  else true

/-- The code of channel k's holder: the active input of lowest code that selects it (10 R303). -/
def State.holder (s : State) (k : Nat) : Option Nat :=
  (consumerInputs.find? fun e => s.picks e.2 k && inputActive s.num e.1).map (·.1)

/-! ## Firing (10 R286, R301, R304) -/

/-- Whether a hop's hold-off of n cycles suppresses an event at counter value t (10 R304). -/
def heldOff (n : Nat) (last : Option Nat) (t : Nat) : Bool :=
  match last with
  | none => false
  | some τ => t / 2 - τ / 2 ≤ n && n ≠ 0

/-- The consumer a level-0 wire ends at: an output, or a generator that the part has (10 R301, 00 R3). -/
def State.level0End (s : State) (u : Nat) : Option Nat :=
  if u < 32 then some u else if u - 32 < s.portCount then some (0x0020 + (u - 32)) else none

/-- Compare unit u fires now (10 R286): its counts, its producer, its level-0 wire. -/
def State.fire (s : State) (u : Nat) : State :=
  let c := s.num (Key.cmpEncoder u)
  let s := ((s.bump (Key.cmpFireCount u)).setNum (Key.cmpLastFireCount u) (s.num (Key.encCount c))).setNum
    (Key.cmpLastFireTime u) s.wNow
  let s := s.produce u s.now
  match s.level0End u with
  | none => s
  | some code =>
    if s.flag (Key.cmpL0Enable u) && !heldOff (s.num (Key.cmpL0HoldOff u)) (s.cmp u).lastHop s.now then
      (s.modCmp u fun x => { x with lastHop := some s.now }).putWire code (s.now + 4) false
    else s

/-- One accepted edge at compare unit u in a count mode (10 R286, R287). -/
def State.countEdge (s : State) (u : Nat) (up : Bool) : State :=
  let forward := up = (s.num (Key.cmpDirection u) = 0)
  let mode := s.num (Key.cmpMode u)
  if mode = 1 then
    if s.flag (Key.cmpArmed u) && forward && s.num (Key.encCount (s.num (Key.cmpEncoder u))) = s.num (Key.cmpTarget u) then
      (s.setNum (Key.cmpArmed u) 0).fire u
    else s
  else if mode = 2 then
    let num : Int := s.num (Key.cmpPeriodNum u)
    let den : Int := s.num (Key.cmpPeriodDen u)
    let acc := (s.cmp u).acc
    if forward then
      if num ≤ acc + den then (s.modCmp u fun x => { x with acc := acc + den - num }).fire u
      else s.modCmp u fun x => { x with acc := acc + den }
    else s.modCmp u fun x => { x with acc := max (acc - den) (-(pow2 62 : Int)) }
  else s

/-! ## Encoder inputs (10 R283, R284) -/

/-- The count is modulo 2^48 (10 R284). -/
def countMod : Nat := pow2 48

/-- An accepted edge of A or B: count, stamp at the pin time, compare units (10 R283, R284, R286, R287). -/
def State.encoderStep (s : State) (c : Nat) (up : Bool) : State :=
  let n := s.num (Key.encCount c)
  let n := if up then (n + 1) % countMod else (n + countMod - 1) % countMod
  let s := s.setNum (Key.encCount c) n
  let s := s.modEncoder c fun e => { e with stamps := ⟨s.now, n, up⟩ :: e.stamps }
  if s.inService then
    s.forN 48 fun s u => if s.num (Key.cmpEncoder u) = c then s.countEdge u up else s
  else s

/-- ENCODER_EDGE (10 R283): the filtered levels of A and B of channel c are now a and b. -/
def execEncoderEdge (c : Fin 8) (a b : Bool) (s : State) : Host.Outcome State Fault Refusal :=
  let c := c.val
  let e := s.encoder c
  let s' := s.modEncoder c fun e => { e with a := a, b := b }
  if !s.flag (Key.encEnable c) || (a = e.a && b = e.b) then .next s'
  else if a ≠ e.a && b ≠ e.b then
    .next (((s'.modEncoder c fun e => { e with illegal := e.illegal + 1 }).bump (Key.encErrors c)).produce (0x0038 + c) s.now)
  else
    let rises : Bool := if a ≠ e.a then a ≠ b else a = b
    .next (s'.encoderStep c (rises ≠ s.flag (Key.encInvert c)))

/-- ENCODER_INDEX (10 R284). -/
def execEncoderIndex (c : Fin 8) (s : State) : Host.Outcome State Fault Refusal :=
  if s.flag (Key.encEnable c) then
    .next (((s.setNum (Key.encIndexLatch c) (s.num (Key.encCount c))).bump (Key.encIndexCount c)).produce
      (0x0030 + c.val) s.now)
  else .next s

/-- ENC_ILLEGAL entries of the channels with illegal transitions in the strip or interval that ends (15 R441). -/
def State.logIllegal (s : State) (strip : Nat) : State :=
  s.forN 8 fun s c =>
    let n := (s.encoder c).illegal
    if n = 0 then s
    else (s.troubleStrip 0x0017 c 1 n strip).modEncoder c fun e => { e with illegal := 0 }

/-- The length of an interval outside RUN (10 R306, 15 R441). -/
def sixteenMs : Nat := 16000000

/-- ENC_ILLEGAL_INTERVAL (15 R441): outside RUN, a 16 ms interval ends. -/
def execEncIllegalInterval (s : State) : Host.Outcome State Fault Refusal :=
  if s.inRun || s.now < s.motion.encIntervalStart + sixteenMs then .next s
  else
    let s := s.logIllegal (pow2 24 - 1)
    .next { s with motion := { s.motion with encIntervalStart := s.motion.encIntervalStart + sixteenMs } }

/-! ## Arming and restart (10 R288, R289) -/

/-- An arm event of unit u takes effect in the cycle of counter value t (10 R288). -/
def State.arm (s : State) (u t : Nat) : State :=
  if !s.inService then s
  else
    let mode := s.num (Key.cmpMode u)
    if mode = 1 then s.setNum (Key.cmpArmed u) 1
    else if mode = 2 then s.modCmp u fun x => { x with acc := s.num (Key.cmpPhase u) }
    else if mode = 3 then (s.setNum (Key.cmpArmed u) 1).modCmp u fun x => { x with rt := s.wAt t }
    else if mode = 4 then s.modCmp u fun x => { x with rt := s.wAt t, next := 0 }
    else s

/-- Every unit restarts on entry to READY or RUN (10 R289). -/
def State.restartCompares (s : State) : State :=
  s.forN 48 fun s u => s.modCmp u fun x => { x with acc := s.num (Key.cmpPhase u), rt := s.wNow, next := 0 }

/-- CMP_ARM (10 R288): a write of 1 to `CmpArm` of unit u, in effect in the next Narrows cycle. -/
def execCmpArm (src : Source) (u : Fin 48) (value : Slot) (s : State) : Host.Outcome State Fault Refusal :=
  .next (s.command src (Key.cmpArm u) value (fun _ => []) fun _ s => s.arm u.val (s.now + 2))

/-- CMP_ARM_EVENT (10 R288): the oldest event at unit u's arm input takes effect in the cycle after it arrived. -/
def execCmpArmEvent (u : Fin 48) (s : State) : Host.Outcome State Fault Refusal :=
  match s.wire (0x0030 + u.val) with
  | [] => .next s
  | e :: _ => .next ((s.takeWire (0x0030 + u.val)).arm u.val (e.1 + 2))

/-! ## Time modes (10 R286, 08 R237) -/

/-- The reference unit u works on in mode 5: a new T_0 is taken up at the first old trigger due at or after
T_0 − PhaseDwell/2 (08 R237). In 2^−16 ns: the due time of the unit's next trigger. -/
def State.phaseDue (s : State) (u ref j : Nat) : Int :=
  let d := s.num Key.phaseDwell
  ((ref : Int) + j * d - 96 - s.num (Key.trigOffset (u - 32))) * 65536 + ((d : Int) - s.num Key.atollExposure) * 32768

/-- The unit with the phase reference brought up to date (08 R237). -/
def State.phaseRef (s : State) (u : Nat) : State :=
  let x := s.cmp u
  let t0 := s.atoll.t0
  if x.ref ≠ t0 && ((t0 : Int) * 65536 - s.num Key.phaseDwell * 32768 ≤ s.phaseDue u x.ref x.next) then
    s.modCmp u fun x => { x with ref := t0, next := 0 }
  else s

/-- The due time of unit u's next event in a time mode, in 2^−16 ns of W; none in the count modes and when disarmed. -/
def State.timeDue (s : State) (u : Nat) : Option Int :=
  let x := s.cmp u
  let start := (x.rt : Int) + s.num (Key.cmpTimeStart u)
  let mode := s.num (Key.cmpMode u)
  if mode = 3 then (if s.flag (Key.cmpArmed u) then some (start * 65536) else none)
  else if mode = 4 then some (start * 65536 + x.next * s.num (Key.cmpTimePeriod u))
  else if mode = 5 && 32 ≤ u then some (s.phaseDue u x.ref x.next)
  else none

/-- COMPARE_TIME_FIRE (10 R286): unit u fires in the first cycle one hop before its due time. -/
def execCompareTimeFire (u : Fin 48) (s : State) : Host.Outcome State Fault Refusal :=
  let u := u.val
  if !s.inService then .next s
  else
    let s := if s.num (Key.cmpMode u) = 5 && 32 ≤ u then s.phaseRef u else s
    match s.timeDue u with
    | none => .next s
    | some due =>
      if due ≤ s.net.w.at16 (s.now + 4) then
        let s := if s.num (Key.cmpMode u) = 3 then s.setNum (Key.cmpArmed u) 0 else s
        .next ((s.modCmp u fun x => { x with next := x.next + 1 }).fire u)
      else .next s

/-! ## Trigger outputs (10 R290–R293) -/

/-- The end of the last pulse scheduled on an output. -/
def TrigOut.lastFinish (x : TrigOut) : Option Nat :=
  match x.queue.getLast? with
  | some p => some p.finish
  | none => match x.current with
    | some p => some p.finish
    | none => x.lastEnd

/-- An event at output o at counter value t schedules a pulse, or is dropped (10 R290, R291). -/
def State.schedulePulse (s : State) (o t : Nat) : State :=
  let x := s.trg o
  let start := t + 2 * s.num (Key.trgCoarseDelay o)
  if 256 ≤ x.queue.length then s.bump (Key.trgQueueFull o)
  else if (match x.lastFinish with | none => false | some e => start < e + 2) then s.bump (Key.trgOverlap o)
  else s.modTrg o fun x =>
    { x with queue := x.queue ++ [⟨start, start + 2 * s.num (Key.trgPulseWidth o), s.num (Key.trgFineDelay o)⟩] }

/-- TRIGGER_OUTPUT_EVENT (10 R290, R292): the oldest Narrows cycle with an event at output o gives one action. -/
def execTriggerOutputEvent (o : Fin 32) (s : State) : Host.Outcome State Fault Refusal :=
  match s.wire o.val with
  | [] => .next s
  | e :: w =>
    let cycle := (e :: w).filter fun x => x.1 / 2 = e.1 / 2
    let both := cycle.any (·.2) && cycle.any (!·.2)
    let s := s.takeWire o.val
    if !s.flag (Key.trgEnable o) || !s.inService then .next s
    else
      let s := if both then (s.setNum (Key.trgCollision o) 1).bump (Key.trgCollisionCount o) else s
      .next (s.schedulePulse o.val e.1)

/-- TRIGGER_PULSE_START (10 R290): the first scheduled pulse of output o whose coarse delay has expired starts. -/
def execTriggerPulseStart (o : Fin 32) (s : State) : Host.Outcome State Fault Refusal :=
  match (s.trg o).queue with
  | [] => .next s
  | p :: rest =>
    if s.now < p.start then .next s
    else
      .next (((s.modTrg o fun x => { x with queue := rest, current := some p }).bump
        (Key.trgPulses o)).produce (0x0080 + o.val) p.start)

/-- TRIGGER_PULSE_END (10 R290). -/
def execTriggerPulseEnd (o : Fin 32) (s : State) : Host.Outcome State Fault Refusal :=
  match (s.trg o).current with
  | none => .next s
  | some p =>
    if s.now < p.finish then .next s
    else .next (s.modTrg o fun x => { x with current := none, lastEnd := some p.finish })

/-- The scheduled pulses of output o discarded and a pulse in progress ended now (10 R290, R293). -/
def State.clearOutput (s : State) (o : Nat) : State :=
  s.modTrg o fun x => { x with
    queue := [], current := none, lastEnd := if x.current.isSome then some s.now else x.lastEnd }

/-- The level of output o at the pin: `none` is high impedance (10 R290, R293; 16 R463). -/
def State.trgLevel (s : State) (o : Nat) : Option Bool :=
  if s.life.trigReset then (if o < 16 then some false else none)
  else if s.flag (Key.trgEnable o) && s.inService then
    some ((s.trg o).current.isSome ≠ (s.num (Key.trgPolarity o) = 1))
  else match s.num (Key.trgSafeLevel o) with
    | 0 => some false
    | 1 => some true
    | _ => none

/-! ## Event inputs and Narrows (10 R302–R306) -/

/-- EVENT_INPUT_EDGE (10 R302): the filtered level of EVI[i] at the pin is now `level`; `EviInvert` inverts it. -/
def execEventInputEdge (i : Fin 16) (level : Bool) (s : State) : Host.Outcome State Fault Refusal :=
  let l := level ≠ s.flag (Key.eviInvert i)
  let was := tblGet s.motion.levels false i.val
  if l = was then .next s
  else
    let s := { s with motion := { s.motion with levels := tblPut s.motion.levels false i.val l } }
    let s := s.setNum (Key.eviLevel i) (bit l)
    .next (s.produce ((if l then 0x0040 else 0x0050) + i.val) s.now)

/-- The event of channel k of counter value t crosses to the holder's wire; event inputs of Harbourmaster raise their
source (13 R401). -/
def State.deliver (s : State) (k t : Nat) : State :=
  match s.holder k with
  | none => s
  | some code => if 0x0140 ≤ code then s.raiseHm (129 + (code - 0x0140)) else s.putWire code (t + 4) true

/-- A channel trips (10 R306). -/
def State.tripChannel (s : State) (k : Nat) : State :=
  (((s.setNum (Key.chanGuardTripped k) 1).bump Key.guardTripCount).raiseHm 76).trouble 0x0041 k 1 (s.num Key.stripIndex)

/-- NARROWS_HOP (10 R301–R306): the oldest cycle's event of channel k crosses to its consumer. -/
def execNarrowsHop (k : Fin 256) (s : State) : Host.Outcome State Fault Refusal :=
  match s.wire (chanWire k) with
  | [] => .next s
  | e :: w =>
    let cycle := (e :: w).filter fun x => x.1 / 2 = e.1 / 2
    let merged := cycle.any (·.2) && cycle.any (!·.2)
    let s := s.takeWire (chanWire k)
    if s.flag (Key.chanGuardTripped k) || heldOff (s.num (Key.chanHoldOff k)) (s.evChan k).lastHop e.1 then .next s
    else if s.num (Key.chanGuardMax k) < (s.evChan k).carried + 1 then .next (s.tripChannel k)
    else
      let s := s.modEvChan k fun x => { x with carried := x.carried + 1, lastHop := some e.1 }
      let s := (s.setNum (Key.chanSeen k) 1).setNum (Key.chanCount k) ((s.num (Key.chanCount k) + 1) % pow2 16)
      .next ((s.bumpIf merged (Key.chanInjectMerge k)).deliver k e.1)

/-- Every channel's count of carried events restarts (10 R306). -/
def State.restartGuards (s : State) : State :=
  s.forN 256 fun s k => if (s.evChan k).carried = 0 then s else s.modEvChan k fun x => { x with carried := 0 }

/-- NARROWS_GUARD_INTERVAL (10 R306): outside RUN, a 16 ms interval ends. -/
def execNarrowsGuardInterval (s : State) : Host.Outcome State Fault Refusal :=
  if s.inRun || s.now < s.motion.intervalStart + sixteenMs then .next s
  else
    let s := s.restartGuards
    .next { s with motion := { s.motion with intervalStart := s.motion.intervalStart + sixteenMs } }

/-- The check and effect of a write of `Inject` (10 R305). -/
def State.injectFails (s : State) (v : Slot) : List Nat := failIf (s.flag (Key.chanGuardTripped v.toNat)) resConflict

/-- INJECT (10 R305): an event on the channel the value names. -/
def execInject (src : Source) (k : Slot) (s : State) : Host.Outcome State Fault Refusal :=
  .next (s.command src Key.inject k s.injectFails fun v s => s.putWire (chanWire v.toNat) s.now true)

/-! ## Motion filter (10 R296–R300) -/

/-- One nm per ns in the unit of velocities, 2^−32 nm per ns. -/
def velOne : Int := (pow2 32 : Int)

/-- The edges of a channel at or before counter value t, newest first (10 R297, R299). -/
def Encoder.edgesBy (e : Encoder) (t : Nat) : List Stamp := e.stamps.dropWhile fun x => decide (t < x.time)

/-- The count of an encoder at counter value t, `now` being its count now: that of the last edge at or before t (10 R299). -/
def Encoder.countAt (e : Encoder) (now t : Nat) : Nat :=
  match e.edgesBy t with
  | x :: _ => x.count
  | [] => match e.stamps.getLast? with
    | none => now
    | some f => if f.up then (f.count + countMod - 1) % countMod else (f.count + 1) % countMod

/-- The raw velocity of channel c at counter value t (10 R297), in 2^−32 nm per counter ns. -/
def State.rawVelocity (s : State) (c t : Nat) : Int :=
  let es := (s.encoder c).edgesBy t
  let pitch : Int := s.num (Key.encPitch c)
  let win := es.takeWhile fun e => decide (t ≤ e.time + 1000 * s.num (Key.velWindow c))
  match win, win.getLast? with
  | l :: _ :: _, some f => divRound (pitch * ofTwos 48 (l.count + countMod - f.count) * velOne) (l.time - f.time)
  | _, _ =>
    match es with
    | [] => 0
    | l :: rest =>
      if t ≤ l.time + 1000 * s.num (Key.standstillTime c) then
        let gap := match rest with | [] => 0 | p :: _ => l.time - p.time
        let d := max (t - l.time) gap
        if d = 0 then Config.freeInt s.freeCount else (if l.up then 1 else -1) * divRound (pitch * velOne) d
      else 0

/-- The latest instant of channel c's raw grid at or before now (10 R296). -/
def rawInstant (c now : Nat) : Option Nat :=
  if now < 125 * c then none else some ((now - 125 * c) / 1000 * 1000 + 125 * c)

/-- MOTION_RAW_SAMPLE (10 R296, R297): the raw sample of the latest instant of the grid, once. -/
def execMotionRawSample (c : Fin 8) (s : State) : Host.Outcome State Fault Refusal :=
  match rawInstant c.val s.now with
  | none => .next s
  | some t =>
    if (match (s.encoder c).raws with | [] => false | r :: _ => t ≤ r.1) then .next s
    else
      let v := s.rawVelocity c t
      .next (s.modEncoder c fun e => { e with raws := (t, v) :: e.raws })

/-- Group delay of a response in counter ns (10 R298). -/
def groupDelay (r : Nat) : Nat := [5000000, 2500000, 1000000, 500000, 250000, 100000, 50000, 25000].getD r 0

/-- A velocity per counter ns scaled by the rate of W (10 R296). -/
def State.scaleToW (s : State) (v : Int) : Int := divRound (v * (pow2 40 : Int)) ((pow2 40 : Int) + s.net.w.rate).toNat

/-- The interpolator's output at counter value t, without lag compensation (10 R298). -/
def State.filtered (s : State) (c t : Nat) : Int :=
  s.scaleToW (Config.motionFilter (s.num (Key.motionResponse c)) ((s.encoder c).raws.dropWhile fun r => decide (t < r.1)) t)

/-- The change of the filtered velocity over one group delay (10 R298). -/
def State.velocityRise (s : State) (c t : Nat) : Int :=
  s.filtered c t - s.filtered c (t - groupDelay (s.num (Key.motionResponse c)))

/-- The velocity at counter value t, in 2^−32 nm per ns of W (10 R298): with `LagComp`, â × τ_g is added. -/
def State.velocityAt (s : State) (c t : Nat) : Int :=
  if s.flag (Key.lagComp c) then s.filtered c t + s.velocityRise c t else s.filtered c t

/-- A velocity in µm/s (10 R308). -/
def microns (v : Int) : Int := divRound (v * 1000000) (pow2 32)

/-- The acceleration at counter value t in mm/s² (10 R298, R308): nm/ns per ns is 10^12 mm/s². -/
def State.accelAt (s : State) (c t : Nat) : Int :=
  divRound (s.velocityRise c t * 1000000000000) (pow2 32 * groupDelay (s.num (Key.motionResponse c)))

/-- The position at counter value t in counts with 16 fractional bits (10 R299). -/
def State.positionAt (s : State) (c t : Nat) : Int :=
  let count : Int := (s.encoder c).countAt (s.num (Key.encCount c)) t
  match (s.encoder c).edgesBy t with
  | [] => count * 65536
  | e :: _ =>
    let v := s.velocityAt c t
    let frac := min 65535 (divRound ((v.natAbs * (t - e.time) * 65536 : Nat)) (pow2 32 * s.num (Key.encPitch c)))
    count * 65536 + (if v < 0 then -frac else frac)

/-- A count with 16 fractional bits as a world-line position in 2^−16 lines, signed (04 R130). -/
def State.toWorld16 (s : State) (c16 : Int) : Int :=
  let d := ofTwos 64 (toTwos 64 (c16 - (s.num Key.webOrigin : Int) * 65536))
  divRound (d * s.num (Key.encPitch (s.num Key.webEncoder))) (s.num Key.pitchY)

/-- The web's position at counter value t in 2^−16 world lines, signed (11 R342, 04 R130). -/
def State.webPos16 (s : State) (t : Nat) : Int := s.toWorld16 (s.positionAt (s.num Key.webEncoder) t)

/-- The world-line position counter now, from the integer count (03 R71, 04 R130). -/
def State.worldCounter (s : State) : Int :=
  s.toWorld16 ((s.num (Key.encCount (s.num Key.webEncoder)) : Int) * 65536)

/-- The counter value at which a domain reads t ns (10 R296). -/
def Domain.counterAt (d : Domain) (t : Int) : Nat :=
  ((d.anchor : Int) + divRound ((t * 65536 - d.offset) * (pow2 24 : Int)) ((pow2 40 : Int) + d.rate).toNat).toNat

/-- A threshold condition (10 R300): off without a threshold, first state taken without an event, then hysteresis. -/
def crossing (on rearm enabled : Bool) (was : Option Bool) : Option Bool × Bool :=
  if !enabled then (none, false)
  else match was with
    | none => (some on, false)
    | some false => (some on, on)
    | some true => (some (!rearm), false)

/-- The direction of travel (10 R300): known once |v| exceeds the hysteresis. -/
def turning (v hyst : Int) (was : Option Bool) : Option Bool × Bool :=
  match was with
  | none => if hyst < v then (some true, false) else if v < -hyst then (some false, false) else (none, false)
  | some true => if v < -hyst then (some false, true) else (some true, false)
  | some false => if hyst < v then (some true, true) else (some false, false)

/-- Threshold event t of channel c leaves (10 R300). -/
def State.thresholdEvent (s : State) (c t : Nat) (b : Bool) : State :=
  if b then (s.bump (Key.thresholdEvents c)).produce (0x0060 + 4 * c + t) s.now else s

/-- The thresholds of channel c at an output of velocity v and acceleration a (10 R300). -/
def State.thresholds (s : State) (c : Nat) (v a : Int) : State :=
  let e := s.encoder c
  let n := fun k => (s.num k : Int)
  let av : Int := v.natAbs
  let aa : Int := a.natAbs
  let hyst := n (Key.speedHyst c)
  let u := crossing (av < n (Key.underSpeed c)) (n (Key.underSpeed c) + hyst ≤ av) (s.flag (Key.underSpeed c)) e.underOn
  let o := crossing (n (Key.overSpeed c) < av) (av ≤ n (Key.overSpeed c) - hyst) (s.flag (Key.overSpeed c)) e.overOn
  let q := crossing (n (Key.accelLimit c) < aa) (16 * aa ≤ n (Key.accelLimit c) * 15) (s.flag (Key.accelLimit c)) e.accelOn
  let d := turning v hyst e.dir
  let s := s.modEncoder c fun e => { e with underOn := u.1, overOn := o.1, accelOn := q.1, dir := d.1 }
  let s := s.setNum (Key.motionStatus c)
    (bit (u.1 = some true) + 2 * bit (o.1 = some true) + 4 * bit (q.1 = some true) + 8 * bit (d.1 = some false))
  (((s.thresholdEvent c 0 u.2).thresholdEvent c 1 o.2).thresholdEvent c 2 q.2).thresholdEvent c 3 d.2

/-- The latest output instant at or before now (10 R299): ⌊m·10^9/rate⌋. -/
def outputInstant (rate now : Nat) : Nat :=
  if rate = 0 then 0 else ((now + 1) * rate - 1) / 1000000000 * 1000000000 / rate

/-- MOTION_OUTPUT (10 R299, R300): the output of the latest `MotionOutRate` instant, once. -/
def execMotionOutput (c : Fin 8) (s : State) : Host.Outcome State Fault Refusal :=
  let t := outputInstant (s.num Key.motionOutRate) s.now
  if (match (s.encoder c).lastOut with | none => false | some l => t ≤ l) then .next s
  else
    let v := microns (s.velocityAt c t)
    let a := s.accelAt c t
    let s := (s.setInt (Key.velocity c) (satS 32 v)).setInt (Key.acceleration c) (satS 32 a)
    .next ((s.modEncoder c fun e => { e with lastOut := some t }).thresholds c v a)

end Sys2Proof.Machine
end

