-- ==== Sys2Proof/Machine/Ingress.lean ====
section
/-! DEFINITION. Camera ingress and Lamah Link (04): lanes, ports, packets, credits, triggers and the ledger. -/

namespace Sys2Proof.Machine

open Sys2Proof

/-! ## Ports and lanes (04 R101–R110) -/

/-- The states of a port (04 R110). -/
def psOff : Nat := 0
/-- Lanes locking. -/
def psDown : Nat := 1
/-- Skew measured. -/
def psDeskew : Nat := 2
/-- Waiting for a ready camera. -/
def psHandshake : Nat := 3
/-- Linked. -/
def psActive : Nat := 4
/-- No valid packet for too long. -/
def psSilent : Nat := 5
/-- In L1. -/
def psStandby : Nat := 6

/-- The port of a lane (04 R101). -/
def lanePort (l : Nat) : Nat := l / 4

/-- The bound lanes of port n (04 R101). -/
def State.boundLanes (s : State) (n : Nat) : List Nat := (List.range (s.num (Key.laneCount n))).map (4 * n + ·)

/-- Whether a lane is bound to its port. -/
def State.laneBound (s : State) (l : Nat) : Bool := l < s.laneCount && l % 4 < s.num (Key.laneCount (lanePort l))

/-- Whether decoding runs on a port (04 R110). -/
def State.decoding (s : State) (n : Nat) : Bool :=
  let st := (s.port n).state
  st = psHandshake || st = psActive || st = psSilent

/-- The state of a port set. -/
def State.setPortState (s : State) (n st : Nat) : State :=
  if (s.port n).state = st then s else (s.modPort n fun p => { p with state := st }).raiseHm (41 + n)

/-- A lane enters a state of the sequence of 04 R109. -/
def State.laneTo (s : State) (l : Nat) (st : LaneState) : State :=
  s.modLane l fun x => { x with state := st, markers := 0, missed := 0, since := s.now }

/-- The logical lanes of a port's bound lanes, while all are LOCKED. -/
def State.lockedMap (s : State) (n : Nat) : Option (List Nat) :=
  let ls := s.boundLanes n
  if ls.all fun l => (s.lane l).state = .locked then some (ls.map fun l => (s.lane l).logical) else none

/-- The value of `LaneMap` (04 R137). -/
def State.laneMap (s : State) (n : Nat) : Nat := sumNat ((List.range 4).map fun i => (s.lane (4 * n + i)).logical * pow2 (2 * i))

/-- The value of `LaneStates` (04 R137). -/
def State.laneStates (s : State) (n : Nat) : Nat :=
  sumNat ((List.range 4).map fun i =>
    (match (s.lane (4 * n + i)).state with | .off => 0 | .cdr => 1 | .block => 2 | .marker => 3 | .locked => 4) * pow2 (4 * i))

/-- A port in DOWN whose lanes are all LOCKED with distinct logical lanes goes to DESKEW; equal ones are a conflict
(04 R110). -/
def State.tryDeskew (s : State) (n : Nat) : State :=
  if (s.port n).state = psDown && (s.port n).deskewFail.isNone then
    match s.lockedMap n with
    | none => s
    | some m => if allDistinct m then s.setPortState n psDeskew else s.trouble 0x0011 n 1 (s.laneMap n)
  else s

/-! ## Credits (04 R123–R125) -/

/-- The credits of a packet of n bytes (04 R123). -/
def creditsOf (n : Nat) : Nat := (n + 255) / 256

/-- The credits available to the camera (04 R123). -/
def Port.credits (p : Port) : Int := ofTwos 32 (p.limit + pow2 32 - p.consumed)

/-- The planes of a camera line by colour mode (04 R114, 05 R157). -/
def planesOf (mode : Nat) : Nat := match mode with | 0 => 1 | 1 => 3 | _ => 2

/-- The bits of a format (04 R114). -/
def formatBits (f : Nat) : Nat := match f with | 1 => 8 | 2 => 10 | 3 => 12 | _ => 16

/-- The bytes of a payload of n pixels, padded (04 R114). -/
def payloadBytes (f n : Nat) : Nat := ((n * formatBits f + 7) / 8 + 3) / 4 * 4

/-- The size of a line packet of the configured camera (04 R122). -/
def State.linePacketSize (s : State) (n : Nat) : Nat :=
  36 + payloadBytes (s.num (Key.pixelFormat n)) (s.num (Key.camLineLength n))

/-- `CreditStallTime` brought up to now, and the stall begun or ended (04 R125). -/
def State.settleStall (s : State) (n : Nat) : State :=
  let p := s.port n
  let add := match p.stallSince with | none => 0 | some t => s.now - t
  let s := if add = 0 then s else s.add (Key.creditStallTime n) add
  let short : Bool := p.credits < (creditsOf (s.linePacketSize n) : Int)
  s.modPort n fun p => { p with stallTotal := p.stallTotal + add, stallSince := if short then some s.now else none }

/-- The time for which the camera has held credits for a line packet (04 R132). -/
def State.creditTime (s : State) (n : Nat) : Nat :=
  let p := s.port n
  s.now - p.stallTotal - (match p.stallSince with | none => 0 | some t => s.now - t)

/-- n credits freed: `CREDIT_LIMIT` rises and a credit packet falls due (04 R125). -/
def State.freeCredits (s : State) (port n : Nat) (buffered : Bool) : State :=
  (s.modPort port fun p =>
    { p with limit := (p.limit + n) % pow2 32, creditDue := true, fill := if buffered then p.fill - 256 * n else p.fill }).settleStall port

/-- A credit packet leaves (04 R116). -/
def State.sendCredit (s : State) (n : Nat) : State :=
  let b := [0x11, 0, 0, 0] ++ leBytes 4 (s.port n).limit ++ zeros 4
  (s.send (.downlink n) (b ++ leBytes 4 (crc32 b))).modPort n fun p => { p with creditDue := false, lastCredit := s.now }

/-- A time beacon leaves (04 R118). -/
def State.sendBeacon (s : State) (n : Nat) : State :=
  let b := [0x13, 0] ++ leBytes 2 (s.port n).beaconSeq ++ zeros 4 ++ leBytes 8 s.wNow ++ zeros 4
  (s.send (.downlink n) (b ++ leBytes 4 (crc32 b))).modPort n fun p =>
    { p with beaconSeq := (p.beaconSeq + 1) % pow2 16, lastBeacon := s.now }

/-- Whether the downlink of a port runs. -/
def State.linked (s : State) (n : Nat) : Bool := psHandshake ≤ (s.port n).state

/-- CREDIT_PACKET (04 R125): a raise leaves, at most one packet per 0.2 µs. -/
def execCreditPacket (port : Fin 16) (s : State) : Host.Outcome State Fault Refusal :=
  let p := s.port port
  if s.linked port && p.creditDue && p.lastCredit + 200 ≤ s.now then .next (s.sendCredit port) else .next s

/-- CREDIT_PACKET_PERIODIC (04 R125): every 100 µs without a raise. -/
def execCreditPacketPeriodic (port : Fin 16) (s : State) : Host.Outcome State Fault Refusal :=
  if s.linked port && (s.port port).lastCredit + 100000 ≤ s.now then .next (s.sendCredit port) else .next s

/-- TIME_BEACON (04 R118): every `BeaconPeriod`. -/
def execTimeBeacon (port : Fin 16) (s : State) : Host.Outcome State Fault Refusal :=
  if s.linked port && (s.port port).lastBeacon + 1000 * s.num (Key.beaconPeriod port) ≤ s.now then .next (s.sendBeacon port)
  else .next s

/-! ## The trigger ledger (04 R128–R132) -/

/-- The slot of a sequence number. -/
def ledgerSlot (seq : Nat) : Nat := seq % 4096

/-- A ledger entry. -/
def Port.entry (p : Port) (slot : Nat) : LedgerEntry := tblGet p.ledger {} slot

/-- A ledger entry replaced. -/
def Port.setEntry (p : Port) (slot : Nat) (e : LedgerEntry) : Port := { p with ledger := tblPut p.ledger {} slot e }

/-- The 32 bytes of a ledger entry (04 R129). -/
def LedgerEntry.bytes (e : LedgerEntry) : List Byte :=
  leBytes 4 e.seq ++ leBytes 1 e.encoder
    ++ leBytes 1 (bit e.valid + 2 * bit e.matched + 4 * bit e.timeMode + 8 * bit e.lost + 16 * e.planes + 128 * bit e.beforeOrigin)
    ++ zeros 2 ++ leBytes 8 e.encCount ++ leBytes 8 e.trigTime ++ leBytes 8 e.worldPos

/-- The plane delays of a port in effect: D_0 to D_2 and PLANE_REF (05 R166); trilinear only. -/
def State.delay (s : State) (n q : Nat) : Nat :=
  if s.num (Key.colourMode n) = 1 then fieldAt (s.blob (Key.pixelParams n)) (4 + q) 1 else 0

/-- The reference delay. -/
def State.refDelay (s : State) (n : Nat) : Nat := s.delay n (fieldAt (s.blob (Key.pixelParams n)) 2 1)

/-- The reference trigger of the colour line that takes plane q of trigger `seq` (05 R145). -/
def State.colourSeq (s : State) (n q seq : Nat) : Nat := (seq + pow2 32 + s.refDelay n - s.delay n q) % pow2 32

/-- Whether a line at a position lies in a passed strip that the pipelines and Causeway gave up (03 R88). -/
def State.passedAt (s : State) (pos16 : Int) : Bool :=
  s.sched.cut.any fun (r : Nat × Nat) => (r.1 : Int) ≤ pos16 / 65536 && pos16 / 65536 < r.2

/-- Whether trigger `seq` of port n comes after the last issued (04 R131). -/
def Port.isLater (p : Port) (seq : Nat) : Bool := !p.issued || 0 < ofTwos 32 (seq + pow2 32 + 1 - p.nextSeq)

/-- The colour line of reference t, formed or reported, takes no further plane. -/
def Port.close (p : Port) (t : Nat) : Port := { p with closed := (t :: p.closed).take 4096 }

/-- The colour line of reference t is not formed: its held planes go, and it is reported to Causeway once (05 R148), unless
Causeway has given up its strip (03 R88). One whose trigger is not yet issued is reported as its own planes come. -/
def State.reportLine (s : State) (n t : Nat) : State :=
  let p := s.port n
  let e := p.entry (ledgerSlot t)
  let gone := p.held.filter fun x => s.colourSeq n x.q x.head.seq = t
  let s := s.modPort n fun p => { p with held := p.held.filter fun x => s.colourSeq n x.q x.head.seq ≠ t }
  let s := s.add (Key.planesDiscarded (s.num (Key.portPlacement n) % 8)) gone.length
  if p.closed.contains t || p.isLater t then s
  else
    let s := s.modPort n fun p => p.close t
    if e.valid && e.seq = t && !s.passedAt e.worldPos then
      s.modPort n fun p => { p with missing := p.missing ++ [⟨some t, (e.worldPos : Int) - s.int (Key.alongOffset n), false⟩], prevLuma := none }
    else s

/-- The key of a plane's colour line: trigger number or camera line counter of its reference (05 R145, R146). -/
def State.lineKey (s : State) (n : Nat) (x : Plane) : Nat :=
  s.colourSeq n x.q (if x.head.triggered then x.head.seq else x.head.counter)

/-- A free-running colour line is not formed (05 R146): dated at its reference plane, or halfway between its neighbours. -/
def State.reportFree (s : State) (n key : Nat) : State :=
  let ref := if s.num (Key.colourMode n) = 1 then fieldAt (s.blob (Key.pixelParams n)) 2 1 else 0
  let held := (s.port n).held.filter fun x => s.lineKey n x = key
  let m : Missing := match held.find? (·.q = ref) with
    | some x => ⟨none, x.head.worldPos - s.int (Key.alongOffset n), false⟩
    | none => ⟨none, 0, true⟩
  let s := s.add (Key.planesDiscarded (s.num (Key.portPlacement n) % 8)) held.length
  s.modPort n fun p => { p with held := p.held.filter (fun x => s.lineKey n x ≠ key), missing := p.missing ++ [m], prevLuma := none }

/-- The free-running lines held as a port leaves ACTIVE are missing (05 R146). -/
def State.reportHeldFree (s : State) (n : Nat) : State :=
  ((((s.port n).held.filter fun x => !x.head.triggered).map (s.lineKey n)).eraseDups).foldl (fun s k => s.reportFree n k) s

/-- An entry becomes LOST (04 R132): counted, and every colour line that needed its planes is reported. -/
def State.loseEntry (s : State) (n slot : Nat) : State :=
  let e := (s.port n).entry slot
  if e.valid && !e.matched && !e.lost then
    let s := (s.modPort n fun p => p.setEntry slot { e with lost := true }).bump (Key.linesLost n)
    ((List.range (planesOf (s.num (Key.colourMode n)))).map fun q => s.colourSeq n q e.seq).eraseDups.foldl
      (fun s t => s.reportLine n t) s
  else s

/-- Entries earlier than `seq`, valid and not matched, become LOST (04 R132). -/
def State.loseBefore (s : State) (n seq : Nat) : State :=
  (s.port n).ledger.foldl (fun s (x : Nat × LedgerEntry) =>
    if ofTwos 32 (x.2.seq + pow2 32 - seq) < 0 then s.loseEntry n x.1 else s) s

/-- A count with 16 fractional bits in a ledger entry (04 R130): position, and whether it lies before the origin. -/
def State.ledgerPos (s : State) (c16 : Int) : Nat × Bool :=
  let w := s.toWorld16 c16
  (w.toNat, w < 0)

/-- The trigger block of a sequence number (04 R117). -/
def triggerBlock (seq : Nat) : List Byte :=
  let b := [0x5C] ++ leBytes 4 seq
  [0x4B] ++ b ++ leBytes 2 (crc16 b)

/-- A trigger of generator n at counter value t (04 R128–R131); `level0` tells that compare unit 32 + n fired it. -/
def State.issueTrigger (s : State) (n t : Nat) (level0 : Bool) : State :=
  let seq := (s.port n).nextSeq
  let slot := ledgerSlot seq
  let old := (s.port n).entry slot
  let s := if old.valid && !old.matched && !old.lost then (s.loseEntry n slot).bump (Key.triggerOverwrite n) else s
  let web := s.num Key.webEncoder
  let mode := s.num (Key.cmpMode (32 + n))
  let counted : Bool := level0 && (mode = 1 || mode = 2)
  let count := if counted then s.num (Key.cmpLastFireCount (32 + n)) else s.num (Key.encCount web)
  let pos := s.ledgerPos (if counted then (count : Int) * 65536 else s.positionAt web t)
  let e : LedgerEntry :=
    { seq := seq, encoder := web, valid := true, timeMode := !counted, beforeOrigin := pos.2, encCount := count,
      trigTime := s.wAt t, worldPos := pos.1, creditTime := s.creditTime n }
  let s := s.modPort n fun p => { p.setEntry slot e with nextSeq := (seq + 1) % pow2 32, issued := true, lastTrig := some t }
  let s := s.setNum (Key.lastTrigSeq n) seq
  let s := if (s.port n).state = psOff then s else s.send (.downlink n) (triggerBlock seq)
  s.produce (0x00A0 + n) t

/-- LINE_TRIGGER (04 R128, 10 R292, R295): the oldest Narrows cycle with an event at generator n; in RUN only. -/
def execLineTrigger (port : Fin 16) (s : State) : Host.Outcome State Fault Refusal :=
  let n := port.val
  let code := 0x0020 + n
  match s.wire code with
  | [] => .next s
  | e :: w =>
    let cycle := (e :: w).filter fun x => x.1 / 2 = e.1 / 2
    let level0 := cycle.any (!·.2)
    let s := s.takeWire code
    if !s.inRun || s.life.draining || s.portCount ≤ n then .next s
    else
      let s := s.bumpIf (level0 && cycle.any (·.2)) (Key.genCollisionCount n)
      if (match (s.port n).lastTrig with | none => false | some t => e.1 < t + 100) then
        .next (s.bump (Key.triggerMergedCount n))
      else .next (s.issueTrigger n e.1 level0)

/-- LEDGER_ENTRY_TIMEOUT (04 R132): `TrigLineTimeout` of credit time has passed. -/
def execLedgerEntryTimeout (port : Fin 16) (seq : BitVec 32) (s : State) : Host.Outcome State Fault Refusal :=
  let n := port.val
  let e := (s.port n).entry (ledgerSlot seq.toNat)
  if e.seq = seq.toNat && e.creditTime + 1000 * s.num (Key.trigLineTimeout n) ≤ s.creditTime n then
    .next (s.loseEntry n (ledgerSlot seq.toNat))
  else .next s

/-- The effect of a `LedgerReadSeq` write (04 R138): 0 valid, 1 overwritten, 2 not issued. -/
def State.ledgerReadEffect (s : State) (src : Source) (n seq : Nat) : State :=
  let p := s.port n
  let e := p.entry (ledgerSlot seq)
  let result := if p.isLater seq then 2 else if e.valid && e.seq = seq then 0 else 1
  s.modSource src fun x => { x with ledger := tblPut x.ledger {} n ⟨seq, e.bytes, result⟩ }

/-- LEDGER_READ_SEQ (04 R138). -/
def execLedgerReadSeq (src : Source) (port : Fin 16) (seq : BitVec 32) (s : State) : Host.Outcome State Fault Refusal :=
  .next (s.command src (Key.ledgerReadSeq port) (seq.zeroExtend 64) (fun _ => []) fun v s =>
    s.ledgerReadEffect src port.val v.toNat)

/-! ## Link-up (04 R109, R110) -/

/-- The packet in reception is dropped: its credits return, its line packet leaves the buffer, its trigger is lost
(04 R110, R132, R135). -/
def State.dropReception (s : State) (n : Nat) : State :=
  match (s.port n).rx with
  | none => s
  | some r =>
    let s := s.modPort n fun p => { p with
      rx := none, buffer := if r.taken then p.buffer.dropLast else p.buffer }
    let s := if r.discard then s else s.freeCredits n (creditsOf r.length) true
    match r.matched <|> r.mark with
    | some h => if h.triggered then s.loseEntry n (ledgerSlot h.seq) else s
    | none => s

/-- A packet in reception while the lane reference switches is dropped, and a line it loses is counted (15 R456). -/
def State.dropSwitching (s : State) (n : Nat) : State :=
  let before := s.num (Key.linesLost n)
  let s := s.dropReception n
  { s with maint := { s.maint with linesLost := s.maint.linesLost + (s.num (Key.linesLost n) - before) } }

/-- A bound lane leaves LOCKED (04 R110): an ACTIVE port goes DOWN. -/
def State.portLaneLost (s : State) (n : Nat) : State :=
  let s := s.dropReception n
  if (s.port n).state = psActive then ((s.reportHeldFree n).setPortState n psDown).bump (Key.linkDownCount n) else s

/-- A lane in LOCKED is lost (04 R109). -/
def State.loseLane (s : State) (l : Nat) (byHeaders : Bool) : State :=
  if (s.lane l).state = .locked then
    let n := lanePort l
    let s := s.laneTo l .block
    let s := if byHeaders then s.add (Key.headerErrors n) 16 else s.bump (Key.markerErrors n)
    s.portLaneLost n
  else s

/-- LANE_CDR_LOCK (04 R109). -/
def execLaneCdrLock (lane : Fin 64) (s : State) : Host.Outcome State Fault Refusal :=
  let l := lane.val
  if s.laneBound l && (s.lane l).state = .cdr then
    .next ((s.laneTo l .block).modLane l fun x => { x with noSignal := false })
  else .next s

/-- LANE_NO_SIGNAL (04 R109): no lock within 1 ms; one entry per episode, and the search restarts. -/
def execLaneNoSignal (lane : Fin 64) (s : State) : Host.Outcome State Fault Refusal :=
  let l := lane.val
  if (s.lane l).state = .cdr && (s.lane l).since + 1000000 ≤ s.now then
    let s := if (s.lane l).noSignal then s else s.trouble 0x0010 l 1 (lanePort l)
    .next (s.modLane l fun x => { x with noSignal := true, since := s.now })
  else .next s

/-- BLOCK_LOCK (04 R109): 64 valid sync headers. -/
def execBlockLock (lane : Fin 64) (s : State) : Host.Outcome State Fault Refusal :=
  if (s.lane lane).state = .block then .next (s.laneTo lane .marker) else .next s

/-- BLOCK_SLIP (04 R103, R109): 16 invalid headers within 64 in BLOCK. -/
def execBlockSlip (lane : Fin 64) (s : State) : Host.Outcome State Fault Refusal :=
  if (s.lane lane).state = .block then .next (s.add (Key.headerErrors (lanePort lane.val)) 16) else .next s

/-- Whether 8 bytes are a valid alignment marker (04 R104). -/
def markerValid (b : List Byte) : Bool :=
  b.length = 8 && b.getD 0 0 = 0xA5 && b.getD 1 0 = 0x5A && b.getD 4 0 = 0x5A && b.getD 5 0 = 0xA5
    && b.getD 6 0 = ~~~(b.getD 2 0) && b.getD 7 0 = ~~~(b.getD 3 0)

/-- ALIGNMENT_MARKER (04 R104, R109): what stands in a lane's marker slot. -/
def execAlignmentMarker (lane : Fin 64) (block : List Byte) (bip : Byte) (s : State) : Host.Outcome State Fault Refusal :=
  let l := lane.val
  let x := s.lane l
  let logical := (block.getD 2 0).toNat
  let ok := markerValid block && logical < s.num (Key.laneCount (lanePort l))
  let s := s.bumpIf (markerValid block && block.getD 3 0 ≠ bip && (x.state = .marker || x.state = .locked)) (Key.bipErrors (lanePort l))
  match x.state with
  | .marker =>
    if !ok then .next (s.modLane l fun x => { x with markers := 0 })
    else if x.markers = 1 && x.logical = logical then .next ((s.laneTo l .locked).tryDeskew (lanePort l))
    else .next (s.modLane l fun x => { x with markers := 1, logical := logical })
  | .locked =>
    if ok && logical = x.logical then .next (s.modLane l fun x => { x with missed := 0 })
    else if x.missed + 1 < 4 then .next (s.modLane l fun x => { x with missed := x.missed + 1 })
    else .next (s.loseLane l false)
  | _ => .next s

/-- MARKER_TIMEOUT (04 R109): no valid marker within 32,768 slots. -/
def execMarkerTimeout (lane : Fin 64) (s : State) : Host.Outcome State Fault Refusal :=
  if (s.lane lane).state = .marker then .next ((s.laneTo lane .block).bump (Key.markerErrors (lanePort lane.val)))
  else .next s

/-- LANE_LOST (04 R109, R110). -/
def execLaneLost (lane : Fin 64) (byHeaders : Bool) (s : State) : Host.Outcome State Fault Refusal :=
  .next (s.loseLane lane.val byHeaders)

/-- PORT_DESKEW (04 R106, R110): the measured skew; within 180 ns the counts of credits start and the handshake begins. -/
def execPortDeskew (port : Fin 16) (skewNs : Nat) (s : State) : Host.Outcome State Fault Refusal :=
  let n := port.val
  if (s.port n).state ≠ psDeskew then .next s
  else if 180 < skewNs then
    .next (((s.setPortState n psDown).modPort n fun p => { p with deskewFail := some s.now }).trouble 0x0012 n 1 skewNs)
  else
    let s := ((s.setNum (Key.skew n) skewNs).setPortState n psHandshake).modPort n fun p => { p with
      consumed := 0, limit := 512, violated := false, lastValid := s.now }
    .next (((s.settleStall n).sendCredit n).sendBeacon n)

/-- DESKEW_RETRY (04 R110): 1 ms after a skew over the limit. -/
def execDeskewRetry (port : Fin 16) (s : State) : Host.Outcome State Fault Refusal :=
  let n := port.val
  match (s.port n).deskewFail with
  | none => .next s
  | some t =>
    if t + 1000000 ≤ s.now then .next ((s.modPort n fun p => { p with deskewFail := none }).tryDeskew n) else .next s

/-- CAM_SILENT_TIMEOUT (04 R110): no valid packet for `CamSilentTimeout`. -/
def execCamSilentTimeout (port : Fin 16) (s : State) : Host.Outcome State Fault Refusal :=
  let n := port.val
  let st := (s.port n).state
  if (st = psHandshake || st = psActive) && (s.port n).lastValid + 1000000 * s.num (Key.camSilentTimeout n) ≤ s.now then
    let s := if st = psActive then s.reportHeldFree n else s
    .next ((s.trouble 0x0013 n 1 st).setPortState n psSilent)
  else .next s

/-! ## Power states (04 R108, R110) -/

/-- A valid packet other than a status packet, for `CamSilentTimeout`: in HANDSHAKE only a status packet counts (04 R110). -/
def State.validPacket (s : State) (n : Nat) (ok : Bool) : State :=
  s.modPort n fun p => { p with lastValid := if ok && p.state ≠ psHandshake then s.now else p.lastValid }

/-- A port goes OFF: lanes powered down, buffer emptied (04 R110). -/
def State.portOff (s : State) (n : Nat) : State :=
  let s := s.dropReception n
  let s := s.forN 4 fun s i => s.modLane (4 * n + i) fun _ => {}
  (s.setPortState n psOff).modPort n fun p => { p with poweredAt := none, deskewFail := none, rx := none, buffer := [], fill := 0, creditDue := false }

/-- `PortEnable` and `PortPowerRequest` in effect on a port (04 R110). -/
def State.portSettle (s : State) (n : Nat) : State :=
  let st := (s.port n).state
  let req := s.num (Key.portPowerRequest n)
  if s.life.lanesStopped then s
  else if !s.flag (Key.portEnable n) || req = 2 then (if st = psOff then s else (s.reportHeldFree n).portOff n)
  else if req = 0 && st = psOff then (s.setPortState n psDown).modPort n fun p => { p with poweredAt := some s.now }
  else if req = 0 && st = psStandby then (s.setPortState n psActive).validPacket n true
  else if req = 1 && st = psActive then (s.reportHeldFree n).setPortState n psStandby
  else s

/-- The check of a `PortPowerRequest` (04 R108): L1 or L2 on an enabled port in RUN. -/
def State.portPowerFails (s : State) (n : Nat) (v : Slot) : List Nat :=
  failIf (s.inRun && v ≠ 0 && s.flag (Key.portEnable n)) resBusyTick

/-- A write of `PortPowerRequest`. -/
def State.portPower (s : State) (src : Source) (n : Nat) (v : Slot) : State :=
  s.command src (Key.portPowerRequest n) v (s.portPowerFails n) fun v s => (s.setVal (Key.portPowerRequest n) v).portSettle n

/-- PORT_POWER_L0 (04 R108). -/
def execPortPowerL0 (src : Source) (port : Fin 16) (s : State) : Host.Outcome State Fault Refusal :=
  .next (s.portPower src port.val 0)

/-- PORT_POWER_L1 (04 R108). -/
def execPortPowerL1 (src : Source) (port : Fin 16) (s : State) : Host.Outcome State Fault Refusal :=
  .next (s.portPower src port.val 1)

/-- PORT_POWER_L2 (04 R108). -/
def execPortPowerL2 (src : Source) (port : Fin 16) (s : State) : Host.Outcome State Fault Refusal :=
  .next (s.portPower src port.val 2)

/-- PORT_POWER_UP_COMPLETE (04 R108, R109): the bound lanes leave OFF and search for lock. -/
def execPortPowerUpComplete (port : Fin 16) (s : State) : Host.Outcome State Fault Refusal :=
  let n := port.val
  if (s.port n).state = psDown && (s.port n).poweredAt.isSome then
    let s := s.modPort n fun p => { p with poweredAt := none }
    .next ((s.boundLanes n).foldl (fun s l => if (s.lane l).state = .off then s.laneTo l .cdr else s) s)
  else .next s

/-! ## Packets (04 R111–R124) -/

/-- The largest packet (04 R111). -/
def maxPacket : Nat := 65572

/-- The packet in reception is discarded and its credits freed. -/
def State.discardPacket (s : State) (n : Nat) : State :=
  match (s.port n).rx with
  | none => s
  | some r =>
    if r.discard then s
    else (s.modPort n fun p => { p with rx := some { r with discard := true } }).freeCredits n (creditsOf r.length) true

/-- The packet in reception fails its framing: it is discarded whole and counted, unless it was discarded before (04 R111). -/
def State.framingError (s : State) (n : Nat) : State :=
  match (s.port n).rx with
  | none => s
  | some r =>
    let s := s.modPort n fun p => { p with rx := none, buffer := if r.taken then p.buffer.dropLast else p.buffer }
    if r.discard then s else (s.freeCredits n (creditsOf r.length) true).bump (Key.framingErrors n)

/-- PACKET_START (04 R108, R111, R123, R124): the credit rule on a start block. A packet still in reception has no terminate
block. -/
def execPacketStart (port : Fin 16) (length : Nat) (s : State) : Host.Outcome State Fault Refusal :=
  let n := port.val
  if !s.decoding n && (s.port n).state ≠ psStandby then .next s
  else
    let s := s.framingError n
    let p := s.port n
    let need := creditsOf length
    let beyond := (need : Int) - p.credits
    let s := s.modPort n fun p => { p with consumed := (p.consumed + need) % pow2 32, rx := some { length := length, discard := true } }
    if p.state = psStandby then .next (s.freeCredits n need false)
    else if 0 < beyond then
      let s := (s.freeCredits n need false).bump (Key.creditViolations n)
      .next (if p.violated then s else (s.modPort n fun p => { p with violated := true }).trouble 0x0018 n 1 beyond.toNat)
    else if maxPacket < length then .next ((s.freeCredits n need false).bump (Key.framingErrors n))
    else
      let s := s.modPort n fun p => { p with fill := p.fill + 256 * need, rx := some { length := length } }
      let s := if s.num (Key.bufferPeak n) < (s.port n).fill then s.setNum (Key.bufferPeak n) (s.port n).fill else s
      .next (s.settleStall n)

/-- The planes of a colour mode in send order (04 R113, R114). -/
def planeCodes (mode : Nat) : List Nat := match mode with | 0 => [0] | 1 => [1, 2, 3] | _ => [4, 5]

/-- The strip that holds a world line, if it is still kept (05 R162). -/
def State.stripOf (s : State) (l : Nat) : Option Strip :=
  s.sched.strips.find? fun x => x.lineFirst ≤ l && (match x.lineEnd with | none => true | some e => l < e)


/-- What a line packet's header says (04 R113). -/
def parseHead (h : List Byte) (mode : Nat) : LineHead :=
  let plane := bitsAt (fieldAt h 1 1) 0 4
  { plane := (indexOf? (· = plane) (planeCodes mode)).getD 0, format := fieldAt h 2 1, triggered := bitAt (fieldAt h 3 1) 0,
    pixels := fieldAt h 4 2, seq := fieldAt h 8 4, counter := fieldAt h 12 4, camTime := fieldAt h 16 8, exposure := fieldAt h 24 4 }

/-- Whether a header passes: its CRC, and its port, format and plane (04 R113, R120). -/
def State.headOk (s : State) (n : Nat) (h : List Byte) : Bool :=
  h.length = 32 && fieldAt h 28 4 = crc32 (h.take 28) && bitsAt (fieldAt h 1 1) 4 4 = n
    && (planeCodes (s.num (Key.colourMode n))).contains (bitsAt (fieldAt h 1 1) 0 4)
    && fieldAt h 2 1 = s.num (Key.pixelFormat n)

/-- The start in W of the dwell of the phase schedule that holds half-ns instant t2 (08 R236, R237). -/
def State.dwellStart (s : State) (t2 : Int) : Int :=
  let d : Int := s.num Key.phaseDwell
  let t0 : Int := if (s.atoll.t0 : Int) * 2 ≤ t2 then s.atoll.t0 else s.atoll.oldT0
  t0 + (t2 - 2 * t0) / (2 * d) * d

/-- The exposure check of Atoll on a line taken (08 R239): an exposure across a dwell boundary makes the dwell of its
centre invalid for the port. -/
def State.checkStraddle (s : State) (n : Nat) (h : LineHead) : State :=
  if !s.flag Key.atollEnable || s.num Key.phaseCount ≤ 1 then s
  else
    let e : Int := h.trigTime + (if h.triggered then 96 + s.num (Key.trigOffset n) else 0)
    let start := s.dwellStart (2 * e)
    let mid := s.dwellStart (2 * e + h.exposure)
    if e + h.exposure ≤ start + s.num Key.phaseDwell || s.atoll.badDwell.contains (n, mid) then s
    else
      ({ s with atoll := { s.atoll with badDwell := (n, mid) :: s.atoll.badDwell } }).bump Key.straddleCount

/-- The packet in reception is taken into the buffer under its header (04 R120, R134; 08 R239). -/
def State.takeLine (s : State) (n : Nat) (r : RxPacket) (h : LineHead) : State :=
  (s.checkStraddle n h).modPort n fun p => { p with
    rx := some { r with matched := some h, taken := true }
    buffer := p.buffer ++ [{ head := h, length := r.length }] }

/-- A plane of trigger `seq` is dropped in a strip passed through: colour lines of other strips that needed it are
reported (05 R148). -/
def State.dropPlane (s : State) (n : Nat) (h : LineHead) : State :=
  if h.triggered then s.reportLine n (s.colourSeq n h.plane h.seq) else s

/-- A matched packet of a strip passed through is dropped after the ledger check (04 R131, R136). -/
def State.passLine (s : State) (n : Nat) (r : RxPacket) (h : LineHead) : State :=
  ((s.modPort n fun p => { p with rx := some { r with mark := some h } }).discardPacket n).dropPlane n h

/-- A free-running line (04 R133, 05 R146): dated in W, placed, discarded as a repeat of a plane already taken. -/
def State.takeFree (s : State) (n : Nat) (r : RxPacket) (h : LineHead) : State :=
  let date := (h.camTime : Int) + s.int (Key.camTimeOffset n)
  let h := { h with trigTime := toTwos 64 date, worldPos := s.webPos16 (s.net.w.counterAt date), encoder := s.num Key.webEncoder }
  if s.passedAt h.worldPos then s.discardPacket n
  else if 1 < planesOf (s.num (Key.colourMode n)) && (s.port n).taken.contains (h.counter, h.plane) then
    (s.bump (Key.duplicateLines n)).discardPacket n
  else
    (s.modPort n fun p => { p with taken := ((h.counter, h.plane) :: p.taken).take 256 }).takeLine n r h

/-- The cases of 04 R131 on a header that has passed, in RUN. -/
def State.matchHead (s : State) (n : Nat) (r : RxPacket) (h : LineHead) : State :=
  let p := s.port n
  let e := p.entry (ledgerSlot h.seq)
  if h.triggered ≠ s.flag (Key.triggerMode n) then (s.bump (Key.modeMismatchCount n)).discardPacket n
  else if !h.triggered then s.takeFree n r h
  else if p.isLater h.seq then (s.bump (Key.ledgerFutureCount n)).discardPacket n
  else if !e.valid || e.seq ≠ h.seq || e.lost then (s.bump (Key.ledgerMissCount n)).discardPacket n
  else if bitAt e.planes h.plane then (s.bump (Key.duplicateLines n)).discardPacket n
  else
    let s := s.loseBefore n h.seq
    if s.passedAt e.worldPos then s.passLine n r h
    else s.takeLine n r { h with trigTime := e.trigTime, worldPos := e.worldPos, encoder := e.encoder }

/-- LINE_PACKET_HEADER (04 R112–R114, R120, R131, R136). -/
def execLinePacketHeader (port : Fin 16) (header : List Byte) (s : State) : Host.Outcome State Fault Refusal :=
  let n := port.val
  match (s.port n).rx with
  | none => .next s
  | some r =>
    if r.discard || r.matched.isSome then .next s
    else if fieldAt header 0 1 ≠ 0x01 then .next ((s.bump (Key.framingErrors n)).discardPacket n)
    else if !s.headOk n header then .next ((s.bump (Key.hdrCrcErrors n)).discardPacket n)
    else
      let h := parseHead header (s.num (Key.colourMode n))
      if r.length ≠ 36 + payloadBytes h.format h.pixels then .next ((s.bump (Key.framingErrors n)).discardPacket n)
      else
        let r := { r with headOk := true }
        let s := (s.modPort n fun p => { p with rx := some r }).bump (Key.linePackets n)
        if !s.inRun then .next ((s.bump (Key.linesOutsideRun n)).discardPacket n)
        else .next (s.matchHead n r h)

/-- The payload of the last packet in the buffer has arrived. -/
def Port.closeLast (p : Port) (payload : List Byte) (ok : Bool) : Port :=
  match p.buffer.getLast? with
  | none => p
  | some b => { p with buffer := p.buffer.dropLast ++ [{ b with payload := some payload, crcOk := ok }] }

/-- A plane of a matched trigger is seen, unless the entry has become LOST; the entry is MATCHED when all are (04 R131). -/
def State.seePlane (s : State) (n : Nat) (h : LineHead) : State :=
  let slot := ledgerSlot h.seq
  let e := (s.port n).entry slot
  let planes := setBit e.planes h.plane true
  let all : Bool := planes = pow2 (planesOf (s.num (Key.colourMode n))) - 1
  if e.valid && e.seq = h.seq && !e.lost then
    s.modPort n fun p => p.setEntry slot { e with planes := planes, matched := all }
  else s

/-- Short and long lines are counted (04 R121). -/
def State.countLength (s : State) (n pixels : Nat) : State :=
  let l := s.num (Key.camLineLength n)
  (s.bumpIf (pixels < l) (Key.shortLines n)).bumpIf (l < pixels) (Key.longLines n)

/-- A free-running plane whose PAY_CRC failed was not taken, so that a repeat of it is no duplicate (04 R120; 05 R146). -/
def State.forgetPlane (s : State) (n : Nat) (h : LineHead) : State :=
  s.modPort n fun p => { p with taken := p.taken.filter (· ≠ (h.counter, h.plane)) }

/-- The end of a packet whose header passed and that was discarded: whole, it is a valid packet for `CamSilentTimeout`, and
its plane is seen where it matched (04 R110, R131, R136). -/
def State.endDiscarded (s : State) (n : Nat) (r : RxPacket) (whole ok : Bool) : State :=
  if !r.headOk || !whole then s
  else
    let s := s.validPacket n ok
    match r.mark with
    | none => s
    | some h => if ok then s.seePlane n h else s.bump (Key.payloadCrcErrors n)

/-- LINE_PACKET_END (04 R111, R114, R120): the rest of the packet; a failing PAY_CRC leaves the plane unseen. -/
def execLinePacketEnd (port : Fin 16) (payload : List Byte) (payCrc : BitVec 32) (framingOk : Bool) (s : State) :
    Host.Outcome State Fault Refusal :=
  let n := port.val
  match (s.port n).rx with
  | none => .next s
  | some r =>
    let done := fun (s : State) => s.modPort n fun p => { p with rx := none }
    let whole : Bool := framingOk && payload.length + 36 = r.length
    let ok : Bool := crc32 payload = payCrc.toNat
    if r.discard && s.maint.switching.isNone then .next ((done s).endDiscarded n r whole ok)
    else if r.discard then .next (done s)
    else if s.maint.switching.isSome then .next (s.dropSwitching n)
    else
      match r.matched with
      | none => .next (s.framingError n)
      | some h =>
        if !whole then .next (s.framingError n)
        else
          let s := (done (s.modPort n fun p => p.closeLast payload ok)).validPacket n ok
          let s := s.countLength n h.pixels
          if ok then .next (if h.triggered then s.seePlane n h else s)
          else .next ((if h.triggered then s else s.forgetPlane n h).bump (Key.payloadCrcErrors n))

/-- The packet in reception ends as a packet of another kind: its credits return. -/
def State.endPacket (s : State) (n : Nat) : State :=
  (s.discardPacket n).modPort n fun p => { p with rx := none }

/-- STATUS_PACKET (04 R110, R115). -/
def execStatusPacket (port : Fin 16) (packet : List Byte) (s : State) : Host.Outcome State Fault Refusal :=
  let n := port.val
  match (s.port n).rx with
  | none => .next s
  | some r =>
    let s := s.endPacket n
    if r.discard then .next s
    else if packet.length ≠ 32 || r.length ≠ 32 || fieldAt packet 0 1 ≠ 0x02 then .next (s.bump (Key.framingErrors n))
    else if fieldAt packet 28 4 ≠ crc32 (packet.take 28) then .next (s.bump (Key.hdrCrcErrors n))
    else
      let st := fieldAt packet 2 2
      let was := (s.port n).camState
      let held := fieldAt packet 4 4
      let s := ((s.setNum (Key.camStatus n) st).setNum (Key.camLinesHeld n) held).setNum (Key.camLinesDropped n) (fieldAt packet 8 4)
      let s := s.setInt (Key.camTemperature n) (ofTwos 16 (fieldAt packet 24 2))
      let s := if bitAt st 4 && !bitAt was 4 then s.trouble 0x0014 n 1 st else s
      let s := if bitAt st 3 && !bitAt was 3 then s.trouble 0x0015 n 1 held else s
      let s := s.modPort n fun p => { p with camState := st, lastValid := s.now }
      let ps := (s.port n).state
      if !bitAt st 0 then .next s
      else if ps = psHandshake then .next ((s.setPortState n psActive).bump (Key.linkUpCount n))
      else if ps = psSilent then .next (s.setPortState n psActive)
      else .next s

/-! ## The tunnel (04 R119) -/

/-- The bytes of a tunnel packet. -/
def tunnelBytes (type tag : Nat) (payload : List Byte) : List Byte :=
  let b := leBytes 1 type ++ leBytes 1 tag ++ leBytes 2 payload.length ++ zeros 4 ++ payload ++ zeros ((4 - payload.length % 4) % 4)
  b ++ leBytes 4 (crc32 b)

/-- The check of a `TunnelRequest` (04 R119). -/
def State.tunnelFails (s : State) (n : Nat) : List Nat := failIf (s.num (Key.tunnelStatus n) = 1) resBusy

/-- The effect of a `TunnelRequest` (04 R119); without a running downlink it ends in error (log entry 23). -/
def State.tunnelEffect (s : State) (n : Nat) (payload : List Byte) : State :=
  let s := s.setBlob (Key.tunnelRequest n) payload
  if !s.linked n then s.setNum (Key.tunnelStatus n) 4
  else
    let tag := ((s.port n).tunTag + 1) % 256
    ((s.modPort n fun p => { p with tunTag := tag, tunSent := some s.now }).setNum (Key.tunnelStatus n) 1).send
      (.downlink n) (tunnelBytes 0x14 tag payload)

/-- TUNNEL_REQUEST (04 R119). -/
def execTunnelRequest (src : Source) (port : Fin 16) (payload : List Byte) (s : State) : Host.Outcome State Fault Refusal :=
  .next (s.attemptBlock src (Key.tunnelRequest port) payload (s.tunnelFails port.val) fun s => s.tunnelEffect port.val payload).state

/-- TUNNEL_RESPONSE (04 R119): the pending request's tag; a wrong tag is discarded. -/
def execTunnelResponse (port : Fin 16) (packet : List Byte) (s : State) : Host.Outcome State Fault Refusal :=
  let n := port.val
  match (s.port n).rx with
  | none => .next s
  | some r =>
    let s := s.endPacket n
    let len := fieldAt packet 2 2
    let size := 8 + (len + 3) / 4 * 4
    if r.discard then .next s
    else if fieldAt packet 0 1 ≠ 0x04 || len = 0 || 64 < len || packet.length ≠ size + 4 || r.length ≠ packet.length then
      .next (s.bump (Key.framingErrors n))
    else if fieldAt packet size 4 ≠ crc32 (packet.take size) then .next (s.bump (Key.hdrCrcErrors n))
    else
      let s := s.validPacket n true
      if s.num (Key.tunnelStatus n) = 1 && fieldAt packet 1 1 = (s.port n).tunTag then
        .next (((s.setBlob (Key.tunnelResponse n) (bytesAt packet 8 len)).setNum (Key.tunnelStatus n) 2).modPort n
          fun p => { p with tunSent := none })
      else .next s

/-- TUNNEL_TIMEOUT (04 R119). -/
def execTunnelTimeout (port : Fin 16) (s : State) : Host.Outcome State Fault Refusal :=
  let n := port.val
  match (s.port n).tunSent with
  | none => .next s
  | some t =>
    if s.num (Key.tunnelStatus n) = 1 && t + 1000000 * s.num (Key.tunnelTimeout n) ≤ s.now then
      .next ((s.setNum (Key.tunnelStatus n) 3).modPort n fun p => { p with tunSent := none })
    else .next s

end Sys2Proof.Machine
end

