-- ==== Sys2Proof/Machine/Pipeline.lean ====
section
/-! DEFINITION. The pixel pipelines: correction, colour and focus statistics (05), and their service of ports (04 R134). -/

namespace Sys2Proof.Machine

open Sys2Proof

/-! ## Measured quantities (03 R79) -/

/-- Places of the quantities: 2e and 2e + 1 samples and switches of pipeline e; then as named. -/
def qSamples (e : Nat) : Nat := 2 * e
/-- Switches of pipeline e. -/
def qSwitches (e : Nat) : Nat := 2 * e + 1
/-- Causeway's cycles. -/
def qCauseway : Nat := 16
/-- Reef's cycles per line. -/
def qReef : Nat := 17
/-- Atoll's cycles per line. -/
def qAtoll : Nat := 18
/-- Bytes written to S0 to S3 and chips. -/
def qBytes : Nat := 19
/-- Input bytes of compression engine e. -/
def qComp (e : Nat) : Nat := 20 + e
/-- Regions closed. -/
def qClosed : Nat := 28
/-- Label merges. -/
def qMerges : Nat := 29
/-- Emitter records. -/
def qEmitters : Nat := 30
/-- Statistics records. -/
def qStats : Nat := 31
/-- Focus zones. -/
def qZones : Nat := 32

/-- A quantity of strip k raised, while the strip is kept (03 R79). -/
def State.measure (s : State) (q n k : Nat) : State :=
  { s with sched := { s.sched with
      strips := s.sched.strips.map fun x => if x.index = k then { x with qty := tblMod x.qty 0 q (· + n) } else x } }

/-- The strip of a camera line at a position, in 2^−16 world line (05 R162); a line before every strip kept belongs to one that has
its summary. -/
def State.stripIndexAt (s : State) (pos16 : Int) : Nat :=
  let l := (pos16 / 65536).toNat
  match s.stripOf l, s.sched.strips with
  | some x, _ => x.index
  | none, x :: _ => if l < x.lineFirst then x.index - 1 else s.num Key.stripIndex
  | none, [] => s.num Key.stripIndex

/-- Whether strip k still awaits its summary. -/
def State.stripKept (s : State) (k : Nat) : Bool := s.sched.strips.any (·.index = k)

/-! ## Stages 1 to 3 (05 R141–R144) -/

/-- A saturated u16 (05 R144). -/
def sat16 (v : Int) : Nat := satU 16 v

/-- The samples of a payload (04 R114). -/
def unpack (f : Nat) (payload : List Byte) (n : Nat) : List Nat :=
  let b := formatBits f
  let group := match f with | 2 => 5 | 3 => 3 | 4 => 2 | _ => 1
  let per := 8 * group / b
  (((chunks group payload).flatMap fun g => (List.range per).map fun k => bitsAt (ofLe g) (b * k) b).take n)

/-- The method of a column in `DefectColumns` (05 R143); 3 where it is not listed. -/
def defectMethod (list : List Byte) (col : Nat) : Nat :=
  match (chunks 4 list).find? fun e => bitsAt (ofLe e) 16 2 ≠ 3 && bitsAt (ofLe e) 0 16 = col with
  | none => 3
  | some e => bitsAt (ofLe e) 16 2

/-- Stage 2 (05 R142): the replaced samples with their fill marks. -/
def replaceDefects (list : List Byte) (fill : Nat) (v : List Nat) (filled : List Nat) : List Nat × List Nat :=
  let n := v.length
  let good := fun c => c < n && filled.getD c 0 = 0 && defectMethod list c = 3
  let left := fun c => ((List.range c).reverse.find? good).map fun i => v.getD i 0
  let right := fun c => ((List.range (n - c - 1)).map (c + 1 + ·) |>.find? good).map fun i => v.getD i 0
  let out := (List.range n).map fun c =>
    let m := defectMethod list c
    if m = 3 || filled.getD c 0 ≠ 0 then (v.getD c 0, filled.getD c 0)
    else match left c, right c with
      | none, none => (fill, 2)
      | some a, none => (a, 0)
      | none, some b => (b, 0)
      | some a, some b => (if m = 0 then (a + b + 1) / 2 else if m = 1 then a else b, 0)
  (out.map (·.1), out.map (·.2))

/-- The dark offset and gain of a column of a plane in effect (05 R165). -/
def State.corr (s : State) (n q col : Nat) : Int × Nat :=
  let k := if col < 16384 then Key.corrTableLo n q else Key.corrTableHi n q
  match tblFind s.dict.blobs k with
  | none => (0, 16384)
  | some b => (ofTwos 16 (fieldAt b (4 * (col % 16384)) 2), fieldAt b (4 * (col % 16384) + 2) 2)

/-- Stage 3 on one sample (05 R144): the result and whether it saturated at 65,535. -/
def darkFlat (d : Int) (g v : Nat) : Nat × Bool :=
  let t := (v : Int) - d
  if t ≤ 0 then (0, false)
  else
    let r := divRound (t * g) 16384
    (sat16 r, 65535 < r)

/-- Stages 1 to 3 of a plane: samples, fill marks and saturated results (05 R139–R144, 04 R121). -/
def State.correct (s : State) (n q : Nat) (h : LineHead) (payload : List Byte) : List Nat × List Nat × Nat :=
  let len := s.num (Key.camLineLength n)
  let fill := s.num (Key.camFillValue n)
  let raw := ((unpack h.format payload (min h.pixels len)).map (· * pow2 (16 - formatBits h.format)))
  let v := raw ++ List.replicate (len - raw.length) fill
  let marks := List.replicate raw.length 0 ++ List.replicate (len - raw.length) 1
  let r := replaceDefects (s.blob (Key.defectColumns n)) fill v marks
  let out := (List.range len).map fun c =>
    let x := r.1.getD c 0
    if r.2.getD c 0 ≠ 0 then (x, false) else let e := s.corr n q c; darkFlat e.1 e.2 x
  (out.map (·.1), r.2, (out.filter (·.2)).length)

/-! ## Stages 5 to 9 (05 R149–R154) -/

/-- Stage 5 (05 R149): the colour planes of a bilinear line. -/
def demosaic (gFirst : Bool) (a b : List Nat) : List (List Nat) :=
  let n := a.length
  let at_ := fun (xs : List Nat) (x : Int) =>
    let i := if x < 0 then 1 else if (n : Int) ≤ x then n - 2 else x.toNat
    xs.getD i 0
  let px := fun (x : Nat) =>
    let l : Int := (x : Int) - 1
    let r : Int := (x : Int) + 1
    if (x % 2 = 0) ≠ gFirst then
      (at_ a x, (2 * at_ b x + at_ a l + at_ a r + 2) / 4, (at_ b l + at_ b r + 1) / 2)
    else ((at_ a l + at_ a r + 1) / 2, (2 * at_ a x + at_ b l + at_ b r + 2) / 4, at_ b x)
  let ps := (List.range n).map px
  [ps.map (·.1), ps.map (·.2.1), ps.map (·.2.2)]

/-- A result and whether it saturated. -/
def sat16c (v : Int) : Nat × Bool := (sat16 v, v < 0 || 65535 < v)

/-- Stage 6 (05 R150). -/
def whiteBalance (pp : List Byte) (q v : Nat) : Nat × Bool := sat16c (divRound (v * fieldAt pp (8 + 2 * q) 2) 4096)

/-- Stage 7 (05 R151). -/
def matrixRow (pp : List Byte) (i : Nat) (c : List Nat) : Nat × Bool :=
  let m := fun j => ofTwos 16 (fieldAt pp (16 + 2 * (3 * i + j)) 2)
  let sum := (List.range 3).foldl (fun (acc : Int) j => acc + m j * c.getD j 0) 0
  sat16c (divRound sum 4096 + ofTwos 32 (fieldAt pp (36 + 4 * i) 4))

/-- Stage 8 (05 R152). -/
def tone (lut : List Byte) (v : Nat) : Nat :=
  let i := v / 16
  let j := if i < 4095 then i + 1 else 4095
  let a := (fieldAt lut (2 * i) 2 : Int)
  let b := (fieldAt lut (2 * j) 2 : Int)
  (a + divRound ((b - a) * (v % 16 : Nat)) 16).toNat

/-- Stage 9 (05 R154). -/
def luminance (pp : List Byte) (c : List Nat) : Nat × Bool :=
  sat16c (divRound ((List.range 3).foldl (fun (acc : Int) q => acc + fieldAt pp (48 + 2 * q) 2 * c.getD q 0) 0) 4096)

/-- What stages 6 to 9 make of one pixel: C0 to C2, Y_L, and whether stages 6, 7 and 9 saturated how often. -/
structure PixelOut where
  c     : List Nat
  y     : Nat
  satW  : Nat
  satM  : Nat
  satL  : Nat

/-- Stages 6 to 9 of a colour pixel (05 R150–R154). -/
def colourPixel (pp : List Byte) (luts : List (List Byte)) (v : List Nat) : PixelOut :=
  let fl := fieldAt pp 0 2
  let w := (List.range 3).map fun q => whiteBalance pp q (v.getD q 0)
  let m := (List.range 3).map fun i => matrixRow pp i (w.map (·.1))
  let pre := m.map (·.1)
  let post := if bitAt fl 1 then (List.range 3).map fun q => tone (luts.getD q []) (pre.getD q 0) else pre
  let y := luminance pp (if bitAt fl 2 then pre else post)
  ⟨post, y.1, (w.filter (·.2)).length, (m.filter (·.2)).length, bit y.2⟩

/-- Stages 6 to 9 of a mono pixel (05 R139, R154). -/
def monoPixel (pp : List Byte) (luts : List (List Byte)) (v : Nat) : PixelOut :=
  let w := whiteBalance pp 0 v
  let y := if bitAt (fieldAt pp 0 2) 1 then tone (luts.getD 0 []) w.1 else w.1
  ⟨[y], y, bit w.2, 0, 0⟩

/-! ## Focus statistics (05 R160–R162) -/

/-- One zone with the pairs whose left column lies in it (05 R161). -/
def Zone.accumulate (z : Zone) (y : List Nat) (ex : List Bool) (prev : Option (List Nat × List Bool)) (lo hi : Nat) : Zone :=
  let n := y.length
  let ok := fun c => c < n && !(ex.getD c true)
  let diff := fun a b => ((y.getD b 0 : Int) - y.getD a 0).natAbs
  (List.range (hi - lo)).foldl (fun z i =>
    let x := lo + i
    let h := ok x && ok (x + 1)
    let b := ok x && ok (x + 2)
    let d := diff x (x + 1)
    let v := match prev with
      | none => 0
      | some p => if ok x && !(p.2.getD x true) then ((y.getD x 0 : Int) - p.1.getD x 0).natAbs else 0
    { gradH2 := z.gradH2 + (if h then d * d else 0), brenner := z.brenner + (if b then diff x (x + 2) * diff x (x + 2) else 0)
      gradV2 := z.gradV2 + v * v, gradMax := if h then max z.gradMax d else z.gradMax
      excluded := z.excluded + bit (!ok x) }) z

/-- The focus accumulators of a port with one camera line more (05 R160–R163); those of a strip that has its summary are gone. -/
def State.focusLine (s : State) (n pipe : Nat) (pos16 : Int) (y : List Nat) (filled : List Nat) : State :=
  let list := s.blob (Key.defectColumns n)
  let ex := (List.range y.length).map fun c => filled.getD c 0 ≠ 0 || defectMethod list c ≠ 3
  let w := (y.length + 63) / 64
  let k := s.stripIndexAt pos16
  s.modPort n fun p =>
    let f := tblGet p.focus {} k
    let zones := (List.range 64).foldl (fun zs z =>
      let lo := min (z * w) y.length
      let hi := min ((z + 1) * w) y.length
      tblMod zs {} z fun (x : Zone) => x.accumulate y ex p.prevLuma lo hi) f.zones
    { p with
      focus := if !s.stripKept k then p.focus else tblPut p.focus {} k { f with
        zones := zones, lines := f.lines + 1, linesV := f.linesV + bit p.prevLuma.isSome, fill := f.fill || filled.any (· ≠ 0)
        pipe := some pipe, migrated := f.migrated || (f.pipe.isSome && f.pipe ≠ some pipe) }
      prevLuma := some (y, ex) }

/-- A line of a strip was not formed (05 R163). -/
def State.focusLost (s : State) (n : Nat) (pos16 : Int) : State :=
  let k := s.stripIndexAt pos16
  if !s.stripKept k then s
  else s.modPort n fun p => { p with focus := tblMod p.focus {} k fun f => { f with lost := true } }

/-! ## Lines formed and not formed (05 R145–R148, R154) -/

/-- A missing line dated halfway between its neighbours takes its place as the next line forms (05 R146). -/
def Port.resolveHalf (p : Port) (pos : Int) : Port :=
  { p with
    missing := p.missing.map fun m => if m.half then { m with half := false, pos := (p.lastPos.getD pos + pos) / 2 } else m
    lastPos := some pos }

/-- A camera line is formed from three planes, or one for mono: stages 5 to 10, and to Causeway (05 R139, R154). -/
def State.formLine (s : State) (n p : Nat) (h : LineHead) (planes : List Plane) (trunc : Bool) : State :=
  let pp := s.blob (Key.pixelParams n)
  let luts := (List.range 3).map fun q => s.blob (Key.toneLut n q)
  let mode := s.num (Key.colourMode n)
  let fill := s.num (Key.camFillValue n)
  let samples := planes.map (·.samples)
  let rows := if mode = 2 then demosaic (bitAt (fieldAt pp 0 2) 4) (samples.getD 0 []) (samples.getD 1 []) else samples
  let len := s.num (Key.camLineLength n)
  let filled := (List.range len).map fun c => (planes.map fun x => x.filled.getD c 0).foldl max 0
  let out := (List.range len).map fun c =>
    if filled.getD c 0 ≠ 0 then (⟨List.replicate (planesOf mode) fill, fill, 0, 0, 0⟩ : PixelOut)
    else if mode = 0 then monoPixel pp luts ((rows.getD 0 []).getD c 0)
    else colourPixel pp luts (rows.map fun r => r.getD c 0)
  let y := out.map (·.y)
  let chans := if mode = 0 then [y] else ((List.range 3).map fun i => out.map fun o => o.c.getD i fill) ++ [y]
  let s := ((s.add (Key.satWhiteBalance p) (sumNat (out.map (·.satW)))).add (Key.satMatrix p) (sumNat (out.map (·.satM)))).add
    (Key.satLuma p) (sumNat (out.map (·.satL)))
  let s := s.modPort n fun x => x.resolveHalf h.worldPos
  let s := s.modPort n fun x => { x with
    output := x.output ++ [{ head := h, planes := chans, filled := filled, trunc := trunc, epoch := s.num (Key.portEpoch n) }] }
  s.focusLine n p h.worldPos y filled

/-- The colour lines of a port that can no longer be complete, in a free-running mode: an older line that lacks plane q
once plane q of `counter` has come (05 R146). -/
def State.reportPassed (s : State) (n q counter : Nat) : State :=
  let keys := ((s.port n).held.map (s.lineKey n)).eraseDups.filter fun key =>
    let need := (key + pow2 32 + s.delay n q - s.refDelay n) % pow2 32
    ofTwos 32 (need + pow2 32 - counter) < 0 && !((s.port n).held.any fun x => x.q = q && s.lineKey n x = key)
  keys.foldl (fun s k => s.reportFree n k) s

/-- The trigger whose plane q the colour line of reference t takes (05 R145). -/
def State.planeSeq (s : State) (n q t : Nat) : Nat := (t + pow2 32 + s.delay n q - s.refDelay n) % pow2 32

/-- Whether plane q of the colour line of reference t can no longer come: its trigger was issued, and is lost or from before the
entry to RUN (05 R148). -/
def State.planeGone (s : State) (n q t : Nat) : Bool :=
  let p := s.port n
  let seq := s.planeSeq n q t
  let e := p.entry (ledgerSlot seq)
  !(p.held.any fun y => y.q = q && s.lineKey n y = t) && !p.isLater seq && (!e.valid || e.seq ≠ seq || e.lost)

/-- A plane joins the planes held; the colour line forms when its last plane has come, and is reported where one can no longer
come (05 R145, R146, R148, R149). -/
def State.joinPlane (s : State) (n p : Nat) (x : Plane) : State :=
  let need := planesOf (s.num (Key.colourMode n))
  let s := if x.head.triggered then s else s.reportPassed n x.q x.head.counter
  let key := s.lineKey n x
  if need = 1 then s.formLine n p x.head [x] x.trunc
  else if x.head.triggered && (s.port n).closed.contains key then s.bump (Key.planesDiscarded p)
  else
    let s := s.modPort n fun y => { y with held := y.held ++ [x] }
    let parts := (List.range need).filterMap fun q => (s.port n).held.find? fun y => y.q = q && s.lineKey n y = key
    if parts.length < need then
      if x.head.triggered && (List.range need).any (s.planeGone n · key) then s.reportLine n key else s
    else
      let ref := if need = 3 then fieldAt (s.blob (Key.pixelParams n)) 2 1 else 0
      let h := (parts.getD ref x).head
      let e := (s.port n).entry (ledgerSlot key)
      if h.triggered && !(e.valid && e.seq = key) then s.reportLine n key
      else
        let s := s.modPort n fun y => { y with held := y.held.filter fun z => s.lineKey n z ≠ key }
        let s := if h.triggered then s.modPort n fun y => y.close key else s
        s.formLine n p h parts (parts.any (·.trunc))

/-! ## Serving the ports (04 R134, R135) -/

/-- Whether pipeline p serves port n now: placed on it, enabled, not loading tables, not held by Causeway (05 R156,
06 R182). -/
def State.serves (s : State) (p n : Nat) : Bool :=
  s.flag (Key.portEnable n) && s.num (Key.portPlacement n) = p && !(s.port n).loading && !(tblGet s.cause.geo {} n).spillHold
    && !(s.port n).buffer.isEmpty

/-- The port whose packet pipeline p takes next (04 R134). -/
def State.nextPort (s : State) (p : Nat) : Option Nat :=
  let x := s.pipe p
  if s.serves p x.lastPort && 0 < x.turnCount && x.turnCount < s.num (Key.pipeWeight x.lastPort) then some x.lastPort
  else ((List.range 16).map fun i => (x.lastPort + 1 + i) % 16).find? (s.serves p)

/-- Whether a plane's output is discarded: a bad PAY_CRC, or a lost or cleared ledger entry (04 R120, R132). -/
def State.planeLost (s : State) (n : Nat) (b : LinePacket) : Bool :=
  let e := (s.port n).entry (ledgerSlot b.head.seq)
  !b.crcOk || (b.head.triggered && (e.lost || !e.valid || e.seq ≠ b.head.seq))

/-- Pipeline p takes the packet b of port n (04 R134; 05 R139–R141). -/
def State.processPlane (s : State) (p n : Nat) (b : LinePacket) (payload : List Byte) : State :=
  let len := s.num (Key.camLineLength n)
  let x := s.pipe p
  let switch : Bool := x.lastPort ≠ n && 0 < x.turnCount
  let s := s.modPort n fun y => { y with buffer := y.buffer.drop 1 }
  let s := s.freeCredits n (creditsOf b.length) true
  let s := s.modPipe p fun y => { y with lastPort := n, turnCount := if y.lastPort = n then y.turnCount + 1 else 1 }
  let k := s.stripIndexAt b.head.worldPos
  let s := (s.setNum (Key.pipeSamples p) (s.num (Key.pipeSamples p) + len)).measure (qSamples p) len k
  let s := { s with sched := { s.sched with arrived := s.sched.arrived + len } }
  let s := if switch then (s.bump (Key.pipeSwitches p)).measure (qSwitches p) 1 k else s
  if s.planeLost n b then s.bump (Key.planesDiscarded p)
  else
    let q := b.head.plane
    let r := s.correct n q b.head payload
    let s := s.add (Key.satDarkFlat p) r.2.2
    s.joinPlane n p { head := b.head, q := q, samples := r.1, filled := r.2.1, trunc := len < b.head.pixels, arrived := s.now }

/-- PLANE_PROCESS (04 R134, 05 R140): pipeline p takes its next line packet, once its last byte has come. -/
def execPlaneProcess (p : Fin 8) (s : State) : Host.Outcome State Fault Refusal :=
  if !s.flag (Key.pipelineInService p) then .next s
  else match s.nextPort p.val with
    | none => .next s
    | some n => match (s.port n).buffer with
      | [] => .next s
      | b :: _ => match b.payload with
        | none => .next s
        | some d => .next (s.processPlane p.val n b d)

/-- PLANE_MISSING_TIMEOUT (05 R146): `TrigLineTimeout` after the partner planes of a free-running line arrived. -/
def execPlaneMissingTimeout (port : Fin 16) (s : State) : Host.Outcome State Fault Refusal :=
  let n := port.val
  let late := (s.port n).held.filter fun x =>
    !x.head.triggered && x.arrived + 1000 * s.num (Key.trigLineTimeout n) ≤ s.now
  .next ((late.map (s.lineKey n)).eraseDups.foldl (fun s k => s.reportFree n k) s)

/-! ## Table loads (05 R156) -/

/-- Port n's tables begin to load (03 R93, 05 R156). -/
def State.startLoad (s : State) (n : Nat) : State :=
  s.modPort n fun p => if p.loading then p else { p with loading := true, loadStart := s.now }

/-- TABLE_LOAD_COMPLETE (05 R156). -/
def execTableLoadComplete (port : Fin 16) (s : State) : Host.Outcome State Fault Refusal :=
  let n := port.val
  let x := s.port n
  if !x.loading then .next s
  else
    let p := s.num (Key.portPlacement n) % 8
    let t := min 50000 (s.now - x.loadStart)
    let s := ((s.bump (Key.tableLoadCount p)).setNum (Key.tableLoadLast p) t).add (Key.tableLoadWait p) t
    .next (s.modPort n fun y => { y with loading := false })

end Sys2Proof.Machine
end

