-- ==== Sys2Proof/Machine/Causeway.lean ====
section
/-! DEFINITION. Causeway (06): camera lines across and along the web, gaps and spans, merging, edges, world lines. -/

namespace Sys2Proof.Machine

open Sys2Proof

/-! ## Settings of a strip (02 R43, 06 R196) -/

/-- The state as work on strip k sees its settings: those that later ticks changed read their old values. -/
def State.settingsFor (s : State) (k : Nat) : State :=
  match s.sched.strips.find? (·.index = k) with
  | none => s
  | some x =>
    { s with dict := { s.dict with
        vals := x.old.foldl (fun t (e : Nat × Slot) => tblPut t (keyDefault e.1) e.1 e.2) s.dict.vals
        blobs := x.oldBlobs.foldl (fun t (e : Nat × List Byte) => tblSet t e.1 e.2) s.dict.blobs } }

/-- A strip changed. -/
def State.modStrip (s : State) (k : Nat) (f : Strip → Strip) : State :=
  { s with sched := { s.sched with strips := s.sched.strips.map fun x => if x.index = k then f x else x } }

/-- The index of the strip that holds a world line; the strip being formed where none kept holds it. -/
def State.stripAt (s : State) (l : Nat) : Nat :=
  match s.stripOf l with
  | some x => x.index
  | none => s.num Key.stripIndex

/-! ## Ports on the world grid (06 R168, R171, R188) -/

/-- One world line in the unit of positions. -/
def lineUnit : Int := 65536

/-- Causeway's state of a port. -/
def State.geo (s : State) (n : Nat) : Geo := tblGet s.cause.geo {} n

/-- Causeway's state of a port changed. -/
def State.modGeo (s : State) (n : Nat) (f : Geo → Geo) : State :=
  { s with cause := { s.cause with geo := tblMod s.cause.geo {} n f } }

/-- Insertion by a key. -/
def insertBy {α : Type} (key : α → Nat) (x : α) : List α → List α
  | [] => [x]
  | y :: ys => if key x < key y then x :: y :: ys else y :: insertBy key x ys

/-- A list sorted by a key, equal keys in their order. -/
def sortBy {α : Type} (key : α → Nat) (xs : List α) : List α := xs.foldl (fun acc x => insertBy key x acc) []

/-- The enabled ports of the part. -/
def State.enabledPorts (s : State) : List Nat := (List.range s.portCount).filter fun n => s.flag (Key.portEnable n)

/-- The enabled ports in `CovFirst` order (06 R188). -/
def State.orderedPorts (s : State) : List Nat := sortBy (fun n => s.num (Key.covFirst n)) s.enabledPorts

/-- Whether port n covers column x (06 R171). -/
def State.covers (s : State) (n x : Nat) : Bool := s.num (Key.covFirst n) ≤ x && x ≤ s.num (Key.covLast n)

/-- The columns of port n, W_n (06 R181). -/
def State.portWidth (s : State) (n : Nat) : Nat := s.num (Key.covLast n) + 1 - s.num (Key.covFirst n)

/-- The neighbour pairs, in `CovFirst` order (06 R188, R197). -/
def State.neighbours (s : State) : List (Nat × Nat) := s.orderedPorts.zip (s.orderedPorts.drop 1)

/-- The neighbour pairs with an overlap, in `CovFirst` order (06 R188, R191). -/
def State.pairs (s : State) : List (Nat × Nat) :=
  s.neighbours.filter fun p => s.num (Key.covFirst p.2) ≤ s.num (Key.covLast p.1)

/-- The seam column of a pair (06 R188). -/
def State.seam (s : State) (a b : Nat) : Nat :=
  let v := s.num (Key.seamColumn a)
  if v = 0 then (s.num (Key.covFirst b) + s.num (Key.covLast a) + 1) / 2 else v

/-! ## Across the web (06 R172, R173) -/

/-- The camera coordinate of column x in 2^−16 pixel (06 R172). -/
def knotCoord (knots : List Byte) (cov x : Nat) : Int :=
  let j := (x - cov) / 64
  let k := fun j => (fieldAt knots (4 * j) 4 : Int)
  if (x - cov) % 64 = 0 then k j else k j + divRound ((k (j + 1) - k j) * ((x - cov) % 64 : Nat)) 64

/-- One sample across the web, with its FILL mark (06 R173). -/
def crossSample (kernel : Nat) (u : Int) (row : List Nat) (filled : List Nat) : Nat × Bool :=
  let n := row.length
  let ph := kernelPhase u
  let coefs := kernelRow kernel ph.2
  let taps := (List.range coefs.length).map fun (j : Nat) =>
    (clampInt 0 ((n : Int) - 1) (ph.1 + kernelMin kernel + j)).toNat
  let out := u / 65536 < 0 || (n : Int) ≤ u / 65536
  let touched := (taps.zip coefs).any fun t => (filled.getD t.1 0 = 1 && t.2 ≠ 0) || filled.getD t.1 0 = 2
  (kernelSum coefs (taps.map fun i => row.getD i 0), out || touched)

/-- A camera line across the web: the world samples of each plane, and the FILL marks (06 R173, R180). -/
def State.crossLine (s : State) (n : Nat) (planes : List (List Nat)) (filled : List Nat) : List (List Nat) × List Bool :=
  let knots := s.blob (Key.knotMap n)
  let cov := s.num (Key.covFirst n)
  let kernel := s.num (Key.crossKernel n)
  let us := (List.range (s.portWidth n)).map fun i => knotCoord knots cov (cov + i)
  (planes.map fun row => us.map fun u => (crossSample kernel u row filled).1,
   us.map fun u => (crossSample kernel u (planes.getD 0 []) filled).2)

/-! ## Along the web: positions (06 R176–R178) -/

/-- The velocity at a counter value, interpolated from the 1 MHz output (06 R176). -/
def State.velocityBetween (s : State) (c t : Nat) : Int :=
  let a := t / 1000 * 1000
  let va := s.velocityAt c a
  va + divRound ((s.velocityAt c (a + 1000) - va) * (t - a : Nat)) 1000

/-- The exposure centre of a line after its `TRIG_TIME`, in half ns (06 R176). -/
def State.centreDelay (s : State) (n : Nat) (h : LineHead) : Nat := 2 * (96 + s.num (Key.trigOffset n)) + h.exposure

/-- A camera line's position without `AlongOffset`, and its exposure centre in half ns (06 R176, R177, R194). -/
def State.linePosition (s : State) (n : Nat) (h : LineHead) : Int × Int :=
  let centred := s.flag Key.expCentreEn
  if h.triggered then
    let dt := s.centreDelay n h
    let v := s.velocityBetween h.encoder (s.net.w.counterAt h.trigTime)
    let delta := if centred then divRound (v * dt * 65536) (pow2 33 * s.num Key.pitchY) else 0
    (h.worldPos + delta, 2 * h.trigTime + dt)
  else
    let tc : Int := 2 * h.trigTime + (if centred then h.exposure else 0)
    (s.webPos16 (s.net.w.counterAt (tc / 2)), 2 * h.trigTime + h.exposure)

/-- The shift of each plane Causeway uses, in 2^−16 line (06 R178). -/
def State.planeShifts (s : State) (n : Nat) : List Int :=
  let wide : Bool := s.num Key.worldPlanes = 4
  if s.num (Key.colourMode n) ≠ 1 then List.replicate (if wide then 4 else 1) 0
  else
    let pp := s.blob (Key.pixelParams n)
    let rho := (List.range 3).map fun q => s.int (Key.planeResidual n q) * 16
    let m := fun i q => (ofTwos 16 (fieldAt pp (16 + 2 * (3 * i + q)) 2)).natAbs
    let mean := fun (w : Nat → Nat) (x : Nat → Int) =>
      divRound ((List.range 3).foldl (fun (acc : Int) q => acc + w q * x q) 0) (sumNat ((List.range 3).map w))
    let d := (List.range 3).map fun i => mean (m i) fun q => rho.getD q 0
    let dy := mean (fun q => fieldAt pp (48 + 2 * q) 2) fun q => d.getD q 0
    if wide then d ++ [dy] else [dy]

/-! ## Readiness (06 R181) -/

/-- The taps along the web (06 R198). -/
def State.taps (s : State) : Nat := s.num Key.alongTaps

/-- Whether a span holds world line l. -/
def Span.holds (x : Span) (l : Nat) : Bool := x.first ≤ l && (match x.stop with | none => true | some e => l < e)

/-- Whether a port is in a span that has no end yet. -/
def Geo.isOpen (g : Geo) : Bool := g.spans.any fun x => x.stop.isNone

/-- The segment of a port's used lines that world line l reads: spans that end beyond l come before the newer ones (06 R180,
R185). -/
def Geo.segAt (g : Geo) (l : Nat) : Nat :=
  g.seg - (g.spans.filter fun x => match x.stop with | none => false | some e => decide (l < e)).length

/-- The used lines of a port that world line l may read. -/
def Geo.linesAt (g : Geo) (l : Nat) : List UsedLine := g.used.filter fun u => u.seg = g.segAt l

/-- The settings of the strip that holds the lowest world line not yet formed (06 R196). -/
def State.lineSettings (s : State) : State := s.settingsFor (s.stripAt s.cause.nextLine)

/-- The first world line at which a used line b, after the used line a, is passed (06 R180): L lies at b or beyond it, or so near
that φ rounds to 64 and the pair moves on by one line. -/
def passedFrom (a : Option UsedLine) (b : UsedLine) (shift : Int) : Nat :=
  match a with
  | none => ((b.y + shift + lineUnit - 1) / lineUnit).toNat
  | some a => ((128 * (a.y + shift) + 127 * (b.y - a.y) + 128 * lineUnit - 1) / (128 * lineUnit)).toNat

/-- The first world line for which a port is not ready (06 R181): it needs line b, or for four taps the line after b, past
every span that has ended. -/
def State.firstUnready (s : State) (n : Nat) : Nat :=
  let v := s.lineSettings
  let g := s.geo n
  let stops := g.spans.foldl (fun m x => max m (x.stop.getD 0)) 0
  let back := if kernelTaps (v.num Key.alongKernel) = 4 then 1 else 0
  match (g.used.filter fun u => u.seg = g.seg).reverse.drop back with
  | [] => stops
  | b :: rest =>
    let shifts := v.planeShifts n
    max stops (passedFrom rest.head? b (shifts.foldl min (shifts.headD 0)))

/-- Whether port n is in a span at world line l (06 R184, R185). -/
def State.inSpan (s : State) (n l : Nat) : Bool := (s.geo n).spans.any fun x => x.holds l

/-- Whether port n lets world line l be formed. -/
def State.portSettled (s : State) (n l : Nat) : Bool := s.inSpan n l || l < s.firstUnready n

/-- Whether port n alone holds the lowest world line up (06 R184). -/
def State.awaited (s : State) (n : Nat) : Bool :=
  let l := s.cause.nextLine
  !s.portSettled n l && s.enabledPorts.all fun m => m = n || s.portSettled m l

/-- The wait of every port brought up to date (06 R184). -/
def State.settleWaits (s : State) : State :=
  s.enabledPorts.foldl (fun s n =>
    let w := s.inRun && s.awaited n
    s.modGeo n fun g => { g with waitSince := if w then some (g.waitSince.getD s.now) else none }) s

/-! ## Spans (06 R184, R185) -/

/-- The masked columns of port n in a span at line l: those that no neighbour covers alone (06 R185, R189). -/
def State.spanColumns (s : State) (n l : Nat) : Nat × Nat :=
  let cols := ((List.range (s.portWidth n)).map (s.num (Key.covFirst n) + ·)).filter fun x =>
    !(s.enabledPorts.any fun m => m ≠ n && s.covers m x && !s.inSpan m l)
  (cols.headD 0, cols.length)

/-- Where the part of a span before line l ends. -/
def Span.stopBy (x : Span) (l : Nat) : Nat := match x.stop with | none => l | some e => min e l

/-- Whether a span goes on at line l. -/
def Span.goesOn (x : Span) (l : Nat) : Bool := match x.stop with | none => true | some e => decide (l < e)

/-- What Reef hears of port n's span x before line l, beyond what it has heard (06 R185; 07 R219). -/
def State.spanReport (s : State) (n l : Nat) (x : Span) : List SpanReport :=
  if x.reported < x.stopBy l then
    let c := s.spanColumns n x.reported
    [{ port := n, cause := x.cause, first := x.reported, count := x.stopBy l - x.reported, colFirst := c.1, colCount := c.2,
       cont := x.goesOn l }]
  else []

/-- The parts of port n's spans before line l that have not been reported go to Reef; spans that end there are over (06
R185). -/
def State.reportSpan (s : State) (n l : Nat) : State :=
  let rs := (s.geo n).spans.flatMap (s.spanReport n l)
  let s := { s with cause := { s.cause with spans := s.cause.spans ++ rs } }
  s.modGeo n fun g => { g with
    spans := (g.spans.filter (·.goesOn l)).map fun x => { x with reported := max x.reported (x.stopBy l) } }

/-- Port n enters a span at the lowest world line not yet formed for which it is not ready (06 R184). -/
def State.enterSpan (s : State) (n cause : Nat) : State :=
  let first := max s.cause.nextLine (s.firstUnready n)
  (s.modGeo n fun g => { g with spans := g.spans ++ [⟨first, cause, first, none⟩], missing := [], waitSince := none }).bump
    Key.spanCount

/-! ## Spill (06 R181, R182, R184) -/

/-- The spill depth of a port in lines (06 R181). -/
def State.spillDepth (s : State) (n : Nat) : Nat := 4194304 / (s.portWidth n * s.num Key.worldPlanes * 2)

/-- The lines of a port that wait in its spill area (06 R181). -/
def State.spilled (s : State) (n : Nat) : Nat := (s.geo n).used.length - s.taps

/-- Whether Reef or Atoll takes no world lines (06 R182). -/
def State.recordHold (s : State) : Bool := s.reef.stalled.isSome || s.atoll.stalled.isSome

/-- `RecordHoldTime` as the hold of pipelines begins and ends (06 R182). -/
def State.settleHold (s : State) : State :=
  let held := s.cause.geo.any fun (e : Nat × Geo) => e.2.spillHold
  match s.cause.holdSince with
  | none => if held then { s with cause := { s.cause with holdSince := some s.now } } else s
  | some t => if held then s else ({ s with cause := { s.cause with holdSince := none } }).add Key.recordHoldTime (s.now - t)

/-- Port n's spill after a line has joined it (06 R181, R182, R184). -/
def State.settleSpill (s : State) (n : Nat) : State :=
  let used := s.spilled n
  let bytes := used * s.portWidth n * s.num Key.worldPlanes * 2
  let s := if s.num (Key.portSpillPeak n) < bytes then s.setNum (Key.portSpillPeak n) (min bytes 4194304) else s
  if used < s.spillDepth n then s
  else if s.recordHold then (s.modGeo n fun g => { g with spillHold := true }).settleHold
  else
    (s.enabledPorts.filter fun m => m ≠ n && !s.portSettled m s.cause.nextLine).foldl
      (fun s m => (s.bump Key.spillFullCount).enterSpan m 3) s

/-! ## Lines in (06 R176–R185) -/

/-- The port's used lines with one more, of the date d (06 R179, R183, R194). -/
def State.pushLine (s : State) (n : Nat) (u : UsedLine) (d : Int × Int) : State :=
  ((s.modGeo n fun g => { g with
      used := g.used ++ [{ u with seg := g.seg }], lastY := some u.y, missing := g.missing.filter fun m => u.y < m
      dates := (d :: g.dates).take 4096 }).bump (Key.portLinesUsed n)).settleSpill n

/-- The first good line of a port in a span: it ends the span at L_e; where L_e lies beyond ⌈y⌉ the line is late itself (06
R185). -/
def State.endSpan (s : State) (n : Nat) (u : UsedLine) (d : Int × Int) : State :=
  let l := s.cause.nextLine
  let up := ((u.y + lineUnit - 1) / lineUnit).toNat
  let close := fun (x : Span) => { x with stop := some (x.stop.getD (max (max up l) x.first)) }
  let s := s.modGeo n fun g => { g with spans := g.spans.map close, seg := g.seg + 1, resume := max up l }
  let over_ : Bool := (s.geo n).spans.any fun x => x.stop = some l
  let s := if over_ then s.reportSpan n l else s
  if up < l then s.bump Key.lateLines else s.pushLine n u d

/-- A camera line at its position, of the date d (06 R179, R183–R185). -/
def State.placeLine (s : State) (n : Nat) (u : UsedLine) (d : Int × Int) : State :=
  let g := s.geo n
  if (match g.lastY with | none => false | some y => u.y ≤ y) || u.y < 0 then s.bump Key.backwardLines
  else if g.isOpen then s.endSpan n u d
  else if u.y < lineUnit * g.resume then s.bump Key.lateLines
  else
    match g.lastY with
    | none => s.pushLine n u d
    | some a =>
      if g.missing.any fun m => a < m && m < u.y then
        if u.y - a ≤ 2 * lineUnit then
          ((s.modGeo n fun g => { g with gaps := g.gaps ++ [(a, u.y)] }).bump Key.gapSynthCount).pushLine n u d
        else (s.enterSpan n 1).endSpan n u d
      else s.pushLine n u d

/-- CAMERA_LINE_ARRIVAL (06 R173, R176–R179): the oldest finished line of the port. -/
def execCameraLineArrival (port : Fin 16) (s : State) : Host.Outcome State Fault Refusal :=
  let n := port.val
  match (s.port n).output with
  | [] => .next s
  | x :: rest =>
    if (s.geo n).spillHold then .next s
    else
      let s := s.modPort n fun p => { p with output := rest }
      let pos := s.linePosition n x.head
      let planes := if s.num Key.worldPlanes = 4 then x.planes else x.planes.drop (x.planes.length - 1)
      let c := s.crossLine n planes x.filled
      let s := s.bumpIf x.trunc Key.truncLinesUsed
      let u : UsedLine :=
        { y := pos.1 - s.int (Key.alongOffset n), gain := s.num (Key.portGainNow n), planes := c.1, filled := c.2 }
      .next (s.placeLine n u pos).settleWaits

/-- MISSING_LINE_REPORT (06 R183, R184): the oldest report of the port whose position is known. -/
def execMissingLineReport (port : Fin 16) (s : State) : Host.Outcome State Fault Refusal :=
  let n := port.val
  match (s.port n).missing with
  | [] => .next s
  | m :: rest =>
    if m.half then .next s
    else
      let s := (s.modPort n fun p => { p with missing := rest }).focusLost n m.pos
      let g := s.geo n
      if g.isOpen then .next s
      else match g.lastY with
        | none => .next (s.modGeo n fun g => { g with missing := g.missing ++ [m.pos] })
        | some y =>
          if y + 2 * lineUnit ≤ m.pos then .next (s.enterSpan n 1).settleWaits
          else .next (s.modGeo n fun g => { g with missing := g.missing ++ [m.pos] })

/-- PORT_WAIT_EXPIRED (06 R184): `PortWaitMax` since the port alone held the lowest world line up. -/
def execPortWaitExpired (port : Fin 16) (s : State) : Host.Outcome State Fault Refusal :=
  let n := port.val
  match (s.geo n).waitSince with
  | none => .next s
  | some t =>
    if t + 1000 * s.lineSettings.num Key.portWaitMax ≤ s.now && s.awaited n then
      .next ((s.bump Key.portWaitExpired).enterSpan n 2).settleWaits
    else .next s

/-! ## Along the web: samples (06 R180) -/

/-- The taps of one plane of a port at world line l: coefficients with the used lines read, and the GAP mark. -/
structure AlongTaps where
  coefs : List Int
  lines : List UsedLine
  gap   : Bool

/-- The taps of a plane of a port at world line l, with the plane's shift (06 R180, R183). -/
def alongTaps (g : Geo) (kernel : Nat) (shift : Int) (l : Nat) : AlongTaps :=
  let us := g.linesAt l
  let target : Int := l * lineUnit - shift
  let below := (us.filter fun (u : UsedLine) => decide (u.y ≤ target)).length
  let last := us.length - 1
  let a0 : Int := (below : Int) - 1
  let ya := (us.getD (below - 1) {}).y
  let yb := (us.getD below {}).y
  let ph0 := if a0 < 0 || us.length ≤ below then 0 else (divRound (64 * (target - ya)) (yb - ya).toNat).toNat
  let a : Int := if ph0 = 64 then a0 + 1 else a0
  let ph := if ph0 = 64 then 0 else ph0
  let coefs := kernelRow kernel ph
  let raw := (List.range coefs.length).map fun (j : Nat) => a + kernelMin kernel + j
  let idx := raw.map fun j => (clampInt 0 last j).toNat
  let outside := raw.any fun j => (j < 0 && 0 < g.segAt l) || (last : Int) < j
  let synth := (idx.zip (idx.drop 1)).any fun p =>
    p.1 ≠ p.2 && g.gaps.contains ((us.getD p.1 {}).y, (us.getD p.2 {}).y)
  ⟨coefs, idx.map fun j => us.getD j {}, outside || synth⟩

/-- A port's gain on a sample (06 R190). -/
def gained (g v : Nat) : Nat := sat16 (divRound (v * g : Nat) 16384)

/-- The sample of plane i of a port at column offset x, with its FILL mark; `gains` where the gain reaches the plane (06 R169,
R180, R190). -/
def alongSample (t : AlongTaps) (i x : Nat) (gains : Bool) : Nat × Bool :=
  let us := t.lines
  let at_ := fun (u : UsedLine) => let v := (u.planes.getD i []).getD x 0; if gains then gained u.gain v else v
  (kernelSum t.coefs (us.map at_), (us.zip t.coefs).any fun p => p.2 ≠ 0 && p.1.filled.getD x false)

/-- What a port gives at a column: a sample per plane after gain, and its FILL and GAP marks. -/
structure PortSample where
  planes : List Nat
  fill   : Bool
  gap    : Bool

/-- The column samples of port n for world line l (06 R180, R190). -/
def State.portColumns (s : State) (n l : Nat) : List PortSample :=
  let g := s.geo n
  let kernel := s.num Key.alongKernel
  let np := s.num Key.worldPlanes
  let all := s.num Key.gainApply = 1
  let shifts := s.planeShifts n
  let taps := (List.range np).map fun i => alongTaps g kernel (shifts.getD i 0) l
  let gap := taps.any (·.gap)
  (List.range (s.portWidth n)).map fun x =>
    let vs := (List.range np).map fun i =>
      alongSample (taps.getD i ⟨[], [], false⟩) i x (all || i = np - 1)
    ⟨vs.map (·.1), vs.any (·.2), gap⟩

/-! ## Merging (06 R188, R189) -/

/-- Bits of a world pixel's mark (06 R169). -/
def mFill : Nat := 1
/-- GAP. -/
def mGap : Nat := 2
/-- SEAM. -/
def mSeam : Nat := 4
/-- MASK. -/
def mMask : Nat := 8
/-- EDGE. -/
def mEdge : Nat := 16

/-- A world pixel: samples, mark, and the mask of contributing ports. -/
structure WorldPixel where
  planes : List Nat
  mark   : Nat
  ports  : Nat

/-- The pixel of one port alone. -/
def soloPixel (n : Nat) (p : PortSample) : WorldPixel := ⟨p.planes, mFill * bit p.fill + mGap * bit p.gap, pow2 n⟩

/-- The weight of B at column x of a feather ramp (06 R188). -/
def featherB (f xs x : Nat) : Nat := (divRound (32768 * (2 * (x - xs) + 1) : Nat) (2 * f)).toNat

/-- Two ports' samples at a column of their overlap (06 R188). -/
def State.mergePixel (s : State) (a b x : Nat) (pa pb : PortSample) : WorldPixel :=
  let seam := s.seam a b
  if s.num (Key.mergeMode a) = 0 then (if x < seam then soloPixel a pa else soloPixel b pb)
  else
    let f := s.num (Key.featherWidth a)
    let xs := seam - f / 2
    if x < xs then soloPixel a pa
    else if seam + f / 2 ≤ x then soloPixel b pb
    else
      let wb := featherB f xs x
      let mix := fun (u v : Nat) => sat16 (divRound (((32768 - wb) * u + wb * v : Nat)) 32768)
      ⟨(pa.planes.zip pb.planes).map fun p => mix p.1 p.2,
       mFill * bit (pa.fill || pb.fill) + mGap * bit (pa.gap || pb.gap), pow2 a + pow2 b⟩

/-- Whether column x carries SEAM (06 R188). -/
def State.seamAt (s : State) (x : Nat) : Bool :=
  s.pairs.any fun p =>
    let seam := s.seam p.1 p.2
    if s.num (Key.mergeMode p.1) = 0 then seam ≤ x + 2 && x ≤ seam + 1
    else
      let f := s.num (Key.featherWidth p.1)
      seam ≤ x + f / 2 && x < seam + f / 2

/-- A masked pixel (06 R171, R185). -/
def State.maskedPixel (s : State) (mark : Nat) : WorldPixel :=
  ⟨List.replicate (s.num Key.worldPlanes) (s.num Key.uncoveredValue), mark, 0⟩

/-- The world pixel of column x of line l before the edges (06 R171, R185, R188, R189). -/
def State.worldPixel (s : State) (l x : Nat) (ports : List (Nat × List PortSample)) : WorldPixel :=
  let here := ports.filter fun p => s.covers p.1 x
  let at_ := fun (p : Nat × List PortSample) => p.2.getD (x - s.num (Key.covFirst p.1)) ⟨[], false, false⟩
  let good := here.filter fun p => !s.inSpan p.1 l
  match here, good with
  | [], _ => s.maskedPixel (mFill + mMask)
  | _, [] => s.maskedPixel (mMask + mGap)
  | _, [a] => soloPixel a.1 (at_ a)
  | _, a :: b :: _ => s.mergePixel a.1 b.1 x (at_ a) (at_ b)

/-! ## Edges (06 R192, R193) -/

/-- The first place from which `run` columns in a row are web. -/
def firstRun (run : Nat) (web : List Bool) : Option Nat :=
  (List.range web.length).find? fun i => i + run ≤ web.length && ((web.drop i).take run).all id

/-- An edge between an outer and an inner sample, refined to 12 fractional bits (06 R192): the fraction from the outer. -/
def edgeFraction (t outer inner : Nat) : Int :=
  let d : Int := (inner : Int) - outer
  let n : Int := ((t : Int) - outer) * 4096
  if d = 0 then 0 else if d < 0 then divRound (-n) d.natAbs else divRound n d.natAbs

/-- The raw left edge over the covered columns from lo (06 R192), u20.12. -/
def State.rawLeft (s : State) (lo : Nat) (ys : List Nat) : Option Int :=
  let t := s.num Key.edgeThreshold
  let web := ys.map fun y => if s.num Key.edgePolarity = 1 then decide (y ≤ t) else decide (t ≤ y)
  (firstRun (s.num Key.edgeRunMin) web).map fun i =>
    if i = 0 then (lo : Int) * 4096
    else ((lo + i - 1 : Nat) : Int) * 4096 + edgeFraction t (ys.getD (i - 1) 0) (ys.getD i 0)

/-- The raw right edge (06 R192), u20.12: the mirror image. -/
def State.rawRight (s : State) (hi : Nat) (ys : List Nat) : Option Int :=
  let t := s.num Key.edgeThreshold
  let rev := ys.reverse
  let web := rev.map fun y => if s.num Key.edgePolarity = 1 then decide (y ≤ t) else decide (t ≤ y)
  (firstRun (s.num Key.edgeRunMin) web).map fun i =>
    if i = 0 then (hi : Int) * 4096
    else ((hi - i + 1 : Nat) : Int) * 4096 - edgeFraction t (rev.getD (i - 1) 0) (rev.getD i 0)

/-- One edge filtered: the edge, whether the raw edge was accepted, rejected, or the edge newly lost (06 R192). -/
def State.filterEdge (s : State) (e : Edge) (raw : Option Int) : Edge × Bool × Bool × Bool :=
  let miss := fun (rejected : Bool) =>
    let m := e.missed + 1
    let newly := decide (s.num Key.edgeLostLines ≤ m) && !e.lost
    ({ e with missed := m, lost := e.lost || newly }, false, rejected, newly)
  match raw with
  | none => miss false
  | some r =>
    if e.lost || !e.known then ({ value := r.toNat, known := true, missed := 0, lost := false }, true, false, false)
    else if (s.num Key.edgeJumpMax : Int) * 4096 < (r - e.value).natAbs then miss true
    else
      let v := (e.value : Int) + divRound (r - e.value) (pow2 (s.num Key.edgeFilterShift))
      ({ e with value := v.toNat, missed := 0 }, true, false, false)

/-- The lowest and highest covered columns. -/
def State.coveredSpan (s : State) : Nat × Nat :=
  (s.enabledPorts.foldl (fun m n => min m (s.num (Key.covFirst n))) (s.num Key.worldWidth - 1),
   s.enabledPorts.foldl (fun m n => max m (s.num (Key.covLast n))) 0)

/-- The strip's edge statistics with one line (06 R197). -/
def EdgeStats.line (x : EdgeStats) (l r : Nat) (both : Bool) (rejected : Nat) (lostL lostR : Bool) : EdgeStats :=
  { x with
    accepted := x.accepted + bit both, lines := x.lines + 1
    sumL := x.sumL + l, minL := if x.lines = 0 then l else min x.minL l, maxL := max x.maxL l
    sumR := x.sumR + r, minR := if x.lines = 0 then r else min x.minR r, maxR := max x.maxR r
    rejected := x.rejected + rejected, lostL := x.lostL || lostL, lostR := x.lostR || lostR }

/-! ## World lines (06 R169, R170, R191, R194) -/

/-- The port whose used lines give the time of world line l: the lowest-numbered one contributing to it with two lines (06
R194). -/
def State.timePort (s : State) (l : Nat) : Option Nat :=
  s.enabledPorts.find? fun n => !s.inSpan n l && 2 ≤ (s.geo n).dates.length

/-- The time of a world line in ns of W (06 R194); where no port contributing to it has two used lines, free. -/
def State.lineTime (s : State) (l : Nat) : Int :=
  match s.timePort l with
  | none => Config.freeInt s.freeCount
  | some n =>
    let ds := (s.geo n).dates
    let target : Int := l * lineUnit
    let after := ds.filter fun d => decide (target < d.1)
    let before := ds.filter fun d => decide (d.1 ≤ target)
    let pair : (Int × Int) × (Int × Int) := match before, after.getLast? with
      | a :: _, some b => (a, b)
      | a :: b :: _, none => (b, a)
      | _, _ => match ds.reverse with
        | a :: b :: _ => (a, b)
        | _ => ((0, 0), (1, 0))
    let dy := pair.2.1 - pair.1.1
    if dy = 0 then pair.1.2 / 2
    else (pair.1.2 + divRound ((pair.2.2 - pair.1.2) * (target - pair.1.1) * (if dy < 0 then -1 else 1)) dy.natAbs) / 2

/-- The overlap sums of one pair over a line with its marks (06 R191): of a member in a span there is no value. -/
def State.pairSums (s : State) (p : Nat × Nat) (marks : List Nat) (ports : List (Nat × List PortSample)) : PairSum :=
  let lo := s.num (Key.covFirst p.2)
  let hi := s.num (Key.covLast p.1)
  let floor := s.num Key.gainFloor
  let cols := fun n => match ports.find? (·.1 = n) with | none => [] | some q => q.2
  let y := fun n x => (((cols n).getD (x - s.num (Key.covFirst n)) ⟨[], false, false⟩).planes.getLast?).getD 0
  let none_ : Bool := (cols p.1).isEmpty || (cols p.2).isEmpty
  let ok := fun v => floor ≤ v && v ≤ 65280
  (List.range (hi + 1 - lo)).foldl (fun (acc : PairSum) i =>
    let x := lo + i
    let a := y p.1 x
    let b := y p.2 x
    let mark := marks.getD x 0
    if none_ || bitAt mark 0 || bitAt mark 1 || bitAt mark 3 || !ok a || !ok b then acc
    else { acc with sumA := acc.sumA + a, sumB := acc.sumB + b, pixels := acc.pixels + 1 })
    { left := p.1, right := p.2, gainL := s.num (Key.portGainNow p.1), gainR := s.num (Key.portGainNow p.2) }

/-- A line's pair sums added to the strip's. -/
def addPairs (old new : List PairSum) : List PairSum :=
  new.map fun p => match old.find? fun o => o.left = p.left && o.right = p.right with
    | none => p
    | some o => { p with sumA := o.sumA + p.sumA, sumB := o.sumB + p.sumB, pixels := o.pixels + p.pixels }

/-- Used lines that no world line from l on reads are dropped, with the gaps before them; `shift` is the planes' largest (06
R180). -/
def Geo.trim (g : Geo) (taps : Nat) (shift : Int) (l : Nat) : Geo :=
  let here := g.linesAt l
  let below := (here.filter fun (u : UsedLine) => decide (u.y + shift ≤ (l : Int) * lineUnit)).length
  let keep := if taps = 4 then 2 else 1
  let used := here.drop (below - keep) ++ g.used.filter fun u => g.segAt l < u.seg
  { g with used := used, gaps := g.gaps.filter fun p => (used.headD {}).y ≤ p.1 }

/-- The used lines of port n that no world line from l on reads are dropped. -/
def State.trimPort (s : State) (l n : Nat) : State :=
  let shift := ((s.settingsFor (s.stripAt l)).planeShifts n).foldl max 0
  s.modGeo n fun g => g.trim s.taps shift l

/-- The strip's statistics with the line formed (06 R191, R192, R197). -/
def State.stripLine (s : State) (k : Nat) (e : EdgeStats) (ps : List PairSum) : State :=
  s.modStrip k fun x => { x with edges := e, pairs := addPairs x.pairs ps }

/-- World line l is formed (06 R169): merged, its edges found, marked, timed, and handed on. -/
def State.formWorldLine (s : State) (l : Nat) : State :=
  let k := s.stripAt l
  let v := s.settingsFor k
  let ports := v.orderedPorts.map fun n => (n, if v.inSpan n l then [] else v.portColumns n l)
  let width := v.num Key.worldWidth
  let px := (List.range width).map fun x => v.worldPixel l x ports
  let span := v.coveredSpan
  let track := v.flag Key.edgeTrackEn
  let ys := ((px.drop span.1).take (span.2 + 1 - span.1)).map fun p => (p.planes.getLast?).getD 0
  let eL := if track then v.filterEdge s.cause.left (v.rawLeft span.1 ys) else (s.cause.left, false, false, false)
  let eR := if track then v.filterEdge s.cause.right (v.rawRight span.2 ys) else (s.cause.right, false, false, false)
  let knownL : Bool := track && eL.1.known
  let knownR : Bool := track && eR.1.known
  let vL := if knownL then eL.1.value else span.1 * 4096
  let vR := if knownR then eR.1.value else span.2 * 4096
  let cL : Int := ((vL + 4095) / 4096 + (if knownL then v.num Key.edgeInset else 0) : Nat)
  let cR : Int := (vR / 4096 : Nat) - ((if knownR then v.num Key.edgeInset else 0 : Nat) : Int)
  let marks := px.mapIdx fun x p =>
    let off : Bool := (knownL && decide ((x : Int) < cL)) || (knownR && decide (cR < (x : Int)))
      || ((knownL || knownR) && decide (cR < cL))
    let m := if off then (p.mark ||| mMask) else p.mark
    let m := if v.seamAt x then (m ||| mSeam) else m
    if ((x : Int) = cL || (x : Int) = cR) && cL ≤ cR then (m ||| mEdge) else m
  let t := v.lineTime l
  let s := if (v.timePort l).isNone then s.stepFree else s
  let line : WorldLine :=
    { line := l, strip := k, planes := (List.range (v.num Key.worldPlanes)).map fun i => px.map fun p => p.planes.getD i 0
      marks := marks, ports := px.map (·.ports), edgeL := vL, edgeR := vR, time := t
      vel := v.velocityAt (v.num Key.webEncoder) (s.net.w.counterAt t) }
  let old := match s.sched.strips.find? (·.index = k) with | none => ({} : EdgeStats) | some x => x.edges
  let stats := old.line vL vR (eL.2.1 && eR.2.1) (bit eL.2.2.1 + bit eR.2.2.1)
    (track && eL.1.lost) (track && eR.1.lost)
  let stats := { stats with
    span := stats.span || v.enabledPorts.any fun n => v.inSpan n l
    synth := stats.synth || ports.any fun p => p.2.any (·.gap) }
  let sums := if v.flag Key.gainMatchEn then v.pairs.map fun p => v.pairSums p marks ports else []
  let s := s.stripLine k stats sums
  let s := { s with cause := { s.cause with
      left := eL.1, right := eR.1, formed := s.cause.formed ++ [line], nextLine := l + 1 } }
  let s := s.add Key.edgeRejects (bit eL.2.2.1 + bit eR.2.2.1)
  let s := s.add Key.edgeLostCount (bit eL.2.2.2 + bit eR.2.2.2)
  let s := (s.setNum Key.edgeLeft vL).setNum Key.edgeRight vR
  let s := (s.bump Key.worldLinesFormed).measure qCauseway ((width + 63) / 64 * v.num Key.worldPlanes) k
  let s := s.enabledPorts.foldl (fun s n => s.trimPort (l + 1) n) s
  let last : Bool := match s.stripOf l with | some x => x.lineEnd = some (l + 1) | none => false
  let s := s.enabledPorts.foldl (fun s n =>
    if last || (s.geo n).spans.any (fun x => x.stop = some (l + 1)) then s.reportSpan n (l + 1) else s) s
  let s := s.enabledPorts.foldl (fun s n =>
    if s.spilled n < s.spillDepth n then s.modGeo n fun g => { g with spillHold := false } else s) s
  s.settleHold.settleWaits

end Sys2Proof.Machine
end

