-- ==== Sys2Proof/Machine/Harbour.lean ====
section
/-! DEFINITION. Harbourmaster (13 R391–R402), MSI-X delivery (14 R427) and the PCIe function's plain events (14). -/

namespace Sys2Proof.Machine

open Sys2Proof

/-! ## Sources and targets -/

/-- Level sources (13 R392). -/
def hmLevelSource (n : Nat) : Bool := (79 ≤ n && n ≤ 90) || (193 ≤ n && n ≤ 208)

/-- Sources that exist (13 R392). -/
def hmKnown (n : Nat) : Bool := (1 ≤ n && n ≤ 90) || (129 ≤ n && n ≤ 208)

/-- The level of a level source, as its block drives it (13 R392). -/
def State.hmLevel (s : State) (n : Nat) : Bool :=
  if n < 79 then false
  else if n ≤ 86 then s.num (Key.ferryState (n - 79)) = 4
  else if n = 87 then s.power.warnOn
  else if n = 88 then s.sched.thermLimit
  else if n = 89 then !s.pins.pmbAlertN
  else if n = 90 then !s.pins.pfailN
  else if 193 ≤ n && n ≤ 208 then tblGet s.motion.levels false (n - 193)
  else false

/-- A source of a path: the host path for targets 4 and 5, the firmware path for 0 to 3 (13 R391). -/
def State.hmSource (s : State) (host : Bool) (n : Nat) : HmSource :=
  tblGet (if host then s.harbour.host else s.harbour.fw) {} n

/-- A source of a path changed. -/
def State.modHm (s : State) (host : Bool) (n : Nat) (f : HmSource → HmSource) : State :=
  if host then { s with harbour := { s.harbour with host := tblMod s.harbour.host {} n f } }
  else { s with harbour := { s.harbour with fw := tblMod s.harbour.fw {} n f } }

/-- A target. -/
def State.hmTarget (s : State) (t : Nat) : HmTarget := tblGet s.harbour.targets {} t

/-- A target changed. -/
def State.modTarget (s : State) (t : Nat) (f : HmTarget → HmTarget) : State :=
  { s with harbour := { s.harbour with targets := tblMod s.harbour.targets {} t f } }

/-- The targets of a path (13 R391). -/
def hmTargets (host : Bool) : List Nat := if host then [4, 5] else [0, 1, 2, 3]

/-- Priority of a source on a path (13 R391, R411). -/
def State.hmPriority (s : State) (host : Bool) (n : Nat) : Nat :=
  if host then s.num (Key.hmHostPriority n) else s.num (Key.hmFwPriority n)

/-- The allowed targets of a source on a path (13 R391, R411). -/
def State.hmAllowed (s : State) (host : Bool) (n : Nat) : List Nat :=
  if host then (hmTargets true).filter fun t => bitAt (s.num (Key.hmHostTargets n)) (t - 4)
  else (hmTargets false).filter fun t => bitAt (s.num (Key.hmFwTargets n)) t

/-- Masked: the host's mask, and a priority of 0 on either path (13 R401). -/
def State.hmMasked (s : State) (host : Bool) (n : Nat) : Bool :=
  s.hmPriority host n = 0 || (host && s.flag (Key.hmHostMask n))

/-- Whether a target is awake (13 R400, 14 R428): a core while it runs, a host target while the host path is open. -/
def State.hmAwake (s : State) (t : Nat) : Bool :=
  if t < 4 then
    s.life.state ≠ .off && s.life.state ≠ .boot && !s.power.restarting.contains t
  else
    s.pcie.linkUp && s.pcie.busMaster && s.pcie.msixEnable && s.flag Key.hmHostAttach && !s.flag (Key.hmHostSleep t)
      && !s.pcie.d3hot

/-- The running priority of a target (13 R394). -/
def HmTarget.running (t : HmTarget) : Nat :=
  match t.stack with
  | [] => 0
  | e :: _ => e.2

/-- The threshold of a target: host targets' is their entry's, the firmware's reads its image's value (13 R412). -/
def State.hmThreshold (s : State) (t : Nat) : Nat := s.num (Key.hmThreshold t)

/-- Whether a source is eligible for a target (13 R394). -/
def State.hmEligible (s : State) (host : Bool) (n t : Nat) : Bool :=
  let x := s.hmSource host n
  let p := s.hmPriority host n
  x.pending && !s.hmMasked host n && !x.service && (s.hmAllowed host n).contains t && s.hmAwake t
    && (s.hmTarget t).running < p && s.hmThreshold t < p

/-- The eligible target of lowest running priority, lowest number on ties (13 R394). -/
def State.hmBest (s : State) (host : Bool) (n : Nat) : Option Nat :=
  (hmTargets host).foldl (fun best t =>
    if s.hmEligible host n t then
      match best with
      | none => some t
      | some b => if (s.hmTarget t).running < (s.hmTarget b).running then some t else best
    else best) none

/-- The target a source is routed to (13 R394): the one it was last routed to while that stays eligible, else the best. -/
def State.hmRoute (s : State) (host : Bool) (n : Nat) : Option Nat :=
  match (s.hmSource host n).last with
  | some t => if s.hmEligible host n t then some t else s.hmBest host n
  | none => s.hmBest host n

/-- The sources a path lists. -/
def State.hmListed (s : State) (host : Bool) : List Nat :=
  (if host then s.harbour.host else s.harbour.fw).map (·.1)

/-- The sources routed to a target. -/
def State.hmRouted (s : State) (t : Nat) : List Nat :=
  let host := decide (4 ≤ t)
  (s.hmListed host).filter fun n => (s.hmSource host n).route = some t

/-- The routed source of highest priority, lowest number on ties (13 R395, R397). -/
def State.hmTop (s : State) (t : Nat) : Option Nat :=
  let host := decide (4 ≤ t)
  (s.hmRouted t).foldl (fun best n =>
    match best with
    | none => some n
    | some b => if s.hmPriority host b < s.hmPriority host n then some n else best) none

/-! ## Messages (13 R395, R396; 14 R427) -/

/-- The vector of a message of target t: the one of the highest-priority source routed to it (13 R395). -/
def State.hmVectorOf (s : State) (t : Nat) : Nat :=
  32 * (t - 4) + (match s.hmTop t with | some n => s.num (Key.hmVector n) | none => 0)

/-- An MSI-X message leaves, or its PBA bit is set while its vector or the function is masked (14 R427). -/
def State.sendMsix (s : State) (v : Nat) : State :=
  if s.pcie.funcMask || !s.pcie.unmasked.contains v then
    { s with pcie := { s.pcie with pba := if s.pcie.pba.contains v then s.pcie.pba else v :: s.pcie.pba } }
  else s.send (.msix v) []

/-- The message of target t leaves now. -/
def State.hmMessage (s : State) (t : Nat) : State :=
  (s.sendMsix (s.hmVectorOf t)).modTarget t fun x => { x with lastMsg := some s.now, deferred := false }

/-- Whether the moderation interval of target t is still running (13 R396). -/
def State.hmModerated (s : State) (t : Nat) : Bool :=
  match (s.hmTarget t).lastMsg with
  | none => false
  | some τ => s.now < τ + s.num (Key.hmModInterval t)

/-- A message of host target t falls due: at once with an empty stack or outside the interval, else deferred to its end
and counted (13 R396). -/
def State.hmDue (s : State) (t : Nat) : State :=
  let x := s.hmTarget t
  if x.stack.isEmpty || !s.hmModerated t then s.hmMessage t
  else if x.deferred then s
  else (s.modTarget t fun x => { x with deferred := true }).bump (Key.hmModDeferred t)

/-! ## Routing and signalling (13 R394, R395, R400) -/

/-- Every source of a path routed anew. -/
def State.hmRouteAll (s : State) (host : Bool) : State :=
  (s.hmListed host).foldl (fun s n =>
    let r := s.hmRoute host n
    s.modHm host n fun x => { x with route := r, last := r.orElse fun _ => x.last }) s

/-- A wake request where every allowed target of a pending, unmasked source is asleep (13 R400; DEDUCED, log entry 13). -/
def State.hmWake (s : State) (host : Bool) : State :=
  (s.hmListed host).foldl (fun s n =>
    let x := s.hmSource host n
    let ts := s.hmAllowed host n
    let want := x.pending && !x.service && !s.hmMasked host n && !ts.isEmpty && ts.all fun t => !s.hmAwake t
    if want && !x.waking then
      let s := s.modHm host n fun x => { x with waking := true }
      let s := ts.foldl (fun s t => s.bump (Key.hmWakeRequests t)) s
      if host && s.pcie.d3hot && s.pcie.pmeEn then s.send .pme [] else s
    else if !want && x.waking then s.modHm host n fun x => { x with waking := false }
    else s) s

/-- A target's signalled state follows the sources routed to it; a host target's message falls due as it sets. -/
def State.hmSignal (s : State) (t : Nat) : State :=
  let x := s.hmTarget t
  let routed := !(s.hmRouted t).isEmpty
  if routed && !x.signalled then
    let s := s.modTarget t fun x => { x with signalled := true, since := true }
    if 4 ≤ t then s.hmDue t else s
  else if !routed && x.signalled then s.modTarget t fun x => { x with signalled := false }
  else s

/-- Routing, wake requests and signalling of both paths brought up to date. -/
def State.settleHm (s : State) : State :=
  let s := ((s.hmRouteAll false).hmRouteAll true)
  let s := (s.hmWake false).hmWake true
  s.forN 6 State.hmSignal

/-- The bits of `HB_WAKE` (14 R420): a wake request waits for a host target that is not awake. -/
def State.hbWake (s : State) : Nat :=
  let waits := fun t => !s.hmAwake t && (s.hmListed true).any fun n =>
    (s.hmSource true n).waking && (s.hmAllowed true n).contains t
  bit (waits 4) + 2 * bit (waits 5)

/-- The window of a path (13 R401). -/
def State.hmWindowOf (s : State) (host : Bool) : Nat :=
  if host then (if s.life.state = .boot || s.life.state = .init then 1 else if s.pcie.recovery then 3 else 0)
  else if s.harbour.fwRecovery then 3
  else if s.life.state = .boot || s.life.state = .init then 1 else 0

/-! ## HM_SOURCE_EVENT, HM_LEVEL_FALL (13 R393, R399) -/

/-- An accepted edge on one path: pending, or recorded once while pending or in service (13 R393). -/
def hmEdge (x : HmSource) : HmSource :=
  if x.service then { x with again := true } else { x with pending := true }

/-- An accepted edge of a source on both paths; a further edge is counted by the host path's state (log entry 13). -/
def State.hmTakeEdge (s : State) (n : Nat) : State :=
  let x := s.hmSource true n
  let s := s.bumpIf (x.pending || x.service) (Key.hmEventCount n)
  let s := { s with harbour := { s.harbour with req := tblMod s.harbour.req 0 n (· - 1) } }
  (s.modHm false n hmEdge).modHm true n hmEdge

/-- An accepted rise of a level source on one path. -/
def hmRise (x : HmSource) : HmSource :=
  { x with level := true, pending := !x.service }

/-- An accepted fall of a level source on one path (13 R399). -/
def hmFall (x : HmSource) : HmSource := { x with level := false, pending := false }

/-- The request of source n passes its filter and the source becomes pending and is routed (13 R393, R394). -/
def State.hmSourceEvent (s : State) (n : Nat) : State :=
  if !hmKnown n then s
  else if hmLevelSource n then
    if s.hmLevel n then ((s.modHm false n hmRise).modHm true n hmRise).settleHm else s
  else if tblGet s.harbour.req 0 n = 0 then s
  else (s.hmTakeEdge n).settleHm

/-- The filtered level of source n falls (13 R399). -/
def State.hmLevelFall (s : State) (n : Nat) : State :=
  if hmLevelSource n && !s.hmLevel n then ((s.modHm false n hmFall).modHm true n hmFall).settleHm else s

/-! ## Claim and EOI (13 R397–R399) -/

/-- A source masked while it was routed inside a window can be returned by one claim within 8 cycles of 0.833 ns
(13 R401): whether it is, is a free value. -/
def State.hmLate (s : State) (t : Nat) : Option Nat :=
  let host := decide (4 ≤ t)
  if s.hmWindowOf host = 0 then none
  else (s.hmListed host).find? fun n =>
    let x := s.hmSource host n
    (match x.maskedAt with | some τ => 1000 * (s.now - τ) ≤ 8 * 833 | none => false)
      && x.pending && x.last = some t && Config.freeNat s.freeCount % 2 = 1

/-- Source n goes in service on target t and its priority is pushed (13 R397). -/
def State.hmGrant (s : State) (t n p : Nat) : State :=
  (s.modHm (decide (4 ≤ t)) n fun x => { x with pending := false, service := true, route := none, maskedAt := none }).modTarget t
    fun x => { x with stack := (n, p) :: x.stack, signalled := false, since := false }

/-- A claim by target t: the register's value and the state after it (13 R397, 14 R421). -/
def State.hmClaim (s : State) (t : Nat) : Nat × State :=
  let s := s.bump (Key.hmClaims t)
  match s.hmTop t with
  | some n =>
    let p := s.hmPriority (decide (4 ≤ t)) n
    (pow2 30 + p * pow2 10 + n, (s.hmGrant t n p).settleHm)
  | none =>
    match s.hmLate t with
    | some n =>
      let p := max 1 (s.hmPriority (decide (4 ≤ t)) n)
      (pow2 30 + p * pow2 10 + n, (((s.stepFree).hmGrant t n p).bump (Key.hmLateMaskDeliveries t)).settleHm)
    | none =>
      let since := (s.hmTarget t).since
      let s := s.modTarget t fun x => { x with signalled := false, since := false }
      if since then (2 * pow2 30, (s.bump (Key.hmSpurious t)).settleHm) else (0, s.settleHm)

/-- A source after its EOI: pending again with a high level or a recorded edge (13 R398). -/
def hmEnd (level : Bool) (x : HmSource) : HmSource :=
  if level then { x with service := false, pending := x.level }
  else { x with service := false, pending := x.again, again := false }

/-- An EOI of target t naming source v (13 R398). -/
def State.hmEoi (s : State) (t v : Nat) : State :=
  if v = 0 then s
  else
    match (s.hmTarget t).stack with
    | [] => s.bump (Key.hmEoiMismatch t)
    | (n, _) :: rest =>
      if n = v then
        ((s.modTarget t fun x => { x with stack := rest }).modHm (decide (4 ≤ t)) n (hmEnd (hmLevelSource n))).settleHm
      else s.bump (Key.hmEoiMismatch t)

/-! ## Resets and attachment (13 R402, 14 R430–R432) -/

/-- The host path reset by PERST_N, a function-level reset or the loss of the link (13 R402). -/
def State.resetHostPath (s : State) : State :=
  let clean := fun (x : HmSource) => { x with pending := x.pending || x.again || (x.service && x.level), service := false, again := false }
  let s := (s.hmListed true).foldl (fun s n => s.modHm true n clean) s
  let s := [4, 5].foldl (fun s t =>
    s.modTarget t fun x => { x with stack := [], signalled := false, since := false, deferred := false }) s
  let s := s.setNum Key.hmHostAttach 0
  ({ s with pcie := { s.pcie with recovery := true } }).settleHm

/-- Whether the host path is detached (14 R430). -/
def State.detached (s : State) : Bool :=
  !s.pcie.linkUp || !s.pcie.busMaster || s.pcie.d3hot || !s.flag Key.hmHostAttach

/-- The configuration and hardware block after PERST_N, hot reset, link down or FLR (14 R431). -/
def State.resetPcieConfig (s : State) : State :=
  { s with pcie := { s.pcie with
      busMaster := false, msixEnable := false, funcMask := false, unmasked := [], pba := [], d3hot := false, pmeEn := false,
      bar2Base := 0, bar2Discards := 0, bar2Aborts := 0, badAccess := 0 } }

/-- An access of a wrong form to BAR0, refused and counted (14 R420). -/
def State.badAccess (s : State) : State :=
  { s with pcie := { s.pcie with badAccess := s.pcie.badAccess + 1 } }

/-! ## Meanings -/

/-- HM_SOURCE_EVENT (13 R393). -/
def execHmSourceEvent (n : Fin 768) (s : State) : Host.Outcome State Fault Refusal := .next (s.hmSourceEvent n.val)

/-- HM_LEVEL_FALL (13 R399). -/
def execHmLevelFall (n : Fin 768) (s : State) : Host.Outcome State Fault Refusal := .next (s.hmLevelFall n.val)

/-- HM_MOD_EXPIRY (13 R396): the deferred message of host target 4 + t leaves at the end of the interval, if a source is
still routed to it. -/
def execHmModExpiry (t : Fin 2) (s : State) : Host.Outcome State Fault Refusal :=
  let t := t.val + 4
  let x := s.hmTarget t
  if !x.deferred || s.hmModerated t then .next s
  else if x.signalled then .next (s.hmMessage t)
  else .next (s.modTarget t fun x => { x with deferred := false })

/-- HB_CLAIM (13 R397, 14 R421): the value read goes to the host for targets 4 and 5. -/
def execHbClaim (t : Fin 6) (s : State) : Host.Outcome State Fault Refusal :=
  let r := s.hmClaim t.val
  .next (if 4 ≤ t.val then r.2.send (.completion true) (leBytes 4 r.1) else r.2)

/-- HB_EOI (13 R398). -/
def execHbEoi (t : Fin 6) (value : BitVec 32) (s : State) : Host.Outcome State Fault Refusal :=
  .next (s.hmEoi t.val value.toNat)

/-- MSIX_UNMASK (14 R427): the mask of a vector, or Function Mask, clears and the waiting messages leave. -/
def execMsixUnmask (vector : Option (Fin 64)) (s : State) : Host.Outcome State Fault Refusal :=
  let s := match vector with
    | some v => { s with pcie := { s.pcie with unmasked := if s.pcie.unmasked.contains v.val then s.pcie.unmasked else v.val :: s.pcie.unmasked } }
    | none => { s with pcie := { s.pcie with msixEnable := true, funcMask := false } }
  let s := s.settleHm
  let ready := if s.pcie.funcMask then [] else s.pcie.pba.filter s.pcie.unmasked.contains
  let s := { s with pcie := { s.pcie with pba := s.pcie.pba.filter fun v => !ready.contains v } }
  .next (ready.foldl (fun s v => s.send (.msix v) []) s)

/-- D0_RETURN (14 R431). -/
def execD0Return (s : State) : Host.Outcome State Fault Refusal :=
  .next ({ s with pcie := { s.pcie with d3hot := false } }).settleHm

/-- PCIE_LINK_UP (14 R414; 15 R441). -/
def execPcieLinkUp (width speed : BitVec 4) (s : State) : Host.Outcome State Fault Refusal :=
  .next (({ s with pcie := { s.pcie with linkUp := true } }).trouble 0x0090 noUnit 0
    (1 + 16 * width.toNat + 256 * speed.toNat)).settleHm

/-- HB_BAD_ACCESS (14 R420). -/
def execHbBadAccess (s : State) : Host.Outcome State Fault Refusal := .next s.badAccess

end Sys2Proof.Machine
end

