-- ==== Sys2Proof/Machine/Memory.lean ====
section
/-! DEFINITION. The memory controller (12 R349–R368) and the host's BAR2 window (14 R425, R426). -/

namespace Sys2Proof.Machine

open Sys2Proof

/-! ## Channels and addresses (12 R349–R352) -/

/-- Bytes of one MiB. -/
def mib : Nat := 1048576

/-- The capacity M of a channel in bytes (12 R349). -/
def State.chanBytes (s : State) : Nat := if s.part.dense16 then 1024 * mib else 512 * mib

/-- Channels of 24 that a mask of excluded devices leaves (12 R350, R367). -/
def activeChannels (excludeMask : Nat) : List Nat := (List.range 24).filter fun c => !bitAt excludeMask (c / 2)

/-- The mask of active channels. -/
def channelMask (chs : List Nat) : Nat := chs.foldl (fun m c => m + pow2 c) 0

/-- The capacity with n channels, with SECDED or without (12 R352). -/
def capacityOf (n m : Nat) (secded : Bool) : Nat := if secded then n * m * 31 / 32 else n * m

/-- The channels in work (12 R350). -/
def State.channels (s : State) : List Nat := (List.range 24).filter fun c => bitAt (s.num Key.g6ChannelsActive) c

/-- The usable capacity in force (12 R352, 01 R21). -/
def State.usable (s : State) : Nat :=
  capacityOf s.channels.length s.chanBytes (s.flag Key.g6SecdedActive)

/-- Whether the channels run: from the end of INIT until GDDR6 is stopped (12 R358). -/
def State.g6On (s : State) : Bool := s.num Key.g6LocalTop ≠ 0 && !s.life.g6Stopped

/-- The start of the system region, the top 256 MiB of the usable capacity (01 R21). -/
def State.systemBase (s : State) : Nat := s.num Key.g6LocalTop + 1 - 256 * mib

/-- Whether n bytes from a local address lie within the local space (12 R352). -/
def State.localRange (s : State) (a n : Nat) : Bool := a + n ≤ s.num Key.g6LocalTop + 1

/-- Whether n bytes from a local address touch the system region (01 R21). -/
def State.touchesSystem (s : State) (a n : Nat) : Bool := s.systemBase < a + n && a ≤ s.num Key.g6LocalTop && 0 < n

/-- The physical channel of a local address (12 R350). -/
def State.channelOf (s : State) (a : Nat) : Nat :=
  let chs := s.channels
  if chs.isEmpty then 0 else chs.getD (a / s.num Key.g6GrainActive % chs.length) 0

/-- The data offset of a local address in its channel (12 R350), and where it lies with SECDED (12 R351). -/
def State.channelOffset (s : State) (a : Nat) : Nat :=
  let g := s.num Key.g6GrainActive
  let n := s.channels.length
  let off := if g = 0 || n = 0 then 0 else a / g / n * g + a % g
  if s.flag Key.g6SecdedActive then 2048 * (off / 1984) + off % 1984 else off

/-- A channel. -/
def State.chan (s : State) (c : Nat) : G6Chan := tblGet s.g6.chans {} c

/-- A channel changed. -/
def State.modChan (s : State) (c : Nat) (f : G6Chan → G6Chan) : State :=
  { s with g6 := { s.g6 with chans := tblMod s.g6.chans {} c f } }

/-- A PCIe bus address has bit 63 set (09 R270). -/
def busAddr (a : Nat) : Bool := bitAt a 63

/-- Whether an address of n bytes is well placed: a bus address, or a local one below 2^40 within the space (09 R270, R276). -/
def State.addrOk (s : State) (a n : Nat) : Bool := busAddr a || (a < pow2 40 && s.localRange a n)

/-- Bytes stored at an address of either space (09 R270): a PCIe write leaves, a local write stores. -/
def State.writeTo (s : State) (a : Nat) (bs : List Byte) : State :=
  if bs.isEmpty then s else if busAddr a then s.send (.hostWrite (a % pow2 63)) bs else s.store a bs

/-! ## Refresh (12 R362–R364) -/

/-- The postponement limit at a refresh rate (12 R362). -/
def debtLimit (rate : Nat) : Nat := if rate = 2 then 4 else 8

/-- tRFC in ns (12 R362). -/
def State.tRfc (s : State) : Nat := if s.part.dense16 then 250 else 180

/-- A refresh closes every row of the channel (12 R357). -/
def closeRows (c : G6Chan) : G6Chan := { c with openRows := [] }

/-- A value kept at its peak. -/
def State.peak (s : State) (k n : Nat) : State := if s.num k < n then s.setNum k n else s

/-- A tREFI boundary of a channel (12 R363): at the limit a refresh is issued at once; an idle channel pays its debt. -/
def State.refreshInterval (s : State) (c : Nat) (idle : Bool) : State :=
  if s.num (Key.g6ChState c) ≠ 1 || !s.g6On then s
  else
    let limit := debtLimit (s.num (Key.g6RefreshRate c))
    let d := (s.chan c).debt
    let forced := decide (limit ≤ d)
    let d := if forced then limit else d + 1
    let s := s.peak (Key.g6RefreshDebtPeak c) d
    s.modChan c fun x =>
      let x := if forced || idle then closeRows x else x
      { x with debt := if idle then 0 else d }

/-- A channel's rate set; a change to 2× with a debt above 4 settles the excess (12 R362, R364). -/
def State.setRefreshRate (s : State) (c rate : Nat) : State :=
  let d := (s.chan c).debt
  let settle := rate = 2 && s.num (Key.g6RefreshRate c) = 1 && 4 < d
  let s := s.setNum (Key.g6RefreshRate c) rate
  if settle then
    let s := s.modChan c fun x => { closeRows x with debt := 4 }
    (s.bump (Key.g6RefreshForced c)).peak (Key.g6StallPeak c) (84 + (d - 4) * s.tRfc)
  else s

/-! ## Row disturbance (12 R365) -/

/-- The table after an activate of a row, before the threshold (12 R365). -/
def rowActivate (rows : List RowCount) (bank row : Nat) : List RowCount :=
  if rows.any fun r => r.bank = bank && r.row = row then
    rows.map fun r => if r.bank = bank && r.row = row then { r with count := r.count + 1 } else r
  else if rows.length < 64 then rows ++ [⟨bank, row, 1⟩]
  else
    let lowest := rows.foldl (fun m r => min m r.count) (rows.headD {}).count
    match indexOf? (fun (r : RowCount) => r.count = lowest) rows with
    | none => rows
    | some i => rows.set i ⟨bank, row, lowest + 1⟩

/-- Counts at the threshold are set to 0: their neighbours are refreshed (12 R365). -/
def rowReset (threshold : Nat) (rows : List RowCount) : List RowCount :=
  rows.map fun r => if threshold ≤ r.count then { r with count := 0 } else r

/-- An activate of a row of a channel (12 R365). -/
def State.activate (s : State) (c bank row : Nat) : State :=
  let rows := rowActivate (s.chan c).rows bank row
  let hit := rows.any fun r => s.num Key.g6RhThreshold ≤ r.count
  (s.modChan c fun x => { x with rows := rowReset (s.num Key.g6RhThreshold) rows }).bumpIf hit (Key.g6RhRefreshes c)

/-! ## One access (12 R353–R360) -/

/-- Whether a request of a port keeps its row open (12 R354): port 7 and port 4's reads close; Ferry's bursts of 256
bytes or more keep open, and this model takes its accesses as such (DESIGN CHOICE, log entry 14). -/
def keepsOpen (port : Nat) (isWrite : Bool) : Bool := port ≠ 7 && (port ≠ 4 || isWrite)

/-- A row touched by an access: activated when not open, then left open or closed (12 R357). -/
def State.touchRow (s : State) (c bank row : Nat) (keep : Bool) : State :=
  let isOpen : Bool := match tblGet (s.chan c).openRows none bank with
    | some (r, _) => r = row
    | none => false
  let s := if isOpen then s else s.activate c bank row
  s.modChan c fun x => { x with openRows := tblPut x.openRows none bank (if keep then some (row, s.now) else none) }

/-- A write's turn to write mode: a drain, and a refresh against the debt (12 R356, R363). -/
def State.drain (s : State) (c : Nat) : State :=
  let d := (s.chan c).debt
  let s := s.bump (Key.g6WriteDrains c)
  if d = 0 then s else s.modChan c fun x => { closeRows x with debt := d - 1 }

/-- A unit marked uncorrectable. -/
def State.markBad (s : State) (unit : Nat) : State :=
  { s with g6 := { s.g6 with bad := unit :: s.g6.bad.filter (· ≠ unit) } }

/-- The outcome of a read's SECDED check (12 R360). -/
def State.eccCheck (s : State) (port c unit : Nat) (ecc : EccOutcome) : State :=
  if !s.flag Key.g6SecdedActive then s
  else match ecc with
    | .none => s
    | .single => s.bump (Key.g6EccCorrected c)
    | .double => (((s.bump (Key.g6EccUncorrected c)).markBad unit).raiseHm 75).trouble 0x0030 port 2 (64 * unit)

/-- The effect of an access whose link checks pass (12 R353, R360): a write stores its bytes within the unit; with
SECDED a partial write reads and merges. -/
def State.accessUnit (s : State) (port c unit : Nat) (write : Option (Nat × List Byte)) (ecc : EccOutcome) : State :=
  match write with
  | none =>
    let s := s.eccCheck port c unit ecc
    (s.add (Key.g6ReadBytes c) 64).add (Key.g6PortBytes port) 64
  | some (ofs, data) =>
    let data := data.take (64 - ofs % 64)
    let whole := ofs % 64 = 0 && data.length = 64
    let s := if whole then s else (if s.flag Key.g6SecdedActive then (s.eccCheck port c unit ecc).add (Key.g6ReadBytes c) 64 else s)
    let s := (s.drain c).store (64 * unit + ofs % 64) data
    (s.add (Key.g6WriteBytes c) 64).add (Key.g6PortBytes port) 64

/-- A device lost as a whole: both its channels read 2, and the loss is logged (12 R366, 15 R441). -/
def State.loseDevice (s : State) (j cause : Nat) : State :=
  let s := (s.setNum (Key.g6ChState (2 * j)) 2).setNum (Key.g6ChState (2 * j + 1)) 2
  let s := { s with life := { s.life with lostDevice := some j } }
  (s.raiseHm 75).trouble 0x0031 j 3 cause

/-- The memory initialised at INIT: the devices of `G6ExcludeMask` excluded, grain and SECDED put in force, the whole
usable space written to 0 (12 R350–R352, R367, R368). -/
def State.initMemory (s : State) : State :=
  let mask := s.num Key.g6ExcludeMask
  let chs := activeChannels mask
  let s := { s with g6 := {}, life := { s.life with g6Stopped := false } }
  let s := s.forN 24 fun s c =>
    ((s.setNum (Key.g6ChState c) (if chs.contains c then 1 else 3)).setNum (Key.g6RefreshRate c) 1)
  let s := s.setNum Key.g6ChannelsActive (channelMask chs)
  let s := s.setNum Key.g6GrainActive (s.num Key.g6Grain)
  let s := s.setNum Key.g6SecdedActive (s.num Key.g6Secded)
  s.setNum Key.g6LocalTop (s.usable - 1)

/-- REFRESH_INTERVAL (12 R363). -/
def execRefreshInterval (ch : Fin 24) (idle : Bool) (s : State) : Host.Outcome State Fault Refusal :=
  .next (s.refreshInterval ch.val idle)

/-- REFRESH_WINDOW_END (12 R365): the row-disturbance table clears. -/
def execRefreshWindowEnd (ch : Fin 24) (s : State) : Host.Outcome State Fault Refusal :=
  .next (s.modChan ch.val fun x => { x with rows := [] })

/-- ROW_IDLE_CLOSE (12 R357): an open row without an access for 1 µs. -/
def execRowIdleClose (ch : Fin 24) (bank : Nat) (s : State) : Host.Outcome State Fault Refusal :=
  match tblGet (s.chan ch.val).openRows none bank with
  | some (_, τ) =>
    if τ + 1000 ≤ s.now then .next (s.modChan ch.val fun x => { x with openRows := tblPut x.openRows none bank none })
    else .next s
  | none => .next s

/-! ## BAR2 (14 R425, R426) -/

/-- HB_BAR2_BASE (14 R425): a base that is no multiple of 1 MiB or lies above `G6LocalTop` is discarded and counted. -/
def execHbBar2Base (value : Slot) (s : State) : Host.Outcome State Fault Refusal :=
  let v := value.toNat
  if v % mib = 0 && v ≤ s.num Key.g6LocalTop then .next { s with pcie := { s.pcie with bar2Base := v } }
  else .next s.badAccess

/-- The byte a BAR2 read returns: 0 from the system region and above `G6LocalTop` (14 R425). -/
def State.bar2Byte (s : State) (a : Nat) : Byte :=
  if a < s.systemBase && s.g6On then memByte s.g6.mem a else 0

/-- Bytes a BAR2 read returns. -/
def State.bar2Bytes (s : State) (a n : Nat) : List Byte := (List.range n).map fun i => s.bar2Byte (a + i)

/-- BAR2_READ (14 R418, R425): data, a poisoned completion for an uncorrectable unit, or Completer Abort when port 7 is
starved. -/
def execBar2Read (offset length : Nat) (starved : Bool) (s : State) : Host.Outcome State Fault Refusal :=
  let a := s.pcie.bar2Base + offset
  if starved then
    .next ({ s with pcie := { s.pcie with bar2Aborts := s.pcie.bar2Aborts + 1 } }.send (.completion false) [])
  else
    let poisoned := s.g6.bad.any fun u => 64 * u < a + length && a < 64 * u + 64 && 64 * u < s.systemBase
    let s := s.add (Key.g6PortBytes 7) length
    .next (s.send (.completion (!poisoned)) (s.bar2Bytes a length))

/-- BAR2_WRITE (01 R23, 14 R425): performed below the system region, else discarded and counted. A request crosses no 4 KiB
boundary, so it lies on one side. -/
def execBar2Write (offset : Nat) (data : List Byte) (s : State) : Host.Outcome State Fault Refusal :=
  let a := s.pcie.bar2Base + offset
  if a + data.length ≤ s.systemBase && s.g6On then
    .next ((s.store a data).add (Key.g6PortBytes 7) data.length)
  else .next { s with pcie := { s.pcie with bar2Discards := s.pcie.bar2Discards + 1 } }

end Sys2Proof.Machine
end

