-- ==== Sys2Proof/Machine/Ferry.lean ====
section
/-! DEFINITION. Ferry (12 R369–R388) and its doorbells (14 R422). -/

namespace Sys2Proof.Machine

open Sys2Proof

/-! ## Channels -/

/-- A channel. -/
def State.ferryChan (s : State) (ch : Nat) : FerryChan := tblGet s.ferry.chans {} ch

/-- A channel changed. -/
def State.modFerry (s : State) (ch : Nat) (f : FerryChan → FerryChan) : State :=
  { s with ferry := { s.ferry with chans := tblMod s.ferry.chans {} ch f } }

/-- The codes of `FerryState` (12 R382). -/
def fsIdle : Nat := 0
/-- A descriptor is fetched. -/
def fsFetch : Nat := 1
/-- Bursts issue. -/
def fsActive : Nat := 2
/-- Waiting for a grant or level. -/
def fsWaitReq : Nat := 3
/-- Waiting for room in the host ring. -/
def fsWaitRing : Nat := 4
/-- Halted. -/
def fsHalted : Nat := 5

/-- The state of a channel. -/
def State.ferryState (s : State) (ch : Nat) : Nat := s.num (Key.ferryState ch)

/-- The state of a channel set. -/
def State.setFerry (s : State) (ch st : Nat) : State := s.setNum (Key.ferryState ch) st

/-- Whether channel ch moves its stream's units (12 R369). -/
def State.streamUse (s : State) (ch : Nat) : Bool := ch < 8 && bitAt (s.num (Key.route ch)) 0

/-! ## Descriptors (12 R372, R373) -/

/-- A descriptor's fields (12 R372). -/
def parseDesc (b : List Byte) : Desc :=
  let fl := fieldAt b 1 1
  let g := fieldAt b 3 1
  { op := fieldAt b 0 1, irq := bitAt fl 0, chain := bitAt fl 1, statusWb := bitAt fl 2, reqMode := bitsAt fl 3 2,
    rsMode := fieldAt b 2 1, elem := bitsAt g 0 2, planes := bitsAt g 2 3, length := fieldAt b 4 4, src := fieldAt b 8 8,
    dst := fieldAt b 16 8, fill := fieldAt b 24 8, next := fieldAt b 32 8, status := fieldAt b 40 8,
    rowBytes := fieldAt b 48 4, tag := fieldAt b 52 4 }

/-- The bytes of a row group (12 R376). -/
def Desc.group (d : Desc) : Nat := if d.rsMode ≤ 2 then d.planes * d.rowBytes else d.rowBytes

/-- Whether a RESHUFFLE's geometry is sound (12 R376). -/
def Desc.geometryOk (d : Desc) : Bool :=
  1 ≤ d.rsMode && d.rsMode ≤ 4 && (d.elem = 1 || d.elem = 2) && 0 < d.rowBytes
    && (2 < d.rsMode || (2 ≤ d.planes && d.planes ≤ 4))
    && d.rowBytes % (if d.rsMode ≤ 2 then d.elem else 8 * d.elem) = 0
    && d.length % d.group = 0

/-- Whether a descriptor's source and destination ranges lie within the local space (12 R373). -/
def State.rangesOk (s : State) (ch : Nat) (d : Desc) : Bool :=
  (d.op = 2 || s.addrOk d.src d.length) && s.addrOk d.dst d.length
    && (30 ≤ ch || d.op = 3 || busAddr d.dst || !s.touchesSystem d.dst d.length)
    && (d.status = 0 || s.addrOk d.status 16) && (!d.chain || s.addrOk d.next 64)

/-- Whether a fetched descriptor passes (12 R373): reserved bits clear, codes known, length, alignment, ranges, geometry. -/
def State.descOk (s : State) (ch : Nat) (b : List Byte) : Bool :=
  let d := parseDesc b
  bitsAt (fieldAt b 1 1) 5 3 = 0 && bitsAt (fieldAt b 3 1) 5 3 = 0 && fieldAt b 56 8 = 0
    && 1 ≤ d.op && d.op ≤ 4 && d.reqMode ≤ 2 && (d.op = 4 || d.rsMode = 0)
    && d.length ≠ 0 && d.status % 16 = 0 && (!d.chain || d.next % 64 = 0)
    && s.rangesOk ch d && (d.op ≠ 4 || d.geometryOk)

/-! ## Ending a descriptor (12 R374, R379–R381) -/

/-- The 16 bytes of a status (12 R374). -/
def statusBytes (tag residue mismatch status sflags pos : Nat) : List Byte :=
  leBytes 4 tag ++ leBytes 4 residue ++ leBytes 4 mismatch ++ leBytes 1 status ++ leBytes 1 sflags ++ leBytes 2 pos

/-- A descriptor ends: the status is held, and written where R374 says (`issue` false keeps it off the link, 14 R431);
the interrupt is raised where `irq` holds (13 R392). -/
def State.endDesc (s : State) (ch status residue : Nat) (halted irq issue : Bool) : State :=
  let s := (s.setNum (Key.ferryLastStatus ch) status).setNum (Key.ferryResidue ch) residue
  let c := s.ferryChan ch
  let s := match c.desc with
    | none => s
    | some d =>
      let mm := if d.op = 3 then c.mismatch.getD 0xFFFFFFFF else 0
      if (d.statusWb || halted) && d.status ≠ 0 && (issue || !busAddr d.status) then
        s.writeTo d.status (statusBytes d.tag residue mm status (bit halted + 2 * bit irq) (s.num (Key.ferryChainCount ch)))
      else s
  if irq then s.raiseHm (ch + 1) else s

/-- A channel halts and drops its bursts. -/
def State.haltFerry (s : State) (ch status residue : Nat) (irq issue : Bool) : State :=
  let s := s.endDesc ch status residue true irq issue
  (s.modFerry ch fun c => { c with desc := none, bursts := [], aborting := false, rsData := [] }).setFerry ch fsHalted

/-- The bytes of the descriptor not written, or not compared. -/
def FerryChan.residue (c : FerryChan) : Nat :=
  match c.desc with
  | none => 0
  | some d => d.length - c.done

/-- An abort whose started bursts are complete (12 R379). -/
def State.finishAbort (s : State) (ch : Nat) : State :=
  s.haltFerry ch 2 (s.ferryChan ch).residue true true

/-- The fetch of a descriptor at an address (12 R382). -/
def State.fetchDesc (s : State) (ch addr : Nat) : State :=
  (s.modFerry ch fun c =>
    { c with desc := none, fetch := addr, issued := 0, done := 0, bursts := [], aborting := false, mismatch := none, rsData := [] }).setFerry
    ch fsFetch

/-- The end of a descriptor whose last write is done (12 R380, R382). -/
def State.descriptorEnd (s : State) (ch : Nat) : State :=
  match (s.ferryChan ch).desc with
  | none => s
  | some d =>
    let n := s.num (Key.ferryChainCount ch)
    if d.chain && s.num Key.ferryChainLimit ≤ n then
      (s.haltFerry ch 3 0 true true).setNum (Key.ferryNextAddr ch) d.next
    else
      let s := s.endDesc ch 0 0 false d.irq true
      if d.chain then (s.setNum (Key.ferryChainCount ch) (n + 1)).fetchDesc ch d.next
      else (s.modFerry ch fun c => { c with desc := none }).setFerry ch fsIdle

/-- Whether a channel's descriptor is complete: every byte written, no burst in flight. -/
def FerryChan.complete (c : FerryChan) : Bool :=
  match c.desc with
  | none => false
  | some d => c.done = d.length && c.bursts.isEmpty

/-! ## Start and abort (12 R369, R379, R382) -/

/-- The checks of a `FerryCommand` (12 R369, R382). -/
def State.ferryFails (s : State) (src : Source) (ch : Nat) (v : Slot) : List Nat :=
  failIf (src ≠ .processor && (30 ≤ ch || s.streamUse ch)) resConflict
    ++ failIf (v = 1 && 1 ≤ s.ferryState ch && s.ferryState ch ≤ 4) resBusy

/-- The effect of a start (12 R382). -/
def State.ferryStart (s : State) (ch : Nat) : State :=
  (s.setNum (Key.ferryChainCount ch) 1).fetchDesc ch (s.num (Key.ferryDescAddr ch))

/-- The effect of an abort (12 R379, R382): a complete descriptor without `CHAIN` ends with OK first. -/
def State.ferryAbort (s : State) (ch : Nat) : State :=
  let c := s.ferryChan ch
  let st := s.ferryState ch
  if st = fsActive || st = fsWaitReq || st = fsWaitRing then
    if c.complete && !(c.desc.getD {}).chain then s.descriptorEnd ch
    else if c.bursts.isEmpty then s.finishAbort ch
    else s.modFerry ch fun c => { c with aborting := true }
  else s

/-- The effect of an accepted `FerryCommand`. -/
def State.ferryCommand (s : State) (ch : Nat) (v : Slot) : State :=
  if v = 1 then s.ferryStart ch else s.ferryAbort ch

/-- FERRY_START (12 R382). -/
def execFerryStart (src : Source) (ch : Fin 32) (s : State) : Host.Outcome State Fault Refusal :=
  .next (s.command src (Key.ferryCommand ch.val) 1 (s.ferryFails src ch.val) fun v s => s.ferryCommand ch.val v)

/-- FERRY_ABORT (12 R379). -/
def execFerryAbort (src : Source) (ch : Fin 32) (s : State) : Host.Outcome State Fault Refusal :=
  .next (s.command src (Key.ferryCommand ch.val) 2 (s.ferryFails src ch.val) fun v s => s.ferryCommand ch.val v)

/-! ## Descriptor fetch (12 R373, R381) -/

/-- A fetch that failed: the result stands in `FerryLastStatus` alone (12 R381). -/
def State.fetchFailed (s : State) (ch status : Nat) : State :=
  let s := s.modFerry ch fun c => { c with desc := none }
  ((s.setNum (Key.ferryLastStatus ch) status).raiseHm (ch + 1)).setFerry ch fsHalted

/-- Whether a local range holds a unit marked uncorrectable (12 R360). -/
def State.rangeBad (s : State) (a n : Nat) : Bool := s.g6.bad.any fun u => 64 * u < a + n && a < 64 * u + 64

/-- A fetched descriptor is checked (12 R373, R382). -/
def State.fetchDone (s : State) (ch : Nat) (b : List Byte) : State :=
  let d := parseDesc b
  let s := s.modFerry ch fun c => { c with desc := some d }
  if s.descOk ch b then s.setFerry ch fsActive
  else
    let s := if s.addrOk d.status 16 && d.status % 16 = 0 then s
      else s.modFerry ch fun c => { c with desc := some { d with status := 0 } }
    s.haltFerry ch 5 d.length d.irq true

/-- FERRY_FETCH_COMPLETE (12 R373, R381). A completion that arrives with no fetch waiting is late (12 R381). -/
def execFerryFetchComplete (ch : Fin 32) (hostBytes : List Byte) (failed : Bool) (s : State) :
    Host.Outcome State Fault Refusal :=
  let ch := ch.val
  if s.ferryState ch ≠ fsFetch then .next (s.bumpIf (!hostBytes.isEmpty) Key.ferryCplTimeoutCount)
  else
    let a := (s.ferryChan ch).fetch
    if failed then .next (s.fetchFailed ch 4)
    else if busAddr a then .next (s.fetchDone ch (hostBytes ++ zeros (64 - hostBytes.length)))
    else if !s.addrOk a 64 then .next (s.fetchFailed ch 4)
    else if s.rangeBad a 64 then .next (s.fetchFailed ch 6)
    else .next (s.fetchDone ch (s.load a 64))

/-! ## Pacing and bursts (12 R370, R371, R377, R378) -/

/-- Whether a channel's pacing lets a burst start (12 R377). -/
def State.paced (s : State) (ch : Nat) : Bool :=
  let c := s.ferryChan ch
  match c.desc with
  | none => false
  | some d =>
    if d.reqMode = 0 then true
    else if d.reqMode = 1 then 0 < c.grants
    else tblGet s.motion.levels false (s.num (Key.ferryReqEvi ch))

/-- A channel with bytes to issue moves between ACTIVE and WAIT_REQ with its pacing (12 R382). -/
def State.pace (s : State) (ch : Nat) : State :=
  let c := s.ferryChan ch
  let st := s.ferryState ch
  match c.desc with
  | none => s
  | some d =>
    if d.length ≤ c.issued then (if st = fsWaitReq then s.setFerry ch fsActive else s)
    else if st = fsActive && !s.paced ch then s.setFerry ch fsWaitReq
    else if st = fsWaitReq && s.paced ch then s.setFerry ch fsActive
    else s

/-- The length of the next burst (12 R370). -/
def Desc.burstLength (d : Desc) (ofs : Nat) : Nat :=
  let left := min 4096 (d.length - ofs)
  let edge := fun a => 4096 - (a + ofs) % 4096
  let left := min left (edge d.dst)
  if d.op = 2 then left else min left (edge d.src)

/-- Bytes held in the buffer (12 R370). -/
def State.ferryHeld (s : State) : Nat :=
  sumNat (s.ferry.chans.map fun e => sumNat (e.2.bursts.map (·.length)))

/-- Bursts in flight. -/
def State.ferryFlying (s : State) : Nat := sumNat (s.ferry.chans.map fun e => e.2.bursts.length)

/-- Whether a channel is ready for a burst (12 R370, R371). -/
def State.ferryReady (s : State) (ch : Nat) : Bool :=
  let c := s.ferryChan ch
  s.ferryState ch = fsActive && !c.aborting && s.paced ch && c.bursts.length < s.num (Key.ferryMaxBursts ch)
    && (match c.desc with
        | none => false
        | some d => c.issued < d.length && c.mismatch.isNone && s.ferryHeld + d.burstLength c.issued ≤ 524288)

/-- The ready channel of highest priority, round robin from the last one served (12 R371). -/
def State.ferryPick (s : State) : Option Nat :=
  let order := (List.range 32).map fun i => (s.ferry.turn + 1 + i) % 32
  let ready := order.filter s.ferryReady
  ready.foldl (fun best ch =>
    match best with
    | none => some ch
    | some b => if s.num (Key.ferryPriority b) < s.num (Key.ferryPriority ch) then some ch else best) none

/-- FERRY_BURST_ISSUE (12 R370, R371): every channel's pacing is sampled, then the burst issued. -/
def execFerryBurstIssue (s : State) : Host.Outcome State Fault Refusal :=
  let s := s.forN 32 State.pace
  if 64 ≤ s.ferryFlying then .next s
  else match s.ferryPick with
    | none => .next s
    | some ch =>
      let c := s.ferryChan ch
      let d := c.desc.getD {}
      let n := d.burstLength c.issued
      let s := s.modFerry ch fun c =>
        { c with issued := c.issued + n, bursts := c.bursts ++ [⟨c.issued, n⟩]
                 grants := if d.reqMode = 1 then c.grants - 1 else c.grants }
      let s := { s with ferry := { s.ferry with turn := ch } }
      .next ((s.peak Key.ferryBufferPeak s.ferryHeld).pace ch)

/-- FERRY_GRANT (12 R377): an event waiting at consumer 0x0100 + ch grants one burst; grants accumulate to 255. -/
def execFerryGrant (ch : Fin 32) (s : State) : Host.Outcome State Fault Refusal :=
  let ch := ch.val
  if (s.wire (0x0100 + ch)).isEmpty then .next s
  else
    let s := s.takeWire (0x0100 + ch)
    if (s.ferryChan ch).grants < 255 then
      .next ((s.modFerry ch fun c => { c with grants := c.grants + 1 }).pace ch)
    else .next (s.bump (Key.ferryGrantOverflow ch))

/-! ## RESHUFFLE (12 R376) -/

/-- The elements of a byte string, each of e bytes. -/
def elements (e : Nat) (b : List Byte) : List (List Byte) := chunks e b

/-- Mode 1: plane rows to interleaved elements. -/
def interleave (p e : Nat) (group : List Byte) : List Byte :=
  let rows := (chunks (group.length / p) group).map (elements e)
  let n := group.length / p / e
  (List.range n).flatMap fun k => rows.flatMap fun r => r.getD k []

/-- Mode 2: interleaved elements to plane rows. -/
def deinterleave (p e : Nat) (group : List Byte) : List Byte :=
  let es := elements e group
  let n := group.length / p / e
  (List.range p).flatMap fun q => (List.range n).flatMap fun k => es.getD (k * p + q) []

/-- Eight bits as a byte, bit 0 first. -/
def packBits (bs : List Bool) : Byte :=
  BitVec.ofNat 8 (sumNat ((List.range 8).map fun i => if bs.getD i false then pow2 i else 0))

/-- Mode 3: bit planes from the top bit down. -/
def bitSplit (e : Nat) (group : List Byte) : List Byte :=
  let es := (elements e group).map ofLe
  (List.range (8 * e)).reverse.flatMap fun b => (chunks 8 (es.map fun v => bitAt v b)).map packBits

/-- Mode 4: the inverse of mode 3. -/
def bitMerge (e : Nat) (group : List Byte) : List Byte :=
  let n := group.length / e
  let planes := chunks (n / 8) group
  (List.range n).flatMap fun k =>
    leBytes e (sumNat ((List.range (8 * e)).map fun b =>
      if bitAt ((planes.getD (8 * e - 1 - b) []).getD (k / 8) 0).toNat (k % 8) then pow2 b else 0))

/-- A row group rearranged (12 R376). -/
def Desc.reshuffle (d : Desc) (group : List Byte) : List Byte :=
  match d.rsMode with
  | 1 => interleave d.planes d.elem group
  | 2 => deinterleave d.planes d.elem group
  | 3 => bitSplit d.elem group
  | _ => bitMerge d.elem group

/-! ## Burst completion (12 R370, R375, R381) -/

/-- The bytes a burst reads: from GDDR6, or as the host's completion brings them. -/
def State.burstRead (s : State) (addr n : Nat) (host : List Byte) : List Byte :=
  if busAddr addr then (host ++ zeros (n - host.length)).take n else s.load addr n

/-- FILL's bytes (12 R372). -/
def fillBytes (pattern ofs n : Nat) : List Byte :=
  (List.range n).map fun i => (leBytes 8 pattern).getD ((ofs + i) % 8) 0

/-- RESHUFFLE's data: whole row groups are written, the rest waits in the buffer. -/
def State.reshuffleWrite (s : State) (ch : Nat) (d : Desc) (data : List Byte) : State :=
  let c := s.ferryChan ch
  let all := c.rsData ++ data
  let whole := all.length / d.group * d.group
  let out := (chunks d.group (all.take whole)).flatMap d.reshuffle
  (s.writeTo (d.dst + c.done) out).modFerry ch fun c => { c with rsData := all.drop whole, done := c.done + whole }

/-- The effect of a burst whose reads are good (12 R375). -/
def State.burstEffect (s : State) (ch : Nat) (d : Desc) (b : Burst) (srcHost dstHost : List Byte) : State :=
  let data := if d.op = 2 then fillBytes d.fill b.offset b.length else s.burstRead (d.src + b.offset) b.length srcHost
  let s := (s.modFerry ch fun c => { c with bursts := c.bursts.drop 1 }).add (Key.ferryBytes ch) b.length
  if d.op = 4 then s.reshuffleWrite ch d data
  else if d.op = 3 then
    let other := s.burstRead (d.dst + b.offset) b.length dstHost
    let diff := indexOf? (fun (p : Byte × Byte) => p.1 ≠ p.2) (data.zip other)
    s.modFerry ch fun c => { c with done := c.done + b.length, mismatch := diff.map (· + b.offset) }
  else (s.writeTo (d.dst + b.offset) data).modFerry ch fun c => { c with done := c.done + b.length }

/-- Whether a burst meets a unit marked uncorrectable on a side it reads (12 R360). -/
def State.burstBad (s : State) (d : Desc) (b : Burst) : Bool :=
  (d.op ≠ 2 && !busAddr d.src && s.rangeBad (d.src + b.offset) b.length)
    || (d.op = 3 && !busAddr d.dst && s.rangeBad (d.dst + b.offset) b.length)

/-- FERRY_BURST_COMPLETE (12 R370, R375, R379, R381): the oldest burst's data is written. Data that arrives with no burst
in flight is a late completion, discarded and counted (12 R381). -/
def execFerryBurstComplete (ch : Fin 32) (srcHost dstHost : List Byte) (s : State) : Host.Outcome State Fault Refusal :=
  let ch := ch.val
  let c := s.ferryChan ch
  match c.desc, c.bursts with
  | some d, b :: _ =>
    if s.burstBad d b then .next (s.haltFerry ch 6 (d.length - b.offset) true true)
    else
      let s := s.burstEffect ch d b srcHost dstHost
      let c := s.ferryChan ch
      if c.mismatch.isSome then .next (s.haltFerry ch 1 c.residue d.irq true)
      else if c.aborting && c.bursts.isEmpty then .next (s.finishAbort ch)
      else .next s
  | _, _ => .next (s.bumpIf (!srcHost.isEmpty || !dstHost.isEmpty) Key.ferryCplTimeoutCount)

/-- FERRY_DESCRIPTOR_END (12 R380, R382). -/
def execFerryDescriptorEnd (ch : Fin 32) (s : State) : Host.Outcome State Fault Refusal :=
  let st := s.ferryState ch.val
  if (s.ferryChan ch.val).complete && (st = fsActive || st = fsWaitReq) then .next (s.descriptorEnd ch.val)
  else .next s

/-- A read that draws no valid completion: bursts after the failed one are discarded (12 R381). -/
def State.ferryBusError (s : State) (ch : Nat) (issue : Bool) : State :=
  let c := s.ferryChan ch
  if s.ferryState ch = fsFetch then s.fetchFailed ch 4
  else match c.desc, c.bursts with
    | some d, b :: _ => s.haltFerry ch 4 (d.length - b.offset) true issue
    | some _, [] => s.haltFerry ch 4 c.residue true issue
    | none, _ => s

/-- Whether a channel waits on a read of a PCIe address (12 R381). -/
def State.ferryReadsHost (s : State) (ch : Nat) : Bool :=
  let c := s.ferryChan ch
  if s.ferryState ch = fsFetch then busAddr c.fetch
  else match c.desc with
    | some d => !c.bursts.isEmpty && ((d.op ≠ 2 && busAddr d.src) || (d.op = 3 && busAddr d.dst))
    | none => false

/-- FERRY_COMPLETION_TIMEOUT (12 R381). -/
def execFerryCompletionTimeout (ch : Fin 32) (s : State) : Host.Outcome State Fault Refusal :=
  if s.ferryReadsHost ch.val then .next (s.ferryBusError ch.val true) else .next s

/-- Whether a channel's descriptor or fetch uses a PCIe address (14 R431). -/
def State.ferryUsesHost (s : State) (ch : Nat) : Bool :=
  let c := s.ferryChan ch
  let st := s.ferryState ch
  if st = fsFetch then busAddr c.fetch
  else (st = fsActive || st = fsWaitReq) && (match c.desc with
    | some d => (d.op ≠ 2 && busAddr d.src) || busAddr d.dst
    | none => false)

/-- Ferry's work with a PCIe address ends (14 R431). -/
def State.endFerryHost (s : State) : State :=
  s.forN 32 fun s ch => if s.ferryUsesHost ch then s.ferryBusError ch false else s

/-! ## Host rings (12 R383, 14 R430) -/

/-- A length rounded up to 64 (12 R383, 14 R429). -/
def round64 (n : Nat) : Nat := (n + 63) / 64 * 64

/-- Bytes written into a host ring from a byte offset on, wrapping at its end (12 R383). -/
def State.ringWrite (s : State) (base size ofs : Nat) (data : List Byte) : State :=
  if ofs + data.length ≤ size then s.send (.hostWrite (base + ofs)) data
  else (s.send (.hostWrite (base + ofs)) (data.take (size - ofs))).send (.hostWrite base) (data.drop (size - ofs))

/-- One unit of a share moved to its host ring (12 R383). -/
def State.ringUnit (s : State) (st : Nat) (u : SUnit) : State :=
  let size := s.num (Key.hostRingSize st)
  let prod := s.num (Key.hostRingProducer st)
  let n := round64 u.bytes.length
  let s := s.ringWrite (s.num (Key.hostRingBase st)) size (prod % size) (u.bytes ++ zeros (n - u.bytes.length))
  let s := s.setNum (Key.hostRingProducer st) (prod + n)
  let a := s.num (Key.hostRingProdAddr st)
  let s := if a = 0 then s else s.send (.hostWrite a) (leBytes 8 (prod + n))
  (s.add (Key.unitsDelivered st) 1).add (Key.bytesOut st) u.bytes.length

/-- The units waiting in a host share. -/
def State.shareHost (s : State) (st : Nat) : List SUnit := tblGet s.streams.shareHost [] st

/-- A host share replaced. -/
def State.setShareHost (s : State) (st : Nat) (us : List SUnit) : State :=
  { s with streams := { s.streams with shareHost := tblPut s.streams.shareHost [] st us } }

/-- Channel st moves the units of its share while the ring has room; while the host path is detached it discards them
(12 R383, 14 R430). -/
def State.ringMove (st : Nat) : Nat → State → State
  | 0, s => s
  | fuel + 1, s =>
    match s.shareHost st with
    | [] => if s.ferryState st = fsWaitRing then s.setFerry st fsIdle else s
    | u :: rest =>
      if s.detached then State.ringMove st fuel ((s.setShareHost st rest).bump (Key.unitsDiscarded st))
      else
        let fill := s.num (Key.hostRingProducer st) - s.num (Key.hostRingConsumer st)
        if fill + round64 u.bytes.length ≤ s.num (Key.hostRingSize st) then
          let s := if s.ferryState st = fsWaitRing then
              (s.add (Key.hostRingFullTime st) (s.now - (s.ferryChan st).waitSince)).setFerry st fsIdle
            else s
          State.ringMove st fuel ((s.setShareHost st rest).ringUnit st u)
        else if s.ferryState st = fsWaitRing then s
        else (s.modFerry st fun c => { c with waitSince := s.now }).setFerry st fsWaitRing

/-- The host channel of a stream brought up to date. -/
def State.serveRing (s : State) (st : Nat) : State := State.ringMove st ((s.shareHost st).length + 1) s

/-- Every stream's host channel brought up to date: while the path is detached the waiting units are discarded (14 R430). -/
def State.serveRings (s : State) : State :=
  s.forN 8 fun s st => s.when (!(s.shareHost st).isEmpty) fun s => s.serveRing st

/-- HOST_RING_CONSUMER (12 R383, R388): the consumer is at most the producer; a waiting channel may continue. -/
def execHostRingConsumer (src : Source) (st : Fin 8) (value : Slot) (s : State) : Host.Outcome State Fault Refusal :=
  .next (s.command src (Key.hostRingConsumer st.val) value
    (fun v => failIf (s.num (Key.hostRingProducer st.val) < v.toNat) resConflict)
    fun v s => (s.setVal (Key.hostRingConsumer st.val) v).serveRing st.val)

/-- HB_RING_CONS (14 R423): a mirror write, not journalled; above the producer it is discarded and counted. -/
def execHbRingCons (st : Fin 8) (value : Slot) (s : State) : Host.Outcome State Fault Refusal :=
  if s.num (Key.hostRingProducer st.val) < value.toNat then .next s.badAccess
  else .next ((s.setVal (Key.hostRingConsumer st.val) value).serveRing st.val)

/-- The address part of a doorbell (14 R422). -/
def dbAddr (addr : Slot) : Slot := BitVec.ofNat 64 (addr.toNat / 64 * 64)

/-- HB_FERRY_DB_START (14 R422): a write of `FerryDescAddr`, then of 1 to `FerryCommand`, both from the host. -/
def execHbFerryDbStart (ch : Fin 32) (addr : Slot) (s : State) : Host.Outcome State Fault Refusal :=
  let s := s.command .host (Key.ferryDescAddr ch.val) (dbAddr addr) (fun _ => []) fun v s => s.setVal (Key.ferryDescAddr ch.val) v
  .next (s.command .host (Key.ferryCommand ch.val) 1 (s.ferryFails .host ch.val) fun v s => s.ferryCommand ch.val v)

/-- HB_FERRY_DB_ABORT (14 R422). -/
def execHbFerryDbAbort (ch : Fin 32) (s : State) : Host.Outcome State Fault Refusal :=
  .next (s.command .host (Key.ferryCommand ch.val) 2 (s.ferryFails .host ch.val) fun v s => s.ferryCommand ch.val v)

end Sys2Proof.Machine
end

