-- ==== Sys2Proof/Machine/Field.lean ====
section
/-! DEFINITION. The field ports, JFP datagrams, nodes, NODE_CMD, marks and keys (11 R323–R348). -/

namespace Sys2Proof.Machine

open Sys2Proof

/-! ## JFP datagrams in (11 R329, R330, R338) -/

/-- A datagram whose header and lengths are sound (11 R329). -/
structure Jfp where
  msgType : Nat
  auth    : Bool
  session : Nat
  seq     : Nat
  node    : Nat
  body    : List Byte
  signed  : List Byte
  trailer : List Byte

/-- The message types (11 R330). -/
def jfpTypes : List Nat := [0x01, 0x02, 0x03, 0x04, 0x05, 0x10, 0x11, 0x20, 0x21, 0x30]

/-- The checks of 11 R329 on a datagram. -/
def parseJfp (d : List Byte) : Option Jfp :=
  let flags := fieldAt d 4 1
  let auth := bitAt flags 0
  let n := fieldAt d 6 2
  if d.length = 16 + n + (if auth then 16 else 0) && fieldAt d 0 2 = 0x564A && fieldAt d 2 1 = 1
      && jfpTypes.contains (fieldAt d 3 1) && flags < 2 && n ≤ 1440 && crc16 (d.take 14) = fieldAt d 14 2 then
    some { msgType := fieldAt d 3 1, auth := auth, session := fieldAt d 5 1, seq := fieldAt d 8 4, node := fieldAt d 12 2,
           body := bytesAt d 16 n, signed := d.take (16 + n), trailer := d.drop (16 + n) }
  else none

/-- Whether a key slot holds a key (11 R338). -/
def State.hasKey (s : State) (slot : Nat) : Bool := slot < 32 && !(s.keySlot slot).key.isEmpty

/-- Whether a datagram passes authentication under key slot `slot` (0xFF none; 11 R338). -/
def State.authOk (s : State) (j : Jfp) (slot : Nat) : Bool :=
  if j.auth then s.hasKey slot && (hmacSha256 (s.keySlot slot).key j.signed).take 16 = j.trailer
  else !s.flag Key.authRequired

/-- The comparison of sequence numbers (11 R340): later, equal or earlier, modulo 2^32 and read as signed. -/
def seqDiff (new old : Nat) : Int := ofTwos 32 (new + pow2 32 - old % pow2 32)

/-- A datagram discarded and counted in `JfpRxDiscards` (11 R329). -/
def State.jfpDiscard (s : State) : State := s.bump Key.jfpRxDiscards

/-! ## Nodes out (11 R334, R335, R340) -/

/-- A node. -/
def State.node (s : State) (k : Nat) : Node := tblGet s.net.nodes {} k

/-- A node changed. -/
def State.modNode (s : State) (k : Nat) (f : Node → Node) : State :=
  { s with net := { s.net with nodes := tblMod s.net.nodes {} k f } }

/-- The key a node's datagrams are authenticated with (11 R338). -/
def State.nodeKey (s : State) (k : Nat) : Option (List Byte) :=
  let slot := s.num (Key.nodeKeySlot k)
  if s.hasKey slot then some (s.keySlot slot).key else none

/-- A frame leaves its port now (11 R325, R340). -/
def State.emitFrame (s : State) (port : Nat) (f : Frame) : State :=
  let tag := if f.cls = 6 then none else some (s.num (Key.fldVlanId port))
  match f.node with
  | none => s.send (.field port f.cls tag f.ip f.udp) f.bytes
  | some k =>
    let d := jfpDatagram f.msg 0xFE (s.node k).outSeq k f.bytes (s.nodeKey k)
    let s := s.modNode k fun x => { x with outSeq := (x.outSeq + 1) % pow2 32 }
    let s := s.bumpIf (f.msg = 0x20) (Key.nodeCmdSent k)
    s.send (.field port f.cls tag (s.num (Key.nodeIp k)) (s.num (Key.nodeUdpPort k))) d

/-- A frame queued on its class, or dropped at a queue of 64 (11 R326). -/
def State.queueFrame (s : State) (port : Nat) (f : Frame) : State :=
  let q := tblGet s.net.queues [] (queueKey port f.cls)
  if q.length < 64 then
    { s with net := { s.net with
        order := s.net.order + 1
        queues := tblPut s.net.queues [] (queueKey port f.cls) (q ++ [{ f with order := s.net.order }]) } }
  else s.bump (Key.fldQueueDrops port)

/-- A datagram to node k: at once while the link is up, or held for its launch time (11 R326, R327). -/
def State.sendNode (s : State) (k cls msg cmdId : Nat) (launch : Option Nat) (body : List Byte) : State :=
  let port := s.num (Key.nodePort k)
  let f : Frame := { cls := cls, node := some k, cmdId := cmdId, launch := launch, msg := msg, bytes := body }
  if launch.isNone && s.flag (Key.fldLinkUp port) then s.emitFrame port f else s.queueFrame port f

/-- A NODE_CMD body (11 R335). -/
def nodeCmdBody (id rev flags code act recSeq : Nat) (param : List Byte) : List Byte :=
  leBytes 4 id ++ leBytes 1 rev ++ leBytes 1 flags ++ leBytes 2 code ++ leBytes 8 act ++ leBytes 8 recSeq
    ++ (param ++ zeros 16).take 16

/-- The command codes (11 R335). -/
def cmdPing : Nat := 0x0000
/-- MARK. -/
def cmdMark : Nat := 0x0001
/-- MARK_OFF. -/
def cmdMarkOff : Nat := 0x0002
/-- CARRIER_START. -/
def cmdCarrierStart : Nat := 0x0010
/-- CARRIER_STOP. -/
def cmdCarrierStop : Nat := 0x0011

/-- A new command id of a node, and the command waiting for its acknowledgement (11 R335, R336). -/
def State.newCmd (s : State) (k rev code deadline piece : Nat) : Nat × State :=
  let id := (s.node k).nextCmd
  (id, s.modNode k fun x =>
    { x with nextCmd := (x.nextCmd + 1) % pow2 32, waiting := x.waiting ++ [⟨id, rev, code, deadline, piece⟩] })

/-- An immediate command on class `cls` (11 R335, R348). -/
def State.sendImmediate (s : State) (k cls code : Nat) (param : List Byte) : State :=
  let r := s.newCmd k 0 code (s.wNow + 1000 * s.num (Key.nodeAckTimeout k)) 0
  r.2.sendNode k cls 0x20 r.1 none (nodeCmdBody r.1 0 1 code 0 0 param)

/-- A command with an action time, launched on class 7 a lead time before it; at once with `LATE` where that time has
passed (11 R335, R342, R348). The result tells whether it was late. -/
def State.sendTimed (s : State) (k code act piece : Nat) (param : List Byte) : Bool × State :=
  let launch := act - s.num (Key.nodeLeadTime k)
  let late : Bool := launch < s.wNow
  let r := s.newCmd k 0 code act piece
  (late, r.2.sendNode k 7 0x20 r.1 (if late then none else some launch) (nodeCmdBody r.1 0 (if late then 4 else 0) code act 0 param))

/-! ## Ports (11 R323–R327) -/

/-- Queued frames of a port's class leave in order (11 R326). -/
def State.flushClass (s : State) (port cls : Nat) : State :=
  let q := tblGet s.net.queues [] (queueKey port cls)
  let now := q.filter (·.launch.isNone)
  let s := { s with net := { s.net with queues := tblPut s.net.queues [] (queueKey port cls) (q.filter (·.launch.isSome)) } }
  now.foldl (fun s f => s.emitFrame port f) s

/-- FIELD_LINK_CHANGE (11 R323; 13 R392; 15 R441): on a rise the waiting frames leave by strict priority. -/
def execFieldLinkChange (port : Fin 4) (up : Bool) (s : State) : Host.Outcome State Fault Refusal :=
  let p := port.val
  if s.flag (Key.fldLinkUp p) = up || (up && s.num (Key.fldMode p) = 0) then .next s
  else
    let s := (s.setNum (Key.fldLinkUp p) (bit up)).when (!up) (·.setNum (Key.fldPreemptActive p) 0)
    let s := (s.raiseHm (65 + p)).trouble 0x0053 p (if up then 0 else 1) (bit up)
    .next (if up then [7, 6, 5, 4, 3, 2, 1, 0].foldl (fun s c => s.flushClass p c) s else s)

/-- PREEMPT_VERIFY (11 R327): the verify process succeeds. -/
def execPreemptVerify (port : Fin 4) (s : State) : Host.Outcome State Fault Refusal :=
  let p := port.val
  if s.flag (Key.fldPreemptEn p) && s.num (Key.fldMode p) = 1 && s.flag (Key.fldLinkUp p) then
    .next (s.setNum (Key.fldPreemptActive p) 1)
  else .next s

/-- Whether an address lies in a port's subnet: the port sends to no other (11 R323). -/
def State.inSubnet (s : State) (p ip : Nat) : Bool :=
  let m := s.num (Key.fldNetMask p)
  (ip &&& m) = (s.num (Key.fldIpAddr p) &&& m)

/-- ARP_REQUEST (11 R323): answered on class 0 for the port's own address. -/
def execArpRequest (port : Fin 4) (senderMac senderIp targetIp : Nat) (s : State) : Host.Outcome State Fault Refusal :=
  let p := port.val
  if targetIp = s.num (Key.fldIpAddr p) && s.inSubnet p senderIp then
    let reply := beBytes 2 1 ++ beBytes 2 0x0800 ++ [6, 4] ++ beBytes 2 2 ++ beBytes 6 (s.part.macs.getD p 0)
      ++ beBytes 4 targetIp ++ beBytes 6 senderMac ++ beBytes 4 senderIp
    .next (s.sendField p 0 { cls := 0, ip := senderIp, bytes := reply } (countQueueDrop p))
  else .next s

/-- The Internet checksum of an ICMP message. -/
def inetChecksum (b : List Byte) : Nat :=
  let sum := sumNat ((chunks 2 b).map fun p => ofBe (p ++ zeros (2 - p.length)))
  let folded := sum % 65536 + sum / 65536
  65535 - (folded % 65536 + folded / 65536)

/-- ICMP_ECHO (11 R323): the identifier, sequence and data of an echo request come back on class 1. -/
def execIcmpEcho (peer : Peer) (targetIp : Nat) (body : List Byte) (s : State) : Host.Outcome State Fault Refusal :=
  let p := peer.port.val
  if targetIp ≠ s.num (Key.fldIpAddr p) then .next (s.bump (Key.fldRxDiscards p))
  else if s.inSubnet p peer.ip then
    let m := [0, 0] ++ beBytes 2 (inetChecksum ([0, 0, 0, 0] ++ body)) ++ body
    .next (s.sendField p 1 { cls := 1, ip := peer.ip, bytes := m } (countQueueDrop p))
  else .next s

/-- FRAME_DISCARD (11 R323): a frame of no accepted kind. -/
def execFrameDiscard (port : Fin 4) (s : State) : Host.Outcome State Fault Refusal :=
  .next (s.bump (Key.fldRxDiscards port))

/-! ## Node traffic in (11 R334, R336, R337, R340, R341) -/

/-- A datagram of a node: sound, of the type given, from the node's own address, authenticated and new (11 R329, R338,
R340, R341). -/
def State.fromNode (s : State) (peer : Peer) (d : List Byte) (msg : Nat) : State × Option (Nat × Jfp) :=
  match parseJfp d with
  | none => (s.jfpDiscard, none)
  | some j =>
    let k := j.node
    if j.msgType ≠ msg then (s, none)
    else if j.session ≠ 0xFE || 1024 ≤ k then (s.jfpDiscard, none)
    else if s.num (Key.nodeState k) = 0 || peer.ip ≠ s.num (Key.nodeIp k) || peer.udp ≠ s.num (Key.nodeUdpPort k)
        || peer.port.val ≠ s.num (Key.nodePort k) then (s, none)
    else if !s.authOk j (s.num (Key.nodeKeySlot k)) || (!j.auth && s.num (Key.nodeKeySlot k) ≠ 0xFF) then
      (s.bump Key.authFailures, none)
    else
      let diff : Int := match (s.node k).lastSeq with | none => 1 | some l => seqDiff j.seq l
      if diff < 0 then (s.bump Key.replayDiscards, none)
      else if diff = 0 then (s, none)
      else (s.modNode k fun x => { x with lastSeq := some j.seq }, some (k, j))

/-- Node k changes its state, which is signalled (11 R341; 13 R392). -/
def State.setNode (s : State) (k st : Nat) : State := (s.setNum (Key.nodeState k) st).raiseHm 77

/-- A valid answer of node k (11 R341): PROBE and LOST go UP. -/
def State.nodeAnswered (s : State) (k : Nat) (probe : Bool) : State :=
  let s := s.modNode k fun x => { x with missed := 0 }
  let st := s.num (Key.nodeState k)
  if st = 1 && probe then s.setNode k 2
  else if st = 3 then (s.setNode k 2).trouble 0x0051 k 0 0
  else s

/-- CYCLIC_IN (11 R334). -/
def execCyclicIn (peer : Peer) (datagram : List Byte) (s : State) : Host.Outcome State Fault Refusal :=
  match s.fromNode peer datagram 0x11 with
  | (s, none) => .next s
  | (s, some (k, j)) =>
    if j.body.length < 16 || 80 < j.body.length then .next s.jfpDiscard
    else .next ((s.setBlob (Key.nodeCyclicIn k) (j.body.drop 16)).nodeAnswered k true)

/-- NODE_ACK (11 R336): code 0 with the latest revision by the deadline acknowledges the command. -/
def execNodeAck (peer : Peer) (datagram : List Byte) (s : State) : Host.Outcome State Fault Refusal :=
  match s.fromNode peer datagram 0x21 with
  | (s, none) => .next s
  | (s, some (k, j)) =>
    if j.body.length ≠ 16 then .next s.jfpDiscard
    else
      let id := fieldAt j.body 0 4
      let rev := fieldAt j.body 4 1
      let ok : Bool := fieldAt j.body 5 1 = 0
      let s := s.nodeAnswered k ok
      if ok then
        .next (s.modNode k fun x =>
          { x with waiting := x.waiting.filter fun c => !(c.id = id && c.rev = rev && s.wNow ≤ c.deadline) })
      else .next s

/-- The carrier's failure (11 R336, 08 R236): every dwell of the piece is invalid. -/
def State.carrierFailed (s : State) (piece : Nat) : State :=
  let s := s.bump Key.carrierFailCount
  { s with atoll := { s.atoll with
      grids := s.atoll.grids.map fun g => if g.piece = piece then { g with carrierBad := true } else g } }

/-- NODE_ACK_DEADLINE (11 R336): the deadline of a command passes without its acknowledgement. -/
def execNodeAckDeadline (k : Fin 1024) (cmdId : BitVec 32) (s : State) : Host.Outcome State Fault Refusal :=
  match (s.node k).waiting.find? fun c => c.id = cmdId.toNat && c.deadline ≤ s.wNow with
  | none => .next s
  | some c =>
    let s := s.modNode k fun x => { x with waiting := x.waiting.filter fun o => o ≠ c }
    let s := s.bump (Key.nodeAckFail k)
    .next (if c.code = cmdCarrierStart then s.carrierFailed c.piece else s)

/-- EVENT_NOTIFY of a node (11 R337): codes 0x0100 to 0xFFFF leave their first 8 bytes in `NodeLastEvent`. -/
def execEventNotify (peer : Peer) (datagram : List Byte) (s : State) : Host.Outcome State Fault Refusal :=
  match s.fromNode peer datagram 0x30 with
  | (s, none) => .next s
  | (s, some (k, j)) =>
    if j.body.length < 16 || fieldAt j.body 0 2 < 0x0100 then .next s.jfpDiscard
    else .next (s.setNum (Key.nodeLastEvent k) (fieldAt j.body 16 8))

/-! ## Node sessions (11 R334, R341) -/

/-- A period or probe begins: UP goes LOST after `NodeMissMax` without a valid answer (11 R341). -/
def State.nodePeriod (s : State) (k : Nat) : State :=
  let s :=
    if s.num (Key.nodeState k) = 2 && s.num Key.nodeMissMax ≤ (s.node k).missed then
      (s.setNode k 3).trouble 0x0050 k 1 0
    else s
  s.modNode k fun x => { x with missed := x.missed + 1, lastOut := s.wNow }

/-- CYCLIC_OUT (11 R334): the frame of the latest multiple of `NodeCyclicPeriod` in W. -/
def execCyclicOut (k : Fin 1024) (s : State) : Host.Outcome State Fault Refusal :=
  let k := k.val
  let period := 1000 * s.num (Key.nodeCyclicPeriod k)
  let launch := if period = 0 then 0 else s.wNow / period * period
  if period = 0 || s.num (Key.nodeState k) = 0 || launch ≤ (s.node k).lastOut then .next s
  else
    let s := s.nodePeriod k
    let body := leBytes 4 (s.node k).cycCount ++ zeros 4 ++ leBytes 8 launch ++ s.blob (Key.nodeCyclicOut k)
    let s := s.modNode k fun x => { x with cycCount := (x.cycCount + 1) % pow2 32 }
    .next (s.sendNode k (s.num (Key.nodeCyclicTc k)) 0x10 0 none body)

/-- NODE_PROBE (11 R341): a PING every `NodeProbePeriod` to a node without a cyclic period. -/
def execNodeProbe (k : Fin 1024) (s : State) : Host.Outcome State Fault Refusal :=
  let k := k.val
  if s.num (Key.nodeCyclicPeriod k) ≠ 0 || s.num (Key.nodeState k) = 0
      || s.wNow < (s.node k).lastOut + 1000000 * s.num Key.nodeProbePeriod then .next s
  else .next ((s.nodePeriod k).sendImmediate k 3 cmdPing [])

/-- The queues with only the frames that meet p. -/
def keepFrames (p : Frame → Bool) (q : Tbl (List Frame)) : Tbl (List Frame) :=
  q.filterMap fun (e : Nat × List Frame) => let r := e.2.filter p; if r.isEmpty then none else some (e.1, r)

/-- The pending commands of node k discarded (11 R341): queued frames, marks, and what waits for acknowledgement. -/
def State.discardNode (s : State) (k : Nat) : State :=
  let s := { s with net := { s.net with
      queues := keepFrames (fun f => !(f.node = some k && f.msg = 0x20)) s.net.queues
      marks := s.net.marks.filter (·.node ≠ k) } }
  s.modNode k fun x => { x with waiting := [] }

/-- `NodeEnable` and `NodeClass` in effect (11 R341): IDLE goes to PROBE, any state to IDLE. -/
def State.nodeSettle (s : State) (k : Nat) : State :=
  let on := s.flag (Key.nodeEnable k) && s.num (Key.nodeClass k) ≠ 0
  if on && s.num (Key.nodeState k) = 0 then (s.setNode k 1).modNode k fun x => { x with missed := 0 }
  else if !s.flag (Key.nodeEnable k) && s.num (Key.nodeState k) ≠ 0 then (s.setNode k 0).discardNode k
  else s

/-! ## Marks (11 R342–R344) -/

/-- The aim of a mark in 2^−16 lines: the aim line, and the node's distance (11 R342). -/
def State.markAim (s : State) (cls k lineMin lineExt centOfs : Nat) : Int :=
  let base : Nat := match s.num (Key.markAim cls) with
    | 0 => lineMin * 65536
    | 1 => lineMin * 65536 + centOfs * 4096
    | _ => (lineMin + lineExt) * 65536
  (base : Int) + s.int (Key.markAimOfs cls) + divRound (s.num (Key.nodeDistance k) * 1000 * 65536 : Nat) (s.num Key.pitchY)

/-- The predicted arrival in W of an aim, from now (11 R342); `none` below `MarkMinSpeed` (11 R344). -/
def State.predict (s : State) (aim : Int) : Option Int :=
  let v := s.velocityAt (s.num Key.webEncoder) s.now
  if microns v < s.num Key.markMinSpeed then none
  else some ((s.wNow : Int) + divRound ((aim - s.webPos16 s.now) * s.num Key.pitchY * 65536) v.toNat)

/-- Waiting for acknowledgement under the new revision and deadline (11 R336, R343). -/
def State.rearmCmd (s : State) (m : MarkCmd) : State :=
  s.modNode m.node fun x =>
    { x with waiting := (x.waiting.filter (·.id ≠ m.id)) ++ [⟨m.id, m.rev, cmdMark, m.act, 0⟩] }

/-- The wire body of a mark (11 R335, R343). -/
def MarkCmd.body (m : MarkCmd) : List Byte :=
  nodeCmdBody m.id m.rev (2 * bit (0 < m.rev) + 4 * bit m.late) cmdMark m.act m.recSeq (leBytes 8 m.param)

/-- A mark in the list replaced. -/
def State.putMark (s : State) (m : MarkCmd) : State :=
  { s with net := { s.net with
      marks := s.net.marks.map fun o => if o.node = m.node && o.id = m.id then m else o } }

/-- A mark taken off the list. -/
def State.dropMark (s : State) (m : MarkCmd) : State :=
  { s with net := { s.net with marks := s.net.marks.filter fun o => !(o.node = m.node && o.id = m.id) } }

/-- A mark dropped and counted; it waits for no acknowledgement. -/
def State.loseMark (s : State) (m : MarkCmd) : State :=
  (((s.dropMark m).modNode m.node fun x => { x with waiting := x.waiting.filter (·.id ≠ m.id) })).bump Key.markDropped

/-- A mark whose launch time has passed leaves at once with `LATE` (11 R344). -/
def State.launchLate (s : State) (m : MarkCmd) : State :=
  let m := { m with late := true }
  (((s.rearmCmd m).dropMark m).bump Key.markLate).sendNode m.node 7 0x20 m.id none m.body

/-- A prediction of one uncommitted mark (11 R342–R344). -/
def State.predictMark (s : State) (m : MarkCmd) : State :=
  match s.predict m.aim with
  | none => s.putMark { m with queued := false, heldSince := some (m.heldSince.getD s.wNow) }
  | some t =>
    if t ≤ s.wNow then s.loseMark m
    else
      let act := t.toNat
      let launch := act - s.num (Key.nodeLeadTime m.node)
      let first := m.act = 0
      let moved : Bool := (s.num Key.relaunchTol : Int) < ((launch : Int) - m.launch).natAbs
      let m' := { m with act := act, launch := launch, queued := true, heldSince := none,
                         rev := if first then 0 else min 255 (m.rev + 1), order := s.net.order }
      if launch < s.wNow then s.launchLate m'
      else if first then
        let m' := { m' with committed := launch ≤ s.wNow + 1000 * s.num Key.commitLead }
        (({ s with net := { s.net with order := s.net.order + 1 } }).putMark m').rearmCmd m'
      else if !m.queued || moved then
        ((({ s with net := { s.net with order := s.net.order + 1 } }).putMark m').rearmCmd m').bump Key.markRelaunched
      else s

/-- A defect record of class `cls` becomes available: its MARK command, if the class is bound (11 R342). -/
def State.newMark (s : State) (cls recSeq lineMin lineExt centOfs : Nat) : State :=
  let k := s.num (Key.markNode cls)
  if 1024 ≤ k then s
  else if 4096 ≤ s.net.marks.length then s.bump Key.markDropped
  else
    let id := (s.node k).nextCmd
    let m : MarkCmd :=
      { node := k, id := id, recSeq := recSeq, param := s.num (Key.markParam cls), aim := s.markAim cls k lineMin lineExt centOfs }
    let s := s.modNode k fun x => { x with nextCmd := (x.nextCmd + 1) % pow2 32 }
    let s := ({ s with net := { s.net with marks := s.net.marks ++ [m] } }).bump Key.markIssued
    s.predictMark m

/-- A defect record's MARK command, which waits while T1 restarts (13 R390). -/
def State.requestMark (s : State) (r : MarkRequest) : State :=
  if s.power.restarting.contains 1 then { s with net := { s.net with fresh := s.net.fresh ++ [r] } }
  else s.newMark r.cls r.recSeq r.lineMin r.lineExt r.centOfs

/-- The commands that waited for T1 are made (13 R390). -/
def State.releaseMarks (s : State) : State :=
  s.net.fresh.foldl State.requestMark { s with net := { s.net with fresh := [] } }

/-- Whether a mark has reached its commit (11 R343). -/
def State.markDue (s : State) (m : MarkCmd) : Bool :=
  m.queued && m.launch ≤ s.wNow + 1000 * s.num Key.commitLead

/-- MARK_REPREDICT (11 R343): at an output of the motion filter, every uncommitted mark; while T1 restarts,
frames keep their last prediction (13 R390). -/
def execMarkRepredict (s : State) : Host.Outcome State Fault Refusal :=
  .next (if s.power.restarting.contains 1 then s else s.net.marks.foldl (fun s m =>
    if m.committed then s
    else if s.markDue m then s.putMark { m with committed := true }
    else s.predictMark m) s)

/-- A node's mark by command id. -/
def State.mark? (s : State) (k id : Nat) : Option MarkCmd := s.net.marks.find? fun m => m.node = k && m.id = id

/-- MARK_COMMIT (11 R343): from t_L − `CommitLead` the frame is fixed. -/
def execMarkCommit (k : Fin 1024) (cmdId : BitVec 32) (s : State) : Host.Outcome State Fault Refusal :=
  match s.mark? k.val cmdId.toNat with
  | none => .next s
  | some m => .next (if s.markDue m then s.putMark { m with committed := true } else s)

/-- MARK_HOLD_TIMEOUT (11 R344): a command held longer than `MarkHoldMax` is dropped. -/
def execMarkHoldTimeout (k : Fin 1024) (cmdId : BitVec 32) (s : State) : Host.Outcome State Fault Refusal :=
  match s.mark? k.val cmdId.toNat with
  | none => .next s
  | some m => match m.heldSince with
    | none => .next s
    | some t =>
      if t + 1000000 * s.num Key.markHoldMax < s.wNow then .next ((s.loseMark m).trouble 0x0052 k.val 1 m.recSeq)
      else .next s

/-! ## Class 7 (11 R327, R328, R344) -/

/-- The class-7 frames of a port that wait for a launch, and its queued marks as frames. -/
def State.class7 (s : State) (p : Nat) : List Frame :=
  tblGet s.net.queues [] (queueKey p 7)
    ++ (s.net.marks.filter fun m => m.queued && s.num (Key.nodePort m.node) = p).map fun m =>
        { cls := 7, node := some m.node, cmdId := m.id, launch := some m.launch, msg := 0x20, bytes := m.body, order := m.order }

/-- The first frame in launch order: ascending launch time, then queueing order (11 R328). -/
def firstLaunch (fs : List Frame) : Option Frame :=
  fs.foldl (fun best f =>
    match best with
    | none => some f
    | some b =>
      let lb := b.launch.getD 0
      let lf := f.launch.getD 0
      if lf < lb || (lf = lb && f.order < b.order) then some f else best) none

/-- The bound of 03 R97, and the window in which a second frame counts as late (11 R328, R344), in ns. -/
def class7Bound (mode : Nat) : Nat × Nat := if mode = 1 then (120, 1114) else (1200, 2136)

/-- CLASS7_LAUNCH (11 R327, R328): the first class-7 frame of a port whose launch time has come. -/
def execClass7Launch (port : Fin 4) (s : State) : Host.Outcome State Fault Refusal :=
  let p := port.val
  match firstLaunch (s.class7 p) with
  | none => .next s
  | some f =>
    let t := f.launch.getD 0
    if !s.flag (Key.fldLinkUp p) || s.wNow < t then .next s
    else
      let b := class7Bound (s.num (Key.fldMode p))
      let close : Bool := match tblFind s.net.launched p with | none => false | some l => t < l + b.2
      let late : Bool := f.launch.isSome && (b.1 < s.wNow - t || close)
      let s := { s with net := { s.net with
          launched := if f.launch.isSome then tblSet s.net.launched p t else s.net.launched
          queues := tblMod s.net.queues [] (queueKey p 7) fun q => q.filter (· ≠ f)
          marks := s.net.marks.filter fun m => !(some m.node = f.node && m.id = f.cmdId) } }
      .next ((s.bumpIf late (Key.tc7LateCount p)).emitFrame p f)

/-! ## SAFE and FAULT (11 R345) -/

/-- Every pending NODE_CMD is discarded; MARK_OFF and CARRIER_STOP go out (11 R345). -/
def State.stopNodes (s : State) : State :=
  let gone := (s.net.queues.flatMap (·.2)).filter (·.msg = 0x20)
  let s := gone.foldl (fun s f => match f.node with
    | none => s
    | some k => s.modNode k fun x => { x with waiting := x.waiting.filter (·.id ≠ f.cmdId) }) s
  let s := s.net.marks.foldl (fun s m => s.modNode m.node fun x => { x with waiting := x.waiting.filter (·.id ≠ m.id) }) s
  let s := { s with net := { s.net with
      queues := keepFrames (·.msg ≠ 0x20) s.net.queues
      marks := [], fresh := [] } }
  let on := (s.dict.vals.filter fun (e : Nat × Slot) =>
    0x7400 ≤ e.1 / 256 && e.1 / 256 < 0x7800 && e.1 % 256 = 1 && e.2 = 1).map fun (e : Nat × Slot) => e.1 / 256 - 0x7400
  on.foldl (fun s k =>
    if s.num (Key.nodeClass k) = 1 then s.sendImmediate k 7 cmdMarkOff []
    else if s.num (Key.nodeClass k) = 3 then s.sendImmediate k 7 cmdCarrierStop []
    else s) s

/-! ## NODE_CMD_WRITE, KEY_LOAD, KEY_ERASE (11 R338, R347, R348) -/

/-- Whether a node class allows an integrator code (11 R335): STROBE, FOCUS and GENERIC take 0x0020 to 0x00FF. -/
def codeAllowed (cls code : Nat) : Bool := 0x0020 ≤ code && code ≤ 0x00FF && (cls = 2 || cls = 4 || cls = 5)

/-- The checks of a `NodeCmdWrite` (11 R348). -/
def State.nodeCmdFails (s : State) (k : Nat) (data : List Byte) : List Nat :=
  let act := fieldAt data 8 8
  failIf (!codeAllowed (s.lastNum (Key.nodeClass k)) (fieldAt data 0 2)) resConflict
    ++ failIf (fieldAt data 2 6 ≠ 0 || (act ≠ 0 && act ≤ s.wNow)) resRange

/-- The effect of a `NodeCmdWrite` (11 R348). -/
def State.nodeCmdEffect (s : State) (k : Nat) (data : List Byte) : State :=
  let act := fieldAt data 8 8
  let code := fieldAt data 0 2
  if act = 0 then s.sendImmediate k 3 code (data.drop 16)
  else
    let r := s.sendTimed k code act 0 (data.drop 16)
    r.2.bumpIf r.1 (Key.nodeCmdLate k)

/-- NODE_CMD_WRITE (11 R348). -/
def execNodeCmdWrite (src : Source) (k : Fin 1024) (data : List Byte) (s : State) : Host.Outcome State Fault Refusal :=
  .next (s.attemptBlock src (Key.nodeCmdWrite k) data (s.nodeCmdFails k.val data) fun s => s.nodeCmdEffect k.val data).state

/-- The checks of a `KeyLoad` (11 R347). -/
def keyLoadFails (data : List Byte) : List Nat := failIf (32 ≤ fieldAt data 0 1 || fieldAt data 1 3 ≠ 0) resRange

/-- The effect of a `KeyLoad` (11 R338, R347). -/
def State.keyLoadEffect (s : State) (data : List Byte) : State :=
  { s with net := { s.net with
      keys := tblPut s.net.keys {} (fieldAt data 0 1) { ip := fieldAt data 4 4, key := bytesAt data 8 32 } } }

/-- KEY_LOAD (11 R338). -/
def execKeyLoad (src : Source) (data : List Byte) (s : State) : Host.Outcome State Fault Refusal :=
  .next (s.attemptBlock src Key.keyLoad data (keyLoadFails data) fun s => s.keyLoadEffect data).state

/-- The effect of a `KeyErase` (11 R347). -/
def State.keyEraseEffect (s : State) (v : Slot) : State :=
  { s with net := { s.net with keys := tblPut s.net.keys {} v.toNat {} } }

/-- KEY_ERASE (11 R338). -/
def execKeyErase (src : Source) (value : Slot) (s : State) : Host.Outcome State Fault Refusal :=
  .next (s.command src Key.keyErase value (fun _ => []) fun v s => s.keyEraseEffect v)

end Sys2Proof.Machine
end

