-- ==== Sys2Proof/Machine/Delivery.lean ====
section
/-! DEFINITION. Delivery of the streams' units: routes, staging shares, record batches (09 R251, R264–R266; 11 R337). -/

namespace Sys2Proof.Machine

open Sys2Proof

/-! ## Routes and staging (09 R264, R265) -/

/-- The arrivals at a staging share: stream st towards its host share, or st + 8 towards an engine's. -/
def arrivalKey (st : Nat) (toEngine : Bool) : Nat := if toEngine then st + 8 else st

/-- The units of a stream that have not reached their staging share. -/
def State.arrivals (s : State) (k : Nat) : List SUnit := tblGet s.streams.units [] k

/-- The units on their way to a staging share replaced. -/
def State.setArrivals (s : State) (k : Nat) (us : List SUnit) : State :=
  { s with streams := { s.streams with units := tblPut s.streams.units [] k us } }

/-- The bytes of one of the 16 shares (09 R265). -/
def State.shareSize (s : State) : Nat := s.num Key.stagingSize / 16

/-- The bytes of a list of units. -/
def unitBytes (us : List SUnit) : Nat := sumNat (us.map fun (u : SUnit) => u.bytes.length)

/-- An engine. -/
def State.engine (s : State) (e : Nat) : Engine := tblGet s.streams.engines {} e

/-- An engine changed. -/
def State.modEngine (s : State) (e : Nat) (f : Engine → Engine) : State :=
  { s with streams := { s.streams with engines := tblMod s.streams.engines {} e f } }

/-- The bytes a piece of work holds in the engine's staging share: the input of a stream unit (09 R265, R273). -/
def CompWork.held (w : CompWork) : Nat := if w.source = 0xFF then 0 else sumNat (w.parts.map (·.length))

/-- The bytes in engine e's staging share. -/
def State.engineHeld (s : State) (e : Nat) : Nat :=
  let x := s.engine e
  sumNat (x.ready.map (·.held)) + (match x.work with | none => 0 | some w => w.held)

/-- Whether a piece of work is the compression unit of stream st for strip k. -/
def CompWork.isUnit (w : CompWork) (st k : Nat) : Bool := w.source = st && w.strip = k

/-- Data of stream st for a strip joins its compression unit at engine e: all of one stream's data for one strip, ready
from its first byte (09 R267). -/
def State.joinUnit (s : State) (e st : Nat) (u : SUnit) : State :=
  let add := fun (w : CompWork) => if w.isUnit st u.strip then { w with parts := w.parts ++ [u.bytes] } else w
  s.modEngine e fun x =>
    if (match x.work with | none => false | some w => w.isUnit st u.strip) then { x with work := x.work.map add }
    else if x.ready.any (·.isUnit st u.strip) then { x with ready := x.ready.map add }
    else { x with ready := x.ready ++ [{ source := st, strip := u.strip, parts := [u.bytes] }] }

/-- STAGING_UNIT (09 R265): the oldest unit of a stream on its way to a share is kept, or discarded whole and counted. -/
def execStagingUnit (stream : Fin 8) (toEngine : Bool) (s : State) : Host.Outcome State Fault Refusal :=
  let st := stream.val
  let k := arrivalKey st toEngine
  match s.arrivals k with
  | [] => .next s
  | u :: rest =>
    let s := s.setArrivals k rest
    let fill := if toEngine then s.engineHeld u.engine else unitBytes (s.shareHost st)
    if s.shareSize < fill + u.bytes.length then .next (s.bump (Key.unitsDiscarded st))
    else if toEngine then .next (s.joinUnit u.engine st u)
    else .next ((s.setShareHost st (s.shareHost st ++ [u])).serveRing st)

/-! ## Record batches (09 R266, 11 R337) -/

/-- The records a full batch holds: 22 of stream 6, 44 of stream 7 (11 R337). -/
def batchFull (emitter : Bool) : Nat := if emitter then 44 else 22

/-- A batch: 0 of stream 6, 1 of stream 7. -/
def State.batch (s : State) (emitter : Bool) : Batch := tblGet s.streams.batches {} (bit emitter)

/-- A batch replaced. -/
def State.setBatch (s : State) (emitter : Bool) (b : Batch) : State :=
  { s with streams := { s.streams with batches := tblPut s.streams.batches {} (bit emitter) b } }

/-- Whether a record goes to the field (09 R266). -/
def State.fieldWants (s : State) (emitter : Bool) (bytes : List Byte) : Bool :=
  let t := fieldAt bytes 0 1
  s.num Key.fieldRecordNode < 1024 && (emitter ||
    (bitAt (s.num Key.fieldTypeMask) t
      && (t ≠ 1 || (let c := fieldAt bytes 2 1; bitAt (fieldAt (s.blob Key.fieldClassMask) (c / 8) 1) (c % 8)))))

/-- A record joins its batch, or is dropped at a full queue of its class (09 R266). -/
def State.toField (s : State) (emitter : Bool) (bytes : List Byte) : State :=
  let port := s.num (Key.nodePort (s.num Key.fieldRecordNode))
  if !s.fieldWants emitter bytes then s
  else if 64 ≤ (tblGet s.net.queues [] (queueKey port (s.num Key.fieldRecordTc))).length then s.bump Key.fieldRecordsDropped
  else
    let b := s.batch emitter
    s.setBatch emitter { records := b.records ++ [bytes], opened := if b.records.isEmpty then s.now else b.opened }

/-- A batch closes and leaves for `FieldRecordNode` (11 R337); what exceeds a full batch opens the next. -/
def State.sendBatch (s : State) (emitter : Bool) : State :=
  let b := s.batch emitter
  let out := b.records.take (batchFull emitter)
  let s := s.setBatch emitter { records := b.records.drop (batchFull emitter), opened := s.now }
  let s := s.setBatch emitter (let c := s.batch emitter; if c.records.isEmpty then {} else c)
  let k := s.num Key.fieldRecordNode
  if out.isEmpty || 1024 ≤ k then s
  else
    (s.add Key.fieldRecordsSent out.length).sendNode k (s.num Key.fieldRecordTc) 0x30 0 none
      (eventNotifyBody (if emitter then 2 else 1) out.length s.wNow out.flatten)

/-- RECORD_BATCH_SEND (11 R337): a full batch leaves. -/
def execRecordBatchSend (emitter : Bool) (s : State) : Host.Outcome State Fault Refusal :=
  .next (s.when (batchFull emitter ≤ (s.batch emitter).records.length) (·.sendBatch emitter))

/-- RECORD_BATCH_TIMEOUT (11 R337): `RecordBatchTime` after its first record a batch leaves. -/
def execRecordBatchTimeout (emitter : Bool) (s : State) : Host.Outcome State Fault Refusal :=
  let b := s.batch emitter
  .next (s.when (!b.records.isEmpty && b.opened + 1000 * s.num Key.recordBatchTime ≤ s.now) (·.sendBatch emitter))

/-! ## Units (09 R251, R264) -/

/-- A unit of stream st for strip k sets out to every destination of the stream's route (09 R264). -/
def State.putUnit (s : State) (st strip : Nat) (bytes : List Byte) : State :=
  let r := s.num (Key.route st)
  let u : SUnit := { bytes := bytes, strip := strip, engine := s.num (Key.compEngine st) }
  let s := if bitAt r 0 then s.setArrivals st (s.arrivals st ++ [u]) else s
  let s := if bitAt r 1 then s.setArrivals (st + 8) (s.arrivals (st + 8) ++ [u]) else s
  if bitAt r 2 && (st = 6 || st = 7) then s.toField (st = 7) bytes else s

end Sys2Proof.Machine
end

