-- ==== Sys2Proof/Machine/Lines.lean ====
section
/-! DEFINITION. The line streams S0 to S3 and the lookback ring (09 R252–R258); world lines leave Causeway here. -/

namespace Sys2Proof.Machine

open Sys2Proof

/-! ## World lines by number -/

/-- What is kept of world line l. -/
def State.past (s : State) (l : Nat) : Option LinePast := s.cause.past.find? (·.line = l)

/-- Whether world line l is among those never formed (03 R88). -/
def State.neverFormed (s : State) (l : Nat) : Bool := s.cause.never.any fun (r : Nat × Nat) => r.1 ≤ l && l < r.2

/-- The recent line nearest to l. -/
def State.nearestLine (s : State) (l : Int) : WorldLine :=
  (s.cause.recent.foldl (fun (best : Option WorldLine) (x : WorldLine) => match best with
    | none => some x
    | some b => if ((x.line : Int) - l).natAbs < ((b.line : Int) - l).natAbs then some x else some b) none).getD {}

/-! ## Samples and headers (09 R252) -/

/-- A u16 sample as a u8 sample (09 R252). -/
def toU8 (v : Nat) : Nat := min 255 ((v + 128) / 256)

/-- Samples of one plane row in the stream's format, 1 u8 or 2 u16. -/
def packRow (fmt : Nat) (row : List Nat) : List Byte :=
  row.flatMap fun v => if fmt = 1 then leBytes 1 (toU8 v) else leBytes 2 v

/-- A payload padded with zero bytes to a multiple of 64. -/
def pad64 (b : List Byte) : List Byte := b ++ zeros (round64 b.length - b.length)

/-- The code of a format: `SL_FORMAT`, `CH_FORMAT` (09 R252, R261). -/
def formatCode (fmt planes : Nat) : Nat := bit (fmt = 2) + 2 * planes

/-- The `SL_FLAGS` of the OR of the marks read, with `SKIPPED` (09 R252). -/
def lineFlags (marks skipped : Nat) : Nat :=
  bit (0 < skipped) + 2 * bit (bitAt marks 3) + 4 * bit (bitAt marks 1) + 8 * bit (bitAt marks 0) + 16 * bit (bitAt marks 2)

/-- What a line of S0 to S3 says of itself. -/
structure StreamLine where
  stream  : Nat
  marks   : Nat
  fmt     : Nat
  planes  : Nat
  factors : Nat
  width   : Nat
  line    : Nat
  time    : Int
  strip   : Nat
  col     : Nat
  skipped : Nat
  edgeL   : Nat
  edgeR   : Nat
  payload : List Byte

/-- The line with its 64-byte header (09 R252). -/
def StreamLine.bytes (x : StreamLine) : List Byte :=
  let h := leBytes 1 x.stream ++ leBytes 1 (lineFlags x.marks x.skipped) ++ leBytes 1 (formatCode x.fmt x.planes)
    ++ leBytes 1 x.factors ++ leBytes 4 x.width ++ leBytes 8 x.line ++ leBytes 8 (toTwos 64 x.time) ++ leBytes 8 x.strip
    ++ leBytes 4 x.col ++ leBytes 4 (min x.skipped 0xFFFFFFFF) ++ leBytes 4 x.edgeL ++ leBytes 4 x.edgeR
    ++ leBytes 4 x.payload.length ++ zeros 8
  h ++ leBytes 4 (crc32 h) ++ x.payload

/-- The planes of a world line that a stream carries: Y alone, or all (09 R252). -/
def streamPlanes {α : Type} (all : Nat) (planes : List α) : List α := if all = 1 then planes else planes.drop (planes.length - 1)

/-- The OR of marks. -/
def orMarks (ms : List Nat) : Nat := ms.foldl (· ||| ·) 0

/-! ## S0 and the lookback ring (09 R253–R256) -/

/-- The width of S0's crop, W_c. -/
def State.s0Width (s : State) : Nat := if s.num Key.s0CropWidth = 0 then s.num Key.worldWidth else s.num Key.s0CropWidth

/-- The planes of S0, n_p. -/
def State.s0PlaneCount (s : State) : Nat := if s.num Key.s0Planes = 1 then s.num Key.worldPlanes else 1

/-- The bytes of a ring slot, S (09 R253). -/
def State.slotBytes (s : State) : Nat := 64 + round64 (s.s0Width * s.s0PlaneCount * s.num Key.s0Format)

/-- The slots of the ring, D (09 R253). -/
def State.slotCount (s : State) : Nat := s.num Key.ringSize / s.slotBytes

/-- Where world line l lies in the ring. -/
def State.slotAddr (s : State) (l : Nat) : Nat := s.num Key.ringBase + l % s.slotCount * s.slotBytes

/-- Whether the ring holds world line l of this run: its slot's `LINE` reads l, and l was formed (09 R254). -/
def State.inRing (s : State) (l : Nat) : Bool :=
  s.flag Key.s0RingEn && 0 < s.slotCount && l < s.cause.nextLine && !s.neverFormed l
    && ofLe (s.load (s.slotAddr l + 8) 8) = l

/-- Where the u16 sample at column x of the crop and plane i of a ring slot lies; a u8 ring is not read so. -/
def State.sampleAddr (s : State) (l i x : Nat) : Nat := s.slotAddr l + 64 + 2 * (i * s.s0Width + x)

/-- The u16 sample at column x of the crop and plane i of a ring slot. -/
def State.ringSample (s : State) (l i x : Nat) : Nat := ofLe (s.load (s.sampleAddr l i x) 2)

/-- A sample of a world row for S0: the spec gives none outside the world (a free value, log entry 25). -/
def State.s0Sample (s : State) (row : List Nat) (x : Nat) : Nat := row.getD x (s.free % 65536)

/-- A slot of the ring: the line with its header; with `S0Enable` 0 no header is formed but `LINE`, which R254 writes with
every slot (09 R256). -/
def slotImage (enabled : Bool) (line : Nat) (bytes : List Byte) : List Byte :=
  if enabled then bytes else zeros 8 ++ leBytes 8 line ++ zeros 48 ++ bytes.drop 64

/-- World line w enters S0 and the ring (09 R253, R254, R256). -/
def State.putS0 (s : State) (w : WorldLine) : State :=
  if !s.flag Key.s0Enable && !s.flag Key.s0RingEn then s
  else
    let first := s.num Key.s0CropFirst
    let width := s.s0Width
    let fmt := s.num Key.s0Format
    let rows := (streamPlanes (s.num Key.s0Planes) w.planes).map fun row => (List.range width).map fun i => s.s0Sample row (first + i)
    let skipped := match s.cause.past with
      | [] => w.line
      | p :: _ => w.line - p.line - 1
    let x : StreamLine :=
      { stream := 0, marks := orMarks ((w.marks.drop first).take width), fmt := fmt, planes := s.num Key.s0Planes, factors := 0
        width := width, line := w.line, time := w.time, strip := w.strip, col := first, skipped := skipped, edgeL := w.edgeL
        edgeR := w.edgeR, payload := pad64 (rows.flatMap (packRow fmt)) }
    let b := x.bytes
    let s := if w.marks.length < first + width then s.stepFree else s
    let on := s.flag Key.s0Enable
    let s := if s.flag Key.s0RingEn && 0 < s.slotCount then
        (s.store (s.slotAddr w.line) (slotImage on w.line b)).setNum Key.ringNewest w.line
      else s
    let s := s.measure qBytes b.length w.strip
    if on then s.putUnit 0 w.strip b else s

/-! ## S1, S2 and S3 (09 R257, R258) -/

/-- The logarithm of a factor of 1 to 64. -/
def log2Factor (f : Nat) : Nat := (List.range 7).foldl (fun k i => if pow2 i ≤ f then i else k) 0

/-- The centre of output line or sample at f, of factor f, in 2^−16. -/
def outCentre (first f : Nat) : Int := (first * 65536 + (f - 1) * 32768 : Nat)

/-- The taps of a kernel at a position: lowest tap and coefficients (06 R173). -/
def tapsAt (kernel : Nat) (pos : Int) : Int × List Int :=
  let p := kernelPhase pos
  (p.1 + kernelMin kernel, kernelRow kernel p.2)

/-- One sample across a row; taps outside the world read the nearest edge column (09 R257). -/
def acrossSample (kernel : Nat) (pos : Int) (row : List Nat) : Nat :=
  let t := tapsAt kernel pos
  kernelSum t.2 ((List.range t.2.length).map fun (j : Nat) => row.getD (clampInt 0 ((row.length : Int) - 1) (t.1 + j)).toNat 0)

/-- The columns that the taps of an output line read. -/
def acrossColumns (kernel : Nat) (pos : Int) (width : Nat) : List Nat :=
  let t := tapsAt kernel pos
  (List.range t.2.length).map fun (j : Nat) => (clampInt 0 ((width : Int) - 1) (t.1 + j)).toNat

/-- The bit of stream i, 1 to 3, in `ShedMask` (03 R90). -/
def shedBit (i : Nat) : Nat := 4 - i

/-- Output line at L_f of stream i, 1 to 3, with the settings of L_f's strip (09 R257, R258). -/
def State.sxLine (s v : State) (i lf : Nat) : StreamLine :=
  let n := i - 1
  let fx := v.num (Key.sxFactorX n)
  let fy := v.num (Key.sxFactorY n)
  let first := v.num (Key.sxCropFirst n)
  let width := v.num (Key.sxCropWidth n) / fx
  let kx := v.num (Key.sxKernelX n)
  let t := tapsAt (v.num (Key.sxKernelY n)) (outCentre lf fy)
  let lines := (List.range t.2.length).map fun (j : Nat) =>
    let l := t.1 + j
    let w := s.nearestLine l
    (w, decide ((w.line : Int) ≠ l))
  let centres := (List.range width).map fun j => outCentre (first + fx * j) fx
  let np := ((lines.headD ({}, false)).1).planes.length
  let across := lines.map fun w => (streamPlanes (v.num (Key.sxPlanes n)) w.1.planes).map fun row =>
    centres.map fun c => acrossSample kx c row
  let rows := (List.range (if v.num (Key.sxPlanes n) = 1 then np else 1)).map fun p =>
    (List.range width).map fun j => kernelSum t.2 (across.map fun ps => (ps.getD p []).getD j 0)
  let cols := (centres.flatMap fun c => acrossColumns kx c (v.num Key.worldWidth)).eraseDups
  let marks := lines.foldl (fun m w => (m ||| orMarks (cols.map fun c => w.1.marks.getD c 0)) ||| (if w.2 then mGap else 0)) 0
  let own := s.nearestLine lf
  { stream := i, marks := marks, fmt := v.num (Key.sxFormat n), planes := v.num (Key.sxPlanes n)
    factors := log2Factor fx + 8 * log2Factor fy, width := width, line := lf, time := own.time, strip := s.stripAt lf
    col := first, skipped := tblGet s.streams.skipped 0 i, edgeL := own.edgeL, edgeR := own.edgeR
    payload := pad64 (rows.flatMap (packRow (v.num (Key.sxFormat n)))) }

/-- The last world line that the output line at L_f reads. -/
def lastTap (kernel f lf : Nat) : Int :=
  let t := tapsAt kernel (outCentre lf f)
  t.1 + t.2.length - 1

/-- Whether every world line of the run has been formed or passed: after the run, or in its drain past the last strip (01
R28). -/
def State.linesEnded (s : State) : Bool :=
  !s.inRun || s.life.draining && s.sched.strips.all fun x => match x.lineEnd with | none => false | some e => e ≤ s.cause.nextLine

/-- The output lines of stream i whose last tap line has been formed or passed (09 R257), shed lines and lines of strips
passed through counted as skipped (03 R87, R88). -/
def State.sxGo (i : Nat) : Nat → State → State
  | 0, s => s
  | fuel + 1, s =>
    let lf := tblGet s.streams.sxNext 0 i
    if s.cause.nextLine ≤ lf then s
    else
      let v := s.settingsFor (s.stripAt lf)
      let n := i - 1
      let next := { s with streams := { s.streams with sxNext := tblPut s.streams.sxNext 0 i (lf + 1) } }
      if !v.flag (Key.sxEnable n) || lf % v.num (Key.sxFactorY n) ≠ 0 then State.sxGo i fuel next
      else if !s.linesEnded && (s.cause.nextLine : Int) ≤ lastTap (v.num (Key.sxKernelY n)) (v.num (Key.sxFactorY n)) lf then s
      else if bitAt (s.num Key.shedMask) (shedBit i) || s.neverFormed lf
          || (match s.stripOf lf with | none => false | some x => x.passed) then
        State.sxGo i fuel { next with streams := { next.streams with skipped := tblMod next.streams.skipped 0 i (· + 1) } }
      else
        let x := s.sxLine v i lf
        let next := { next with streams := { next.streams with skipped := tblPut next.streams.skipped 0 i 0 } }
        let next := ((next.bump (Key.sxLinesOut n)).measure qBytes x.bytes.length x.strip).putUnit i x.strip x.bytes
        State.sxGo i fuel next

/-- Streams S1 to S3 brought up to date. -/
def State.sxLines (s : State) : State :=
  [1, 2, 3].foldl (fun s i => State.sxGo i (s.cause.nextLine + 1 - tblGet s.streams.sxNext 0 i) s) s

/-! ## World lines leave Causeway (06 R169) -/

/-- The line just formed goes to S0, and is kept for S1 to S3 and for the records of the run. -/
def State.handLine (s : State) (w : WorldLine) : State :=
  let s := s.putS0 w
  let s := { s with cause := { s.cause with
      recent := (w :: s.cause.recent).take 256
      past := ⟨w.line, w.time, w.edgeL⟩ :: s.cause.past } }
  s.sxLines

/-- Whether port n bounds world line l: it is not in a span there, or in one whose end is known. -/
def State.boundsLine (s : State) (n l : Nat) : Bool :=
  !s.inSpan n l || (s.geo n).spans.any fun (x : Span) => x.holds l && x.stop.isSome

/-- Whether world line l lies in a strip that has ended. -/
def State.stripEnded (s : State) (l : Nat) : Bool :=
  match s.stripOf l with
  | none => false
  | some x => x.lineEnd.isSome

/-- WORLD_LINE_FORM (06 R169, R181, R182; 09 R254, R257): the next world line, when every port that covers it is ready or
in a span there and Reef and Atoll take lines. Where every port is in a span without end, only lines of strips that have ended
(log entry 24). -/
def execWorldLineForm (s : State) : Host.Outcome State Fault Refusal :=
  let l := s.cause.nextLine
  let ports := s.enabledPorts
  let bounded : Bool := ports.any (s.boundsLine · l) || s.stripEnded l
  if !s.inRun || s.linesEnded || s.recordHold || !(ports.all fun n => s.portSettled n l) || !bounded then .next s
  else
    let s := s.formWorldLine l
    match s.cause.formed.getLast? with
    | none => .next s
    | some w => .next (s.handLine w)

end Sys2Proof.Machine
end

