-- ==== Sys2Proof/Machine/Emission.lean ====
section
/-! DEFINITION. The record stream of Reef: order, sequence numbers, the queue, what a record sets off (07 R217–R224, 03 R78,
09 R259, 11 R342), and pieces (07 R220–R222). -/

namespace Sys2Proof.Machine

open Sys2Proof

/-! ## Times of lines (06 R194) -/

/-- T(l) where world line l has been formed. -/
def State.timeOf (s : State) (l : Nat) : Option Int := (s.past l).map (·.time)

/-- T(l), or W now where l was never formed (07 R217, R219). -/
def State.timeOrNow (s : State) (l : Nat) : Nat := toTwos 64 ((s.timeOf l).getD s.wNow)

/-- The filtered left edge of world line l, or the one in effect (07 R220). -/
def State.edgeOf (s : State) (l : Nat) : Nat := match s.past l with
  | some p => p.edgeL
  | none => s.cause.left.value

/-! ## Sealing (07 R217, R223) -/

/-- A 62-byte body with its SEQ and its CRC16. -/
def sealRecord (body : List Byte) (seq : Nat) : List Byte :=
  let b := body.take 8 ++ leBytes 8 seq ++ bytesAt body 16 46
  b ++ leBytes 2 (crc16 b)

/-- A body with its time field replaced. -/
def withTime (body : List Byte) (t : Nat) : List Byte := body.take 16 ++ leBytes 8 t ++ body.drop 24

/-! ## Chip requests (09 R259, R260) -/

/-- A chip's window on one axis: start and whether it was shifted. -/
def shiftWindow (a : Int) (n lo hi : Nat) : Nat × Bool :=
  let b := clampInt lo ((hi : Int) - n) a
  (b.toNat, a ≠ b)

/-- The chip request of a defect record (09 R259); `base` makes its columns absolute. -/
def State.requestChip (s : State) (r : List Byte) (base close avail : Nat) : State :=
  let cls := fieldAt r 2 2
  let e := fieldAt (s.blob Key.chipClassTable) (4 * (cls % 256)) 4
  let w := bitsAt e 0 11
  let h := bitsAt e 16 11
  if !s.flag Key.chipEnable || w = 0 || h = 0 then s
  else if bitAt (s.num Key.shedMask) 4 then s.bump Key.chipsShed
  else if 4096 ≤ s.streams.chips.length then s.bump Key.chipsQueueFull
  else
    let lo := s.num Key.s0CropFirst
    let crop := s.s0Width
    let width := min w crop
    let x := shiftWindow ((fieldAt r 48 4 / 16 + base : Nat) - (w / 2 : Int)) width lo (lo + crop)
    let l : Int := (fieldAt r 24 8 + fieldAt r 52 4 / 16 : Nat) - (h / 2 : Int)
    let c : ChipReq :=
      { recSeq := fieldAt r 8 8, col := x.1, line := l.toNat, width := width, height := h
        flags := bit ((x.2 && w ≤ crop) || l < 0) + 2 * bit (crop < w), cls := cls, piece := fieldAt r 4 4
        time := fieldAt r 16 8, endLine := max (l.toNat + h - 1) close, avail := avail }
    let s := { s with streams := { s.streams with chips := s.streams.chips ++ [c] } }
    if s.num Key.chipQueuePeak < s.streams.chips.length then s.setNum Key.chipQueuePeak s.streams.chips.length else s

/-! ## Leaving (07 R223, R224) -/

/-- The records that have not left the queue at their time. -/
def State.settleQueue (s : State) : State :=
  { s with reef := { s.reef with queue := s.reef.queue.filter fun (q : Nat × Nat) => decide (s.now < q.1) } }

/-- The records in Reef's queue, those that await their turn among them. -/
def State.queued (s : State) : Nat := s.reef.held.length + s.reef.queue.length

/-- `RecordQueuePeak` brought up to date; a stall begins at a full queue of 16,384 (07 R224). -/
def State.settlePeak (s : State) : State :=
  let q := min s.queued 16384
  let s := if s.num Key.recordQueuePeak < q then s.setNum Key.recordQueuePeak q else s
  if q = 16384 && s.reef.stalled.isNone then { s with reef := { s.reef with stalled := some s.now } } else s

/-- A record of strip k takes the next SEQ and leaves: to stream 6, and for a defect record to the chips and the markers
(07 R223, R224; 09 R259; 11 R342). -/
def State.leave (s : State) (r : StreamRecord) (k : Nat) : State :=
  let t := match r.dated with
    | none => none
    | some l => some (match s.timeOf l with | some t => toTwos 64 t | none => s.free)
  let s := if r.dated.isSome then s.stepFree else s
  let bytes := sealRecord (match t with | none => r.bytes | some t => withTime r.bytes t) s.reef.seq
  let type := fieldAt bytes 0 1
  let avail := max (s.now + 4000) ((s.reef.queue.getLast?.map fun (q : Nat × Nat) => q.1 + 125).getD 0)
  let s := { s with reef := { s.reef with seq := s.reef.seq + 1, queue := s.reef.queue ++ [(avail, k)] } }
  let s := s.bump Key.recordsEmitted
  let s := if type = 1 || type = 2 || type = 5 then s.modStrip k fun x => { x with records := x.records + 1 } else s
  let s := s.putUnit 6 k bytes
  if type = 1 then
    (s.requestChip bytes r.base r.close avail).requestMark
      ⟨fieldAt bytes 2 1, fieldAt bytes 8 8, fieldAt bytes 24 8, fieldAt bytes 32 4, fieldAt bytes 52 4⟩
  else if type = 4 then s.produce 0x00B2 s.now
  else s

/-- Whether record r comes before q in the stream (07 R223). -/
def StreamRecord.before (r q : StreamRecord) : Bool :=
  r.close < q.close || (r.close = q.close && (r.rank < q.rank || (r.rank = q.rank
    && (r.order.1 < q.order.1 || (r.order.1 = q.order.1 && r.order.2 < q.order.2)))))

/-- A record put in its place. -/
def placeRecord (r : StreamRecord) : List StreamRecord → List StreamRecord
  | [] => [r]
  | q :: qs => if r.before q then r :: q :: qs else q :: placeRecord r qs

/-- The first world line that Reef, or Atoll where it runs, has not taken. -/
def State.takenTo (s : State) : Nat :=
  if s.flag Key.atollEnable then min s.reef.nextLine s.atoll.nextLine else s.reef.nextLine

/-- The strip a record counts in. -/
def State.stripOfRecord (s : State) (r : StreamRecord) : Nat := r.strip.getD (s.stripAt r.close)

/-- Whether a record may leave: its closing line is processed, and no strip before its own awaits its summary (03 R78). -/
def State.mayLeave (s : State) (r : StreamRecord) : Bool :=
  (r.strip.isSome || r.close < s.takenTo)
    && (match s.sched.strips with | [] => true | x :: _ => s.stripOfRecord r ≤ x.index)

/-- The records that may leave do so, in their order. -/
def State.release (s : State) : State :=
  let go := s.reef.held.filter s.mayLeave
  let s' := { s with reef := { s.reef with held := s.reef.held.filter fun r => !s.mayLeave r } }
  (go.foldl (fun s r => s.leave r (s.stripOfRecord r)) s'.settleQueue).settlePeak

/-- Every record waiting leaves, as records of strip k: the run's end (01 R28). -/
def State.releaseAll (s : State) (k : Nat) : State :=
  let go := s.reef.held
  let s' := { s with reef := { s.reef with held := [] } }
  (go.foldl (fun s r => s.leave r k) s'.settleQueue).settlePeak

/-- A record joins the queue. -/
def State.putRecord (s : State) (r : StreamRecord) : State :=
  let s := { s with reef := { s.reef with held := placeRecord r s.reef.held } }
  s.settlePeak

/-- Ranks of records of one closing line (07 R223, 08 R245). -/
def rankDefect : Nat := 0
/-- Class-255 records follow Reef's defect records. -/
def rankLimit : Nat := 1
/-- Overflow-band records. -/
def rankBand : Nat := 2
/-- Span records. -/
def rankSpan : Nat := 3
/-- Piece ends. -/
def rankPieceEnd : Nat := 4
/-- Piece starts. -/
def rankPieceStart : Nat := 5

/-! ## Pieces (07 R220–R222) -/

/-- The end of a piece's window as far as it is fixed: without an end event, `PieceLength` lines (07 R221). -/
def Piece.stop (p : Piece) : Nat := p.lineEnd.getD (p.line + p.length)

/-- The piece whose window holds a line (07 R222). -/
def State.pieceAt (s : State) (l : Nat) : Option Piece := s.pieces.reverse.find? fun p => p.line ≤ l && l < p.stop

/-- The pieces changed. -/
def State.mapPieces (s : State) (f : Piece → Piece) : State := { s with pieces := s.pieces.map f }

/-- The piece of an identifier changed. -/
def State.modPiece (s : State) (id : Nat) (f : Piece → Piece) : State := s.mapPieces fun p => if p.id = id then f p else p

/-- The lines of lo to hi that a list of spans covers, each once. -/
def spanCover (spans : List (Nat × Nat)) (lo hi : Nat) : Nat :=
  ((sortBy (·.1) spans).foldl (fun (acc : Nat × Nat) (p : Nat × Nat) =>
    let a := max p.1 acc.2
    let b := min p.2 hi
    if a < b then (acc.1 + (b - a), b) else acc) (0, lo)).1

/-- The body of a piece-start record (07 R222). -/
def Piece.startBody (p : Piece) (originMode : Nat) : List Byte :=
  leBytes 1 3 ++ leBytes 1 (bit p.fiducial + 2 * bit (originMode = 1 && !p.fiducial) + 4 * bit p.cutPrev) ++ zeros 2
    ++ leBytes 4 p.id ++ zeros 16 ++ leBytes 8 p.line ++ leBytes 4 p.col ++ leBytes 4 p.channel ++ leBytes 8 p.encCount
    ++ leBytes 8 p.startTime ++ zeros 6

/-- The body of a piece-end record (07 R222). -/
def Piece.endBody (p : Piece) : List Byte :=
  let lines := spanCover p.spans p.line p.stop
  leBytes 1 4 ++ leBytes 1 (bit p.cutShort + 2 * bit p.byLength + 4 * bit (0 < lines) + 8 * bit (0 < p.overflows)) ++ zeros 2
    ++ leBytes 4 p.id ++ zeros 16 ++ leBytes 8 p.line ++ leBytes 4 (p.stop - p.line) ++ leBytes 4 p.defects
    ++ leBytes 4 p.unclass ++ leBytes 4 p.overflows ++ leBytes 4 lines ++ zeros 4 ++ zeros 6

/-- The piece-start record joins the stream as the origin is final (07 R222). -/
def State.startRecord (s : State) (p : Piece) : State :=
  s.putRecord { bytes := p.startBody (s.num Key.pieceOriginMode), close := max p.line s.reef.nextLine, rank := rankPieceStart,
                order := (p.id, 0), dated := some p.line }

/-- Whether a region or band of Reef begun in a piece's window is open. -/
def State.pieceBusy (s : State) (p : Piece) : Bool :=
  (s.reef.regions ++ s.reef.bands).any fun r => p.line ≤ r.lineMin && r.lineMin < p.stop

/-- Pieces whose window has been processed and whose regions have closed end (07 R222). -/
def State.settlePieces (s : State) : State :=
  let s := s.mapPieces fun p =>
    if !p.done && p.lineEnd.isNone && p.stop ≤ s.reef.nextLine then { p with lineEnd := some p.stop, byLength := true } else p
  s.pieces.foldl (fun s p =>
    if p.done || !p.final || p.lineEnd.isNone || s.reef.nextLine < p.stop || s.pieceBusy p then s
    else
      (s.putRecord { bytes := p.endBody, close := max p.stop p.lastClose, rank := rankPieceEnd, order := (p.id, 0),
                     dated := some p.stop }).modPiece p.id fun p => { p with done := true }) s

/-- The count of the web encoder at counter value t. -/
def State.webCountAt (s : State) (t : Nat) : Nat :=
  let c := s.num Key.webEncoder
  (s.encoder c).countAt (s.num (Key.encCount c)) t

/-- The integer part of the world-line position counter at counter value t (03 R71). -/
def State.worldLineAt (s : State) (t : Nat) : Int := s.toWorld16 ((s.webCountAt t : Int) * 65536) / 65536

/-- The end event of the piece in progress, at counter value t (07 R221). -/
def State.endPiece (s : State) (t : Nat) : State :=
  match s.pieces.getLast? with
  | none => s.bump Key.pieceEndIgnored
  | some p =>
    if p.done || p.lineEnd.isSome || p.endMode = 0 then s.bump Key.pieceEndIgnored
    else
      let stop := max (s.worldLineAt t + p.endOffset) (p.line + 1)
      ((s.modPiece p.id fun p => { p with lineEnd := some stop.toNat }).settlePieces).release

/-- PIECE_END_EVENT (07 R221): the oldest Narrows cycle with an event on the piece-end input. -/
def execPieceEndEvent (s : State) : Host.Outcome State Fault Refusal :=
  match s.wire 0x0062 with
  | [] => .next s
  | e :: _ =>
    let s := s.takeWire 0x0062
    if s.inRun && s.flag Key.pieceEnable then .next (s.endPiece e.1) else .next s

end Sys2Proof.Machine
end

