-- ==== Sys2Proof/Machine/Reef.lean ====
section
/-! DEFINITION. Reef (07): reference models, maps, labelling, regions, classification and its records. -/

namespace Sys2Proof.Machine

open Sys2Proof

/-! ## Reference models (07 R203–R207) -/

/-- Reef changed. -/
def State.modReef (s : State) (f : Reef → Reef) : State := { s with reef := f s.reef }

/-- A column of the column model. -/
def State.column (s : State) (x : Nat) : Column := tblGet s.reef.columns {} x

/-- The update of a column by a sample (07 R204). -/
def Column.learn (c : Column) (shift y : Nat) : Column :=
  let dev := ((y : Int) * 16 - divRound c.mean 16).natAbs
  { c with
    mean := ((c.mean : Int) + divRound ((y : Int) * 256 - c.mean) (pow2 shift)).toNat
    mad := min 65535 ((c.mad : Int) + divRound ((dev : Int) - c.mad) (pow2 shift)).toNat }

/-- The reference and band of a column (07 R203). -/
def State.columnRef (v : State) (c : Column) : Option (Nat × Nat) :=
  if c.valid then
    some ((c.mean + 128) / 256, max (v.num Key.bandMin) (divRound (c.mad * v.num Key.bandScale : Nat) 256).toNat)
  else none

/-- The bits of a mark that keep a pixel from learning and from serving as a reference (07 R204–R206). -/
def badMark (m : Nat) : Bool := bitAt m 0 || bitAt m 1 || bitAt m 3

/-- The mark history of a line, one bit per column, column 8i in bit 0 of byte i (07 R206; log entry 26). -/
def historyBits (marks : List Nat) : List Byte :=
  (chunks 8 marks).map fun ms => BitVec.ofNat 8 (sumNat (ms.mapIdx fun i m => pow2 i * bit (badMark m)))

/-- The bytes of a row of the mark history. -/
def State.historyRow (s : State) : Nat := s.num Key.worldWidth / 8

/-- Where world line l has its mark history (07 R206). -/
def State.historyAddr (s : State) (l : Nat) : Nat :=
  s.num Key.refStoreBase + l % s.num Key.periodLines * s.historyRow

/-- The plane of S0 that holds Y. -/
def State.s0Luma (s : State) : Nat := if s.num Key.s0Planes = 1 then s.num Key.worldPlanes - 1 else 0

/-- The periodic references of world line l (07 R206); none where the whole reference line is missing. A unit marked
uncorrectable gives no reference (12 R360). -/
def State.periodicRefs (s v : State) (l : Nat) : Option (List (Option (Nat × Nat))) :=
  let p := v.num Key.periodLines
  if l < p || !s.inRing (l - p) then none
  else
    let hist := s.load (v.historyAddr l) s.historyRow
    some ((List.range (s.num Key.worldWidth)).map fun x =>
      if bitAt (fieldAt hist (x / 8) 1) (x % 8) || s.rangeBad (s.sampleAddr (l - p) s.s0Luma x) 2 then none
      else some (s.ringSample (l - p) s.s0Luma x, v.num Key.refTolerance))

/-- The golden references of world line l (07 R207); a unit marked uncorrectable gives none (12 R360). -/
def State.goldenRefs (s v : State) (l : Nat) : List (Option (Nat × Nat)) :=
  (List.range (s.num Key.worldWidth)).map fun (x : Nat) =>
    match s.pieceAt l with
    | none => none
    | some p =>
      let gx : Int := (x : Int) - p.col + v.int Key.goldenColOffset
      let gy : Int := (l : Int) - p.line + v.int Key.goldenLineOffset
      if s.reef.goldenLost || gx < 0 || gy < 0 || (v.num Key.goldenWidth : Int) ≤ gx || (v.num Key.goldenHeight : Int) ≤ gy then none
      else
        let a := v.num Key.goldenBase + gy.toNat * v.num Key.goldenStride + 2 * gx.toNat
        if s.rangeBad a 2 then none else some (ofLe (s.load a 2), v.num Key.refTolerance)

/-! ## The four maps (07 R209) -/

/-- Whether a pixel is seed, or grow, in map m: its difference d, sample y and band b. -/
def State.mapTest (v : State) (m : Nat) (d : Int) (y b : Nat) : Bool × Bool :=
  if !v.flag (Key.mapEnable m) then (false, false)
  else if m < 2 then
    let e := (if m = 0 then -d else d) - b
    let seed : Bool := (v.num (Key.seedThr m) : Int) ≤ e
    (seed, seed || (v.num (Key.growThr m) : Int) ≤ e)
  else
    let q : Int := if v.num (Key.bandSource m) = 1 then y else d
    let seed : Bool := v.int (Key.seedLow m) ≤ q && q ≤ v.int (Key.seedHigh m)
    (seed, seed || (v.int (Key.growLow m) ≤ q && q ≤ v.int (Key.growHigh m)))

/-- A tested pixel: its difference, the map that takes it with whether it is a seed, and whether map 0 or 1 holds it. -/
structure PixelTest where
  d     : Int := 0
  taken : Option (Nat × Bool) := none
  dark  : Bool := false

/-- A pixel against its reference (07 R201, R209): the first of band 1, band 2, dark, bright takes it. -/
def State.testPixel (v : State) (y mark : Nat) (ref : Option (Nat × Nat)) : PixelTest :=
  match ref with
  | none => {}
  | some r =>
    let d : Int := (y : Int) - r.1
    let t := fun m => v.mapTest m d y r.2
    { d := d
      taken := if bitAt mark 3 then none else ([2, 3, 0, 1].find? fun m => (t m).2).map fun m => (m, (t m).1)
      dark := (t 0).2 || (t 1).2 }

/-! ## Runs (07 R210) -/

/-- A run of a line before it is labelled: map, columns, whether it holds a seed. -/
structure RawRun where
  map   : Nat
  first : Nat
  last  : Nat
  seed  : Bool

/-- The runs of a line, left to right. -/
def findRuns (px : List PixelTest) : List RawRun :=
  (px.foldl (fun (acc : Nat × List RawRun) p =>
    let x := acc.1
    match p.taken with
    | none => (x + 1, acc.2)
    | some t => match acc.2 with
      | r :: rs =>
        if r.map = t.1 && r.last + 1 = x then (x + 1, { r with last := x, seed := r.seed || t.2 } :: rs)
        else (x + 1, ⟨t.1, x, x, t.2⟩ :: r :: rs)
      | [] => (x + 1, [⟨t.1, x, x, t.2⟩])) (0, [])).2.reverse

/-- Whether a run touches a run of the line before (07 R210). -/
def RawRun.touches (r : RawRun) (p : Run) : Bool := p.map = r.map && p.first ≤ r.last + 1 && r.first ≤ p.last + 1

/-! ## Regions (07 R211–R214) -/

/-- The number of region contexts (07 R213). -/
def contexts : Nat := 65536

/-- Two regions as one, the first the older (07 R210, R214). -/
def Region.join (a b : Region) : Region :=
  let bFirst : Bool := a.peak.natAbs < b.peak.natAbs || (a.peak.natAbs = b.peak.natAbs
    && (b.peakLine < a.peakLine || (b.peakLine = a.peakLine && b.peakCol < a.peakCol)))
  { a with
    lineMin := min a.lineMin b.lineMin, lineMax := max a.lineMax b.lineMax, colMin := min a.colMin b.colMin
    colMax := max a.colMax b.colMax, area := a.area + b.area, sumD := a.sumD + b.sumD, sumAbs := a.sumAbs + b.sumAbs
    sumAbsX := a.sumAbsX + b.sumAbsX, sumAbsL := a.sumAbsL + b.sumAbsL
    peak := if bFirst then b.peak else a.peak, peakCol := if bFirst then b.peakCol else a.peakCol
    peakLine := if bFirst then b.peakLine else a.peakLine, cams := a.cams ||| b.cams, marks := a.marks ||| b.marks
    edge := a.edge || b.edge, ovf := a.ovf || b.ovf, edgeL := if b.lineMin < a.lineMin then b.edgeL else a.edgeL }

/-- A pixel joins a region (07 R214). -/
def Region.addPixel (r : Region) (l x : Nat) (d : Int) (mark cams : Nat) (edge : Bool) : Region :=
  let a := d.natAbs
  let top : Bool := r.area = 0 || r.peak.natAbs < a
  { r with
    lineMax := l, colMin := if r.area = 0 then x else min r.colMin x, colMax := max r.colMax x, area := r.area + 1
    sumD := r.sumD + d, sumAbs := r.sumAbs + a, sumAbsX := r.sumAbsX + a * x, sumAbsL := r.sumAbsL + a * l
    peak := if top then d else r.peak, peakCol := if top then x else r.peakCol, peakLine := if top then l else r.peakLine
    cams := r.cams ||| cams, marks := r.marks ||| mark, edge := r.edge || edge }

/-- The pixels of a run join a region. -/
def Region.addRun (r : Region) (w : WorldLine) (px : List PixelTest) (first last : Nat) : Region :=
  (List.range (last + 1 - first)).foldl (fun r i =>
    let x := first + i
    let mask := fun (c : Nat) => bitAt (w.marks.getD c 0) 3
    r.addPixel w.line x (px.getD x {}).d (w.marks.getD x 0) (w.ports.getD x 0) ((0 < x && mask (x - 1)) || mask (x + 1))) r

/-! ## Records of regions (07 R214–R218) -/

/-- The `FLAGS` of a region apart from `PIECE_VALID` (07 R214, R217). -/
def Region.flags (r : Region) (forced : Bool) : Nat :=
  bit (bitAt r.marks 2) + 2 * bit (bitAt r.marks 1) + 4 * bit (bitAt r.marks 0) + 8 * bit forced + 16 * bit r.ovf
    + 64 * bit (0 < r.sumD) + 128 * bit (bitAt r.marks 4 || r.edge)

/-- The aspect of a box of `lines` by `cols` (07 R215). -/
def State.aspect (s : State) (lines cols : Nat) : Nat :=
  satU 16 (divRound (256 * lines * s.num Key.pitchY : Nat) (cols * s.num Key.pitchX))

/-- What the class table tests (07 R215). -/
structure Measures where
  map    : Nat
  flags  : Nat
  area   : Nat
  width  : Nat
  length : Nat
  aspect : Nat
  peak   : Nat
  mean   : Nat

/-- Whether a rule of the class table accepts (07 R215). -/
def ruleAccepts (r : List Byte) (m : Measures) : Bool :=
  let f := fun o n => fieldAt r o n
  let within := fun (o n v : Nat) => f o n ≤ v && v ≤ f (o + n) n
  bitAt (f 0 1) 0 && bitAt (f 2 1) m.map && bitAt (f 3 1) (bitsAt m.flags 6 1) && (f 4 1 &&& m.flags) = f 4 1
    && (f 5 1 &&& m.flags) = 0 && within 8 4 m.area && within 16 4 m.width && within 24 4 m.length && within 32 2 m.aspect
    && within 36 2 m.peak && within 40 2 m.mean

/-- The class of a region and the index of its rule; 0 where none accepts (07 R215). -/
def classify (table : List Byte) (m : Measures) : Nat × Nat :=
  let rs := chunks 48 table
  match indexOf? (fun r => ruleAccepts r m) rs with
  | none => (0, 0)
  | some i => (fieldAt (rs.getD i []) 1 1, i)

/-- A quotient of sums of |D| in u28.4, offset by lo. -/
def centroid16 (sum weight lo : Nat) : Nat := 16 * lo + (divRound (16 * ((sum : Int) - weight * lo)) weight).toNat

/-- The centroids of a region, absolute column and line offset, in 1/16; Σ|D| of 0 gives none: free values (log entry 27). -/
def State.centroids (s : State) (r : Region) : Nat × Nat :=
  if r.sumAbs = 0 then (Config.freeNat s.freeCount % pow2 32, Config.freeNat (s.freeCount + 1) % pow2 32)
  else (centroid16 r.sumAbsX r.sumAbs r.colMin, centroid16 r.sumAbsL r.sumAbs r.lineMin - 16 * r.lineMin)

/-- The 62 bytes of a defect or overflow-band record (07 R217, R218). -/
def State.regionBody (s : State) (r : Region) (type flags cls piece base close : Nat) : List Byte :=
  let c := s.centroids r
  leBytes 1 type ++ leBytes 1 flags ++ leBytes 2 cls ++ leBytes 4 piece ++ zeros 8 ++ leBytes 8 (s.timeOrNow close)
    ++ leBytes 8 r.lineMin ++ leBytes 4 (close - r.lineMin) ++ leBytes 4 (toTwos 32 ((r.colMin : Int) - base))
    ++ leBytes 4 (r.colMax + 1 - r.colMin) ++ leBytes 4 (min r.area 0xFFFFFFFF)
    ++ leBytes 4 (toTwos 32 ((c.1 : Int) - 16 * base)) ++ leBytes 4 c.2 ++ leBytes 2 (toTwos 16 (satS 16 (divRound r.peak 16)))
    ++ leBytes 2 (toTwos 16 (satS 16 (divRound r.sumD r.area))) ++ leBytes 2 r.cams

/-- The counters and flags of the piece a record of class `cls` belongs to (07 R222); `band` for an overflow-band record. -/
def State.countPiece (s : State) (l close cls : Nat) (band : Bool) : State :=
  match s.pieceAt l with
  | none => s
  | some p => s.modPiece p.id fun p => { p with
      lastClose := max p.lastClose close
      defects := p.defects + bit (!band && 1 ≤ cls && cls ≤ 254)
      unclass := p.unclass + bit (!band && cls = 0), overflows := p.overflows + bit band }

/-- The state after the free values of a record without weight are taken. -/
def State.spendCentroid (s : State) (r : Region) : State := if r.sumAbs = 0 then s.stepFree.stepFree else s

/-- A region closes at world line `close` (07 R212, R215–R217); `strip` is the strip that names it where the line does not. -/
def State.closeRegion (s : State) (r : Region) (close : Nat) (forced : Bool) (strip : Option Nat) : State :=
  let v := s.settingsFor (strip.getD (s.stripAt close))
  let piece := s.pieceAt r.lineMin
  let base := if v.num Key.coordMode = 1 then r.edgeL / 4096 else 0
  let flags := r.flags forced + 32 * bit piece.isSome
  let m : Measures :=
    { map := r.map, flags := flags, area := r.area, width := r.colMax + 1 - r.colMin, length := close - r.lineMin
      aspect := v.aspect (close - r.lineMin) (r.colMax + 1 - r.colMin), peak := (divRound r.peak 16).natAbs
      mean := (satS 16 (divRound r.sumD r.area)).natAbs }
  let c := classify (v.blob Key.classTable) m
  let s := ((s.bump Key.regionsClosed).bumpIf forced Key.forcedCloseCount).measure qClosed 1 (strip.getD (s.stripAt close))
  if c.1 = 0 && !v.flag Key.emitUnclassified then
    s.bump Key.unclassifiedSuppressed
  else
    let s := if c.1 = 0 then s.bump Key.unclassifiedCount else s.bump (Key.classRecordCount (c.1 - 1))
    let body := s.regionBody r 1 flags (c.1 + 256 * r.map + 1024 * (if c.1 = 0 then 0 else c.2)) ((piece.map (·.id)).getD 0) base close
    let s := (s.spendCentroid r).countPiece r.lineMin close c.1 false
    s.putRecord { bytes := body, close := close, rank := rankDefect, order := (r.id, 0), strip := strip, base := base }

/-- An overflow accumulator closes (07 R213, R218). -/
def State.closeBand (s : State) (r : Region) (close : Nat) (forced : Bool) (strip : Option Nat) : State :=
  let v := s.settingsFor (strip.getD (s.stripAt close))
  let piece := s.pieceAt r.lineMin
  let base := if v.num Key.coordMode = 1 then r.edgeL / 4096 else 0
  let band := r.band.getD 0
  let flags := { r with ovf := true }.flags forced + 32 * bit piece.isSome
  let body := s.regionBody r 5 flags (band + 256 * r.map) ((piece.map (·.id)).getD 0) base close
  let s := ((s.measure qClosed 1 (strip.getD (s.stripAt close))).bump Key.overflowRecords).spendCentroid r
  (s.countPiece r.lineMin close 0 true).putRecord
    { bytes := body, close := close, rank := rankBand, order := (r.map, band), strip := strip, base := base }

/-- Every open region and overflow accumulator is force-closed at world line `close` (07 R212); `gap` sets `TOUCH_GAP`. -/
def State.forceClose (s : State) (close : Nat) (gap : Bool) (strip : Option Nat) : State :=
  let mark := fun (r : Region) => if gap then { r with marks := r.marks ||| mGap } else r
  let rs := s.reef.regions
  let bs := s.reef.bands
  let s := s.modReef fun x => { x with
    regions := [], bands := []
    runs := x.runs.map fun r => { r with forced := r.region.isSome } }
  let s := rs.foldl (fun s r => s.closeRegion (mark r) close true strip) s
  bs.foldl (fun s r => s.closeBand (mark r) close true strip) s

/-! ## Labelling (07 R210–R213) -/

/-- Labelling in progress: the open regions and bands, merged identifiers, contexts used on the line, counts, labelled
runs, and the regions and bands that closed at the streak limit. -/
structure Labelling where
  regions : List Region
  bands   : List Region
  heirs    : List (Nat × Nat) := []
  used    : Nat
  nextId  : Nat
  merges  : Nat := 0
  grow    : Nat := 0
  ovfRuns : Nat := 0
  runs    : List Run := []
  joined  : List Nat := []
  added   : List (Nat × Nat) := []
  hit     : List Region := []

/-- The region an identifier stands for after merges. -/
def Labelling.root (b : Labelling) (id : Nat) : Nat := b.heirs.foldl (fun i (p : Nat × Nat) => if p.1 = i then p.2 else i) id

/-- The open regions that a run touches, oldest first. -/
def Labelling.touched (b : Labelling) (prev : List Run) (r : RawRun) : List Nat :=
  sortBy id ((prev.filterMap fun p => if r.touches p && !p.forced then p.region.map b.root else none).eraseDups)

/-- The regions that one run touches merge into the oldest (07 R210, R211). -/
def Labelling.mergeRun (prev : List Run) (b : Labelling) (r : RawRun) : Labelling :=
  match b.touched prev r with
  | [] => b
  | a :: others => others.foldl (fun b o =>
      match b.regions.find? (·.id = a), b.regions.find? (·.id = o) with
      | some x, some y => { b with
          regions := (b.regions.filter (·.id ≠ o)).map fun z => if z.id = a then x.join y else z
          heirs := b.heirs ++ [(o, a)], merges := b.merges + 1 }
      | _, _ => b) b

/-- A run is placed in a region. -/
def Labelling.place (b : Labelling) (w : WorldLine) (px : List PixelTest) (r : RawRun) (id : Nat) (ovf : Bool) : Labelling :=
  { b with
    regions := b.regions.map fun z => if z.id = id then { z.addRun w px r.first r.last with ovf := z.ovf || ovf } else z
    runs := b.runs ++ [{ map := r.map, first := r.first, last := r.last, region := some id }], joined := id :: b.joined }

/-- A run opens a region. -/
def Labelling.open_ (b : Labelling) (w : WorldLine) (px : List PixelTest) (r : RawRun) : Labelling :=
  let z : Region := { id := b.nextId, map := r.map, lineMin := w.line, lineMax := w.line, edgeL := w.edgeL }
  { b with regions := b.regions ++ [z], used := b.used + 1, nextId := b.nextId + 1 }.place w px r b.nextId false

/-- A run is placed in the overflow accumulator of its first column (07 R213). -/
def Labelling.overflow (b : Labelling) (w : WorldLine) (px : List PixelTest) (r : RawRun) : Labelling :=
  let band := r.first / 1024
  let fresh : Region := { map := r.map, band := some band, lineMin := w.line, lineMax := w.line, edgeL := w.edgeL }
  let known := b.bands.any fun z => z.map = r.map && z.band = some band
  let bands := if known then b.bands else b.bands ++ [fresh]
  { b with
    bands := bands.map fun z => if z.map = r.map && z.band = some band then z.addRun w px r.first r.last else z
    runs := b.runs ++ [{ map := r.map, first := r.first, last := r.last, band := some band }]
    ovfRuns := b.ovfRuns + 1, added := (r.map, band) :: b.added }

/-- A run is labelled by the first case of R210 that applies. -/
def Labelling.label (prev : List Run) (w : WorldLine) (px : List PixelTest) (b : Labelling) (r : RawRun) : Labelling :=
  let near := prev.filter r.touches
  let hit := fun (p : Run) => p.forced || (match p.region with
    | none => false
    | some i => b.hit.any fun (z : Region) => z.id = b.root i)
  let open_ := (b.touched prev r).filter fun i => !(b.hit.any fun (z : Region) => z.id = i)
  let ovf := near.any fun p => p.band.isSome
  let free := b.used < contexts
  match open_ with
  | a :: _ => b.place w px r a ovf
  | [] =>
    if r.seed then (if free then b.open_ w px r else b.overflow w px r)
    else if !near.isEmpty && near.all fun p => p.band.isSome then b.overflow w px r
    else if !near.isEmpty && near.all hit then (if free then b.open_ w px r else b.overflow w px r)
    else { b with grow := b.grow + 1 }

/-- The regions that a run touches and that span `StreakLimit` lines close as the line begins, after merges (07 R212). -/
def Labelling.streak (prev : List Run) (runs : List RawRun) (limit line : Nat) (b : Labelling) : Labelling :=
  let ids := runs.flatMap (b.touched prev)
  let full := fun (z : Region) => z.lineMin + limit ≤ line && ids.contains z.id
  { b with hit := b.regions.filter full, regions := b.regions.filter fun z => !full z }

/-- One line labelled: the state of Reef after it, with every close the line brings (07 R210–R213). -/
def State.labelLine (s v : State) (w : WorldLine) (px : List PixelTest) : State :=
  let l := w.line
  let limit := v.num Key.streakLimit
  let prev := s.reef.runs
  let runs := findRuns px
  let fullBands := s.reef.bands.filter fun z => z.lineMin + limit ≤ l
  let b0 : Labelling :=
    { regions := s.reef.regions, bands := s.reef.bands.filter fun z => l < z.lineMin + limit
      used := s.reef.regions.length, nextId := s.reef.nextId }
  let b := (runs.foldl (Labelling.mergeRun prev) b0).streak prev runs limit l
  let b := runs.foldl (Labelling.label prev w px) b
  let gone := b.regions.filter fun z => !b.joined.contains z.id
  let goneBands := b.bands.filter fun z => !b.added.contains (z.map, z.band.getD 0)
  let s := s.modReef fun x => { x with
    regions := b.regions.filter fun z => b.joined.contains z.id
    bands := b.bands.filter fun z => b.added.contains (z.map, z.band.getD 0)
    runs := b.runs, nextId := b.nextId }
  let s := (((s.add Key.mergeCount b.merges).measure qMerges b.merges w.strip).add Key.growOnlyRuns b.grow).add Key.overflowRuns b.ovfRuns
  let s := if s.num Key.regionsPeak < s.reef.regions.length then s.setNum Key.regionsPeak s.reef.regions.length else s
  let s := b.hit.foldl (fun s z => s.closeRegion z l true none) s
  let s := gone.foldl (fun s z => s.closeRegion z l false none) s
  let s := fullBands.foldl (fun s z => s.closeBand z l true none) s
  goneBands.foldl (fun s z => s.closeBand z l false none) s

/-! ## Uninspected area (07 R219) -/

/-- The 62 bytes of an uninspected-span record (07 R219). -/
def spanBody (cont : Bool) (cause : Nat) (piece : Option Nat) (time first count col cols ports strip : Nat) : List Byte :=
  leBytes 1 2 ++ leBytes 1 (bit cont + 32 * bit piece.isSome) ++ leBytes 2 cause ++ leBytes 4 (piece.getD 0) ++ zeros 8
    ++ leBytes 8 time ++ leBytes 8 first ++ leBytes 4 count ++ leBytes 4 col ++ leBytes 4 cols ++ leBytes 2 ports
    ++ zeros 2 ++ leBytes 8 strip ++ zeros 6

/-- An uninspected-span record joins the stream (07 R219), and the pieces it touches note it. -/
def State.putSpan (s : State) (cont : Bool) (cause first count col cols ports : Nat) : State :=
  let piece := (s.pieceAt first).map (·.id)
  let s := s.mapPieces fun p => if first < p.stop && p.line < first + count then { p with spans := p.spans ++ [(first, first + count)] } else p
  s.putRecord { bytes := spanBody cont cause piece (s.timeOrNow first) first count col cols ports (s.num Key.stripIndex),
                close := first + count, rank := rankSpan, order := (first, ports) }

/-- The spans that Causeway has handed over become records (06 R185, 07 R219). -/
def State.takeSpans (s : State) : State :=
  let rs := s.cause.spans
  let s := { s with cause := { s.cause with spans := [] } }
  rs.foldl (fun s r => s.putSpan r.cont r.cause r.first r.count r.colFirst r.colCount (pow2 r.port)) s

/-- The run of lines without reference ends (07 R219, cause 4). -/
def State.flushUninspected (s : State) : State :=
  match s.reef.uninsp with
  | none => s
  | some u => (s.modReef fun x => { x with uninsp := none }).putSpan false 4 u.1 u.2 0 (s.num Key.worldWidth) 0xFFFF

/-- The run of lines without reference ends at the end of its strip. -/
def State.settleUninspected (s : State) : State :=
  match s.reef.uninsp with
  | none => s
  | some u => match s.stripOf u.1 with
    | none => s
    | some x => if x.lineEnd = some (u.1 + u.2) then s.flushUninspected else s

/-- World line l is not inspected (07 R205, R206). -/
def State.uninspected (s : State) (l : Nat) : State :=
  match s.reef.uninsp with
  | some u => if u.1 + u.2 = l && s.stripAt u.1 = s.stripAt l then s.modReef fun x => { x with uninsp := some (u.1, u.2 + 1) }
    else s.flushUninspected.modReef fun x => { x with uninsp := some (l, 1) }
  | none => s.modReef fun x => { x with uninsp := some (l, 1) }

/-! ## World lines (07 R201–R210) -/

/-- The Y samples of a world line. -/
def WorldLine.luma (w : WorldLine) : List Nat := (w.planes.getLast?).getD []

/-- A warm-up line (07 R205): the first good pixel of a column sets it, later ones teach it. -/
def State.warmUp (s v : State) (w : WorldLine) : State :=
  let cols := (w.luma.zip w.marks).mapIdx fun x (p : Nat × Nat) => (x, p)
  let t := cols.foldl (fun (t : Tbl Column) (e : Nat × Nat × Nat) =>
    if badMark e.2.2 then t
    else tblMod t {} e.1 fun c =>
      if c.valid then c.learn (v.num Key.learnShift) e.2.1 else { mean := e.2.1 * 256, mad := 0, valid := true }) s.reef.columns
  let left := s.reef.warmLeft - 1
  let s := s.modReef fun x => { x with columns := t, warmLeft := left }
  if left = 0 then s.setNum Key.colModelValid 1 else s

/-- The column model learns from an inspected line (07 R204). -/
def State.learnLine (s v : State) (w : WorldLine) (px : List PixelTest) : State :=
  if v.flag Key.colFreeze then s
  else
    let cols := (w.luma.zip (w.marks.zip px)).mapIdx fun x (p : Nat × Nat × PixelTest) => (x, p)
    s.modReef fun r => { r with columns := cols.foldl (fun (t : Tbl Column) (e : Nat × Nat × Nat × PixelTest) =>
      if badMark e.2.2.1 || e.2.2.2.dark then t
      else tblMod t {} e.1 fun c => if c.valid then c.learn (v.num Key.learnShift) e.2.1 else c) r.columns }

/-- A line is tested against its references and labelled (07 R201, R209, R210). -/
def State.inspect (s v : State) (w : WorldLine) (refs : List (Option (Nat × Nat))) (counter : Nat) : State :=
  let px := (w.luma.zip (w.marks.zip refs)).map fun p => v.testPixel p.1 p.2.1 p.2.2
  let missing := ((w.marks.zip refs).filter fun p => !bitAt p.1 3 && p.2.isNone).length
  let s := s.flushUninspected
  let s := s.add counter missing
  let s := if v.num Key.refModel = 0 then s.learnLine v w px else s
  s.labelLine v w px

/-- A line that is not inspected: no run joins any region. -/
def State.skipLine (s v : State) (w : WorldLine) : State := (s.uninspected w.line).labelLine v w []

/-- Reef's work on one world line with ReefEnable 1 (07 R203–R212). -/
def State.reefLine (s : State) (w : WorldLine) : State :=
  let v := s.settingsFor w.strip
  let model := v.num Key.refModel
  let s := s.measure qReef ((s.num Key.worldWidth + 63) / 64) w.strip
  let s := if s.reef.model.isSome && s.reef.model ≠ some model then s.forceClose w.line false none else s
  let s := s.modReef fun x => { x with model := some model }
  if model = 0 then
    if 0 < s.reef.warmLeft then (s.warmUp v w).skipLine v w
    else
      s.inspect v w ((List.range w.luma.length).map fun x => v.columnRef (s.column x)) Key.refInvalidPixels
  else if model = 1 then
    let refs := s.periodicRefs v w.line
    let s := s.store (v.historyAddr w.line) (historyBits w.marks)
    match refs with
    | none => (s.bump Key.refLinesMissing).skipLine v w
    | some rs => s.inspect v w rs Key.refInvalidPixels
  else s.inspect v w (s.goldenRefs v w.line) Key.outsideGoldenPixels

/-- The formed lines that Reef, and Atoll where it runs, have taken are dropped. -/
def State.dropTaken (s : State) : State :=
  { s with cause := { s.cause with formed := s.cause.formed.filter fun w => s.takenTo ≤ w.line } }

/-- The open regions at the end of every strip before the line's (03 R90). -/
def State.noteOpen (s : State) (strip : Nat) : State :=
  s.sched.strips.foldl (fun s x =>
    if x.index < strip && (tblFind s.reef.openAt x.index).isNone then
      s.modReef fun r => { r with openAt := tblSet r.openAt x.index r.regions.length }
    else s) s

/-- The next formed line that Reef has not taken. -/
def State.nextReefLine (s : State) : Option WorldLine := s.cause.formed.find? fun w => s.reef.nextLine ≤ w.line

/-- REEF_LINE (07 R201–R224): Reef takes the next world line. -/
def execReefLine (s : State) : Host.Outcome State Fault Refusal :=
  if s.reef.stalled.isSome || !s.inRun then .next s
  else match s.nextReefLine with
    | none => .next s
    | some w =>
      let s := (s.noteOpen w.strip).takeSpans
      let s := if s.flag Key.reefEnable then s.reefLine w else s
      let s := s.modReef fun x => { x with nextLine := w.line + 1 }
      .next (s.settleUninspected.settlePieces.release.dropTaken)

/-- The core clock of an operating point in MHz (03 R81). -/
def opMhz (op : Nat) : Nat := [400, 500, 600, 700, 850, 1000, 1100, 1200].getD op 1000

/-- REEF_RESUME (07 R224): a place has come free in the record queue. -/
def execReefResume (s : State) : Host.Outcome State Fault Refusal :=
  match s.reef.stalled with
  | none => .next s
  | some t =>
    let s := s.settleQueue
    if 16384 ≤ s.queued then .next s
    else
      let wait := s.now - t
      let s := s.modReef fun x => { x with stalled := none }
      .next (((s.add Key.reefStallTime wait).measure qReef (wait * opMhz (s.num Key.opNow) / 1000) (s.stripAt s.reef.nextLine)).settleHold)

/-! ## Column model and reference store (07 R205, R208, R230) -/

/-- The column model cleared (07 R205). -/
def State.clearColumns (s : State) : State :=
  (s.modReef fun x => { x with columns := [], loaded := [] }).setNum Key.colModelValid 0

/-- COL_MODEL_CLEAR (07 R205, R226): outside RUN only. -/
def execColModelClear (src : Source) (value : Slot) (s : State) : Host.Outcome State Fault Refusal :=
  .next (s.command src Key.colModelClear value (fun _ => failIf s.inRun resWrongState) fun _ s => s.clearColumns)

/-- The columns of segment j as bytes (07 R230). -/
def State.columnBytes (s : State) (j : Nat) : List Byte :=
  (List.range 8192).flatMap fun i =>
    let c := s.column (8192 * j + i)
    leBytes 8 (c.mean + pow2 24 * c.mad + pow2 40 * bit c.valid)

/-- A segment of the column model is loaded (07 R230). -/
def State.loadColumns (s : State) (j : Nat) (data : List Byte) : State :=
  let width := s.num Key.worldWidth
  let t := ((chunks 8 data).mapIdx fun i b => (8192 * j + i, ofLe b)).foldl (fun (t : Tbl Column) (e : Nat × Nat) =>
    if width ≤ e.1 then t
    else tblPut t {} e.1 { mean := bitsAt e.2 0 24, mad := bitsAt e.2 24 16, valid := bitAt e.2 40 }) s.reef.columns
  let s := s.modReef fun x => { x with columns := t, loaded := if x.loaded.contains j then x.loaded else j :: x.loaded }
  if (List.range ((width + 8191) / 8192)).all s.reef.loaded.contains then s.setNum Key.colModelValid 1 else s

/-- Whether a range lies wholly inside the reference store (07 R208). -/
def State.inRefStore (s : State) (a n : Nat) : Bool :=
  s.num Key.refStoreBase ≤ a && a + n ≤ s.num Key.refStoreBase + s.num Key.refStoreSize

/-- The checks of a `RefStoreWriteData` download (07 R208). -/
def State.refStoreFails (s : State) (data : List Byte) : List Nat :=
  failIf (!s.inRefStore (s.num Key.refStoreWriteAddr) data.length) resRange

/-- A download to the reference store (07 R208). -/
def State.refStoreEffect (s : State) (data : List Byte) : State :=
  let a := s.num Key.refStoreWriteAddr
  (s.store a data).setNum Key.refStoreWriteAddr (a + data.length)

/-- REF_STORE_WRITE_DATA (07 R208). -/
def execRefStoreWriteData (src : Source) (data : List Byte) (s : State) : Host.Outcome State Fault Refusal :=
  .next (s.attemptBlock src Key.refStoreWriteData data (s.refStoreFails data) fun s => s.refStoreEffect data).state

end Sys2Proof.Machine
end

