-- ==== Sys2Proof/Machine/Atoll.lean ====
section
/-! DEFINITION. Atoll (08): grids, phases, accumulation, rows, limits; and the start of pieces (07 R220). -/

namespace Sys2Proof.Machine

open Sys2Proof

/-! ## The grid of a piece (08 R233–R235, R248) -/

/-- The entries a piece's grid takes at its start event (08 R248). -/
def gridKeys : List Nat := [
  Key.gridCols, Key.gridRows, Key.gridPitchX, Key.gridPitchY, Key.gridColOfs, Key.gridLineOfs, Key.apertureShape,
  Key.apertureHalf, Key.fidWindowCol, Key.fidWindowLine, Key.fidWidth, Key.fidHeight, Key.fidThreshold, Key.fidPolarity,
  Key.fidMinPixels, Key.fidOfsX, Key.fidOfsY]

/-- A grid's setting. -/
def GridRun.get (g : GridRun) (k : Nat) : Int := match tblFind g.settings k with
  | none => 0
  | some v => v.toInt

/-- A grid's setting as a natural number. -/
def GridRun.nat (g : GridRun) (k : Nat) : Nat := (g.get k).toNat

/-- The half aperture in 2^−16 world units. -/
def GridRun.half (g : GridRun) : Nat := g.nat Key.apertureHalf * 256

/-- The centre of column c in 2^−16 (08 R233). -/
def GridRun.centreX (g : GridRun) (c : Nat) : Int := g.originX + g.get Key.gridColOfs + c * g.get Key.gridPitchX

/-- The centre of row r in 2^−16 (08 R233). -/
def GridRun.centreL (g : GridRun) (r : Nat) : Int := g.originL + g.get Key.gridLineOfs + r * g.get Key.gridPitchY

/-- ⌈v⌉ of a position in 2^−16. -/
def ceil16 (v : Int) : Int := (v + 65535) / 65536

/-- The first aperture line of row r. -/
def GridRun.firstLine (g : GridRun) (r : Nat) : Int := ceil16 (g.centreL r - g.half)

/-- The last aperture line of row r. -/
def GridRun.lastLine (g : GridRun) (r : Nat) : Int := (g.centreL r + g.half) / 65536

/-- The half width of the aperture at a distance dy from its centre, in 2^−16 (08 R234). -/
def GridRun.reach (g : GridRun) (dy : Int) : Nat :=
  if g.nat Key.apertureShape = 1 then g.half else isqrt (g.half * g.half - (dy * dy).toNat)

/-- The lattice columns of the aperture of column c at distance dy: first and last (08 R234). -/
def GridRun.columns (g : GridRun) (c : Nat) (dy : Int) : Int × Int :=
  let w := g.reach dy
  (ceil16 (g.centreX c - w), (g.centreX c + w) / 65536)

/-- The aperture lines of row r. -/
def GridRun.rowLines (g : GridRun) (r : Nat) : List Int :=
  (List.range (g.lastLine r + 1 - g.firstLine r).toNat).map fun (i : Nat) => g.firstLine r + i

/-- The nominal area A of emitter (r, c) (08 R234). -/
def GridRun.area (g : GridRun) (r c : Nat) : Nat :=
  sumNat ((g.rowLines r).map fun l =>
    let x := g.columns c (l * 65536 - g.centreL r)
    (x.2 + 1 - x.1).toNat)

/-- The row whose aperture holds line l, if any (08 R234). -/
def GridRun.rowAt (g : GridRun) (l : Nat) : Option Nat :=
  let y := (l : Int) * 65536 - g.originL - g.get Key.gridLineOfs + g.half
  if y < 0 || g.get Key.gridPitchY = 0 then none
  else
    let r := (y / g.get Key.gridPitchY).toNat
    if r < g.nat Key.gridRows && g.firstLine r ≤ l && (l : Int) ≤ g.lastLine r then some r else none

/-- The key of a cell: row, column and phase. -/
def cellKey (r c ph : Nat) : Nat := r * 65536 + c * 4 + ph

/-! ## Phases (08 R236–R239) -/

/-- T_n(L) of a world line at port n in ns (08 R238); a web at rest gives no shift: a free value (log entry 28). -/
def State.portTime (s v : State) (w : WorldLine) (n : Nat) : Int :=
  let a := v.int (Key.alongOffset n)
  let shift := if a = 0 then 0
    else if w.vel = 0 then Config.freeInt s.freeCount
    else if w.vel < 0 then -(divRound (a * s.num Key.pitchY * 65536) w.vel.natAbs)
    else divRound (a * s.num Key.pitchY * 65536) w.vel.natAbs
  w.time + shift

/-- What port n shows on a world line: the phase, whether it is valid, and whether its dwell is invalid (08 R238, R239). -/
structure PhaseView where
  phase : Nat
  valid : Bool
  lost  : Bool
  deriving DecidableEq

/-- The phase of a port on a world line (08 R238). -/
def State.portPhase (s v : State) (g : GridRun) (w : WorldLine) (n : Nat) : PhaseView :=
  let count := s.num Key.phaseCount
  if count ≤ 1 then ⟨0, true, false⟩
  else
    let d : Int := s.num Key.phaseDwell
    let t := s.portTime v w n
    let j := (t - g.t0) / d
    let start := g.t0 + j * d
    let guard : Int := v.num Key.phaseGuard
    let lost := g.carrierBad || s.atoll.badDwell.contains (n, start)
    ⟨(j % count).toNat, decide (0 ≤ t - g.t0) && guard ≤ t - start && guard ≤ start + d - t && !lost, lost⟩

/-- The phases of every port on a world line. -/
def State.phaseViews (s v : State) (g : GridRun) (w : WorldLine) : List PhaseView :=
  (List.range 16).map fun n => s.portPhase v g w n

/-! ## Accumulation (08 R231, R234, R238, R241) -/

/-- One line's accumulation: the cells, the aperture pixels, the pixels whose ports differ, and the ports that lose pixels. -/
structure LineSum where
  cells    : Tbl Cell
  pixels   : Nat := 0
  mismatch : Nat := 0
  losing   : List Nat := []

/-- A pixel of emitter (r, c) on a world line (08 R238, R241). -/
def LineSum.pixel (g : GridRun) (w : WorldLine) (views : List PhaseView) (phases r c : Nat) (dy : Int) (acc : LineSum) (x : Nat) :
    LineSum :=
  let mark := w.marks.getD x 0
  let all := fun (f : Cell → Cell) => (List.range phases).foldl (fun (t : Tbl Cell) p => tblMod t {} (cellKey r c p) f) acc.cells
  let acc := { acc with pixels := acc.pixels + 1 }
  if bitAt mark 3 then { acc with cells := all fun z => { z with part := true } }
  else
    let ports := (List.range 16).filter fun n => bitAt (w.ports.getD x 0) n
    let vs := ports.map fun n => views.getD n ⟨0, true, false⟩
    let first := vs.headD ⟨0, true, false⟩
    let lost := vs.filter (·.lost)
    let acc := { acc with
      cells := lost.foldl (fun (t : Tbl Cell) (v : PhaseView) => tblMod t {} (cellKey r c v.phase) fun z => { z with skip := true }) acc.cells }
    if vs.all fun v => v.valid && v.phase = first.phase then
      let smp := fun i => (w.planes.getD i []).getD x 0
      let dx := (x : Int) * 65536 - g.centreX c
      let near := (0 < x && bitAt (w.marks.getD (x - 1) 0) 3) || bitAt (w.marks.getD (x + 1) 0) 3
      { acc with
        cells := tblMod acc.cells {} (cellKey r c first.phase) fun z => { z with
          n := z.n + 1, sum0 := z.sum0 + smp 0, sum1 := z.sum1 + smp 1, sum2 := z.sum2 + smp 2
          sumDx := z.sumDx + smp 1 * dx, sumDy := z.sumDy + smp 1 * dy, peak := max z.peak (smp 1)
          marks := (z.marks ||| mark) ||| (if near then mEdge else 0), ports := z.ports ||| w.ports.getD x 0
          sat := z.sat || smp 0 = 65535 || smp 1 = 65535 || smp 2 = 65535 } }
    else if vs.all (·.valid) then { acc with mismatch := acc.mismatch + 1 }
    else { acc with losing := (acc.losing ++ (ports.filter fun n => !(views.getD n ⟨0, true, false⟩).valid)).eraseDups }

/-- The aperture pixels of a world line in row r (08 R234). -/
def GridRun.sumLine (g : GridRun) (w : WorldLine) (views : List PhaseView) (phases r : Nat) : LineSum :=
  let dy := (w.line : Int) * 65536 - g.centreL r
  (List.range (g.nat Key.gridCols)).foldl (fun acc c =>
    let x := g.columns c dy
    let lo := (max x.1 0).toNat
    let hi := (min (x.2 + 1) w.marks.length).toNat
    (List.range (hi - lo)).foldl (fun acc i => LineSum.pixel g w views phases r c dy acc (lo + i)) acc) { cells := g.cells }

/-! ## Emitter records and limits (08 R241–R244) -/

/-- Bits of an emitter record's `FLAGS` (08 R242). -/
def emFlags (ph : Nat) (part fill gap seam sat skip limit empty fid cut : Bool) : Nat :=
  ph + 4 * bit part + 8 * bit fill + 16 * bit gap + 32 * bit seam + 64 * bit sat + 128 * bit skip + 256 * bit limit
    + 512 * bit empty + 1024 * bit fid + 2048 * bit cut

/-- What a closed emitter and phase measured (08 R241). -/
structure Measurement where
  x     : Nat
  y     : Nat
  z     : Nat
  dx    : Int
  dy    : Int
  part  : Bool
  gap   : Bool
  empty : Bool

/-- The failed tests of an emitter and phase, bits 10 to 14 of a class-255 record's `CLASS` (08 R243, R244). -/
def failedTests (lim : List Byte) (m : Measurement) (skip : Bool) : Nat :=
  let ctrl := fieldAt lim 0 1
  let f := fun o => fieldAt lim o 4
  let sum := f32Scaled m.x + f32Scaled m.y + f32Scaled m.z
  let in_ := fun (v lo hi : Nat) => !f32Nan lo && !f32Nan hi && f32Scaled lo * sum ≤ f32Scaled v * pow2 149
    && f32Scaled v * pow2 149 ≤ f32Scaled hi * sum
  let pos : Int := fieldAt lim 28 2
  1024 * bit (bitAt ctrl 0 && !f32Le (f 4) m.y) + 2048 * bit (bitAt ctrl 0 && !f32Le m.y (f 8))
    + 4096 * bit (bitAt ctrl 1 && (sum ≤ 0 || !in_ m.x (f 12) (f 16) || !in_ m.y (f 20) (f 24)))
    + 8192 * bit (bitAt ctrl 2 && (pos < m.dx.natAbs || pos < m.dy.natAbs))
    + 16384 * bit (bitAt ctrl 3 && (m.empty || m.part || skip))

/-- A sum scaled to the whole aperture (08 R241). -/
def State.aperture (v : State) (sum area n : Nat) : Nat :=
  let k := v.num Key.atollScale
  if n = 0 then 0
  else
    let e := bitsAt k 23 8
    f32OfRat ((if e = 0 then bitsAt k 0 23 else pow2 23 + bitsAt k 0 23) * sum * area) n ((max e 1 : Nat) - 150)

/-- The values of a cell (08 R241). -/
def State.measureCell (v : State) (c : Cell) (area : Nat) (part gap : Bool) : Measurement :=
  let d := fun (sum : Int) => if c.sum1 = 0 then 0 else satS 16 (divRound sum (256 * c.sum1))
  { x := v.aperture c.sum0 area c.n, y := v.aperture c.sum1 area c.n, z := v.aperture c.sum2 area c.n, dx := d c.sumDx
    dy := d c.sumDy, part := c.part || part, gap := bitAt c.marks 1 || gap, empty := c.n = 0 }

/-- The 62 bytes of a class-255 record (08 R244). -/
def State.limitBody (s v : State) (g : GridRun) (r c ph failed close : Nat) (z : Cell) (m : Measurement) (cut : Bool) :
    List Byte × Nat :=
  let lo := (max (g.firstLine r) 0).toNat
  let x := g.columns c 0
  let xlo := (max x.1 0).toNat
  let xhi := min (x.2 + 1) (s.num Key.worldWidth)
  let base := if v.num Key.coordMode = 1 then s.edgeOf lo / 4096 else 0
  let flags := bit (bitAt z.marks 2) + 2 * bit (bitAt z.marks 1) + 4 * bit (bitAt z.marks 0) + 8 * bit cut + 32
    + 64 * bit (bitAt failed 11) + 128 * bit (bitAt z.marks 4)
  (leBytes 1 1 ++ leBytes 1 flags ++ leBytes 2 (255 + 256 * ph + failed) ++ leBytes 4 g.piece ++ zeros 8
    ++ leBytes 8 (s.timeOrNow close) ++ leBytes 8 lo ++ leBytes 4 (g.lastLine r + 1 - lo).toNat
    ++ leBytes 4 (toTwos 32 ((xlo : Int) - base)) ++ leBytes 4 (xhi - xlo).toNat ++ leBytes 4 z.n
    ++ leBytes 4 (toTwos 32 (divRound (g.centreX c + m.dx * 256) 4096 - 16 * base))
    ++ leBytes 4 (toTwos 32 (divRound (g.centreL r + m.dy * 256 - (lo : Int) * 65536) 4096)) ++ leBytes 2 r ++ leBytes 2 c
    ++ leBytes 2 z.ports, base)

/-- The 32 bytes of an emitter record (08 R242). -/
def emitterBytes (piece r c flags strip peak : Nat) (m : Measurement) : List Byte :=
  leBytes 4 piece ++ leBytes 2 r ++ leBytes 2 c ++ leBytes 4 m.x ++ leBytes 4 m.y ++ leBytes 4 m.z
    ++ leBytes 2 (toTwos 16 m.dx) ++ leBytes 2 (toTwos 16 m.dy) ++ leBytes 2 peak ++ leBytes 2 flags ++ leBytes 4 strip

/-- Atoll changed. -/
def State.modAtoll (s : State) (f : Atoll → Atoll) : State := { s with atoll := f s.atoll }

/-- An emitter record of strip k joins the queue and stream 7 (08 R245). -/
def State.putEmitter (s : State) (k : Nat) (bytes : List Byte) : State :=
  let last := (s.atoll.queue.getLast?.map fun (q : Nat × Nat) => q.1 + 125).getD 0
  let s := s.modAtoll fun a => { a with queue := a.queue ++ [(max (2 * s.now + 8000) last, k)] }
  ((s.bump Key.emitterRecords).measure qEmitters 1 k).putUnit 7 k bytes

/-- One emitter and phase of a closed row (08 R241–R244). -/
def State.closeCell (s v : State) (g : GridRun) (r c ph close strip : Nat) (named : Option Nat) (part gap cut : Bool) : State :=
  let z := tblGet g.cells {} (cellKey r c ph)
  let m := v.measureCell z (g.area r c) part gap
  let failed := failedTests (bytesAt (v.blob Key.atollLimits) (32 * ph) 32) m z.skip
  let limit : Bool := v.flag Key.limitRecordEn && failed ≠ 0
  let flags := emFlags ph m.part (bitAt z.marks 0) m.gap (bitAt z.marks 2) z.sat z.skip limit m.empty g.fiducial cut
  let s := s.putEmitter strip (emitterBytes g.piece r c flags (strip % pow2 32) z.peak m)
  let s := (s.bumpIf m.empty Key.emptyEmitters).bumpIf cut Key.cutEmitters
  if limit then
    let b := s.limitBody v g r c ph failed close z m cut
    ((s.bump Key.limitRecords).bump (Key.classRecordCount 254)).putRecord
      { bytes := b.1, close := close, rank := rankLimit, order := (r * 65536 + c, ph), strip := named, base := b.2 }
  else s

/-- Row r of a grid closes at world line `close`; `named` names the strip where the line does not (08 R245, R246). -/
def State.closeRow (s : State) (g : GridRun) (r close : Nat) (named : Option Nat) (cut : Bool) : State :=
  let strip := named.getD (s.stripAt close)
  let v := s.settingsFor strip
  let phases := s.num Key.phaseCount
  let width := s.num Key.worldWidth
  let passed := (g.rowLines r).any fun l => 0 ≤ l && (l : Int) < close && (s.neverFormed l.toNat
    || s.atoll.passed.any fun (p : Nat × Nat) => p.1 ≤ l.toNat && l.toNat < p.2)
  let s := (List.range (g.nat Key.gridCols)).foldl (fun s c =>
    let out := g.firstLine r < 0 || (g.rowLines r).any fun l =>
      let x := g.columns c (l * 65536 - g.centreL r)
      x.1 ≤ x.2 && (x.1 < 0 || (width : Int) ≤ x.2)
    let seen := (List.range phases).any fun ph => 0 < (tblGet g.cells {} (cellKey r c ph)).n
    (List.range phases).foldl (fun s ph => s.closeCell v g r c ph close strip named (passed || out) passed cut)
      (s.bumpIf seen Key.emittersMeasured)) s
  let peak := min s.atoll.queue.length 8192
  if s.num Key.emitterQueuePeak < peak then s.setNum Key.emitterQueuePeak peak else s

/-- A grid replaced. -/
def State.setGrid (s : State) (g : GridRun) : State :=
  s.modAtoll fun a => { a with grids := a.grids.map fun x => if x.piece = g.piece then g else x }

/-- The rows of a grid that have reached their closing line at world line l close (08 R245). -/
def State.closeReached (l : Nat) : Nat → GridRun → State → State
  | 0, _, s => s
  | fuel + 1, g, s =>
    if g.nat Key.gridRows ≤ g.row || (l : Int) < g.lastLine g.row + 1 then s
    else
      let close := (max (g.lastLine g.row + 1) 0).toNat
      let s := s.closeRow g g.row close none false
      let g := { g with row := g.row + 1, cells := g.cells.filter fun (e : Nat × Cell) => (g.row + 1) * 65536 ≤ e.1 }
      State.closeReached l fuel g (s.setGrid g)

/-- Every row left of a grid closes at world line `close` with `EM_CUT`, and the grid ends (08 R246). -/
def State.cutGrid (s : State) (g : GridRun) (close : Nat) (named : Option Nat) : State :=
  let rows := g.nat Key.gridRows - g.row
  let s := (List.range rows).foldl (fun s i => s.closeRow g (g.row + i) close named true) s
  s.modAtoll fun a => { a with grids := a.grids.filter (·.piece ≠ g.piece) }

/-! ## Fiducials (08 R240) -/

/-- The first line, column and the sizes of a grid's fiducial window (08 R240). -/
def GridRun.fidLine (g : GridRun) : Int := g.nomL + g.get Key.fidWindowLine

/-- The last line of the fiducial window. -/
def GridRun.fidLast (g : GridRun) : Int := g.fidLine + g.get Key.fidHeight - 1

/-- A world line's part of the fiducial sums (08 R240). -/
def GridRun.fidSumLine (g : GridRun) (w : WorldLine) : GridRun :=
  if (w.line : Int) < g.fidLine || g.fidLast < w.line then g
  else
    let t := g.nat Key.fidThreshold
    let dark := g.nat Key.fidPolarity = 1
    let y := w.luma
    (List.range (g.nat Key.fidWidth)).foldl (fun g (i : Nat) =>
      let xi : Int := g.nomX + g.get Key.fidWindowCol + i
      if xi < 0 || (y.length : Int) ≤ xi then g
      else
        let x := xi.toNat
        let v := y.getD x 0
        if bitAt (w.marks.getD x 0) 3 || (if dark then t < v else v < t) then g
        else
          let k := if dark then t - v else v - t
          { g with fidCount := g.fidCount + 1, fidSum := g.fidSum + k, fidX := g.fidX + k * x, fidL := g.fidL + k * w.line }) g

/-- The origin of a grid becomes final after world line l (08 R240; 07 R222). -/
def State.finalOrigin (s : State) (g : GridRun) (l : Nat) : State :=
  let found : Bool := g.nat Key.fidMinPixels ≤ g.fidCount && 0 < g.fidSum
  let ox := divRound (65536 * g.fidX : Nat) g.fidSum + g.get Key.fidOfsX
  let ol := divRound (65536 * g.fidL : Nat) g.fidSum + g.get Key.fidOfsY
  let g := { g with final := true, finalLine := l + 1, fiducial := found
                    originX := if found then ox else g.originX, originL := if found then ol else g.originL }
  let s := (s.setGrid g).bumpIf (!found) Key.fiducialMissCount
  let s := s.modPiece g.piece fun p =>
    let line := if found then (ol / 65536).toNat else p.line
    { p with
      final := true, fiducial := found, line := line, col := if found then (ox / 65536).toNat else p.col
      lineEnd := if p.endMode = 0 && !p.cutShort then some (line + p.length) else p.lineEnd }
  match s.pieces.find? (·.id = g.piece) with
  | none => s
  | some p => s.startRecord p

/-! ## World lines (08 R231–R248) -/

/-- Atoll's work on one world line for the grid of one piece. -/
def State.gridLine (s : State) (w : WorldLine) (id : Nat) : State :=
  match s.atoll.grids.find? (·.piece = id), s.pieces.find? (·.id = id) with
  | some g, some p =>
    let l := w.line
    let inside : Bool := l < p.stop
    let g := if !g.final && inside then g.fidSumLine w else g
    let s := s.setGrid g
    let s := if !g.final && (g.fidLast ≤ l || !inside) then s.finalOrigin g l else s
    match s.atoll.grids.find? (·.piece = id), s.pieces.find? (·.id = id) with
    | some g', some p =>
      let v := s.settingsFor w.strip
      let stop := p.stop
      let s := match (if g.final && l < stop then g'.rowAt l else none) with
        | none => s
        | some r =>
          if g'.firstLine r < g'.finalLine then s
          else
            let views := s.phaseViews v g' w
            let s := if views.any (fun _ => w.vel = 0) && 1 < s.num Key.phaseCount then s.stepFree else s
            let acc := g'.sumLine w views (s.num Key.phaseCount) r
            let s := s.setGrid { g' with cells := acc.cells }
            ((s.measure qAtoll (3 * ((acc.pixels + 63) / 64)) w.strip).add Key.phaseMismatchPixels acc.mismatch).add Key.phaseSkipLines
              acc.losing.length
      match s.atoll.grids.find? (·.piece = id) with
      | none => s
      | some g =>
        if !g.final then s
        else
          let s := State.closeReached (min l stop) (g.nat Key.gridRows) g s
          match s.atoll.grids.find? (·.piece = id) with
          | none => s
          | some g =>
            if stop ≤ l then s.cutGrid g stop none
            else if g.nat Key.gridRows ≤ g.row then s.modAtoll fun a => { a with grids := a.grids.filter (·.piece ≠ id) }
            else s
    | _, _ => s
  | _, _ => s

/-- The emitter records that have not left the queue at their time. -/
def State.settleEmitters (s : State) : State :=
  s.modAtoll fun a => { a with queue := a.queue.filter fun (q : Nat × Nat) => decide (2 * s.now < q.1) }

/-- A stall begins at a full emitter queue (08 R245). -/
def State.settleAtoll (s : State) : State :=
  let s := s.settleEmitters
  if 8192 ≤ s.atoll.queue.length && s.atoll.stalled.isNone then s.modAtoll fun a => { a with stalled := some s.now } else s

/-- The next formed line that Atoll has not taken. -/
def State.nextAtollLine (s : State) : Option WorldLine := s.cause.formed.find? fun w => s.atoll.nextLine ≤ w.line

/-- ATOLL_LINE (08 R231–R247): Atoll takes the next world line. -/
def execAtollLine (s : State) : Host.Outcome State Fault Refusal :=
  if s.atoll.stalled.isSome || !s.inRun || !s.flag Key.atollEnable then .next s
  else match s.nextAtollLine with
    | none => .next s
    | some w =>
      let s := (s.atoll.grids.map (·.piece)).foldl (fun s id => s.gridLine w id) s
      let s := s.modAtoll fun a => { a with nextLine := w.line + 1 }
      .next (s.settleAtoll.settlePieces.release.dropTaken)

/-- ATOLL_RESUME (08 R245): the emitter queue has come free. -/
def execAtollResume (s : State) : Host.Outcome State Fault Refusal :=
  match s.atoll.stalled with
  | none => .next s
  | some t =>
    let s := s.settleEmitters
    if 8192 ≤ s.atoll.queue.length then .next s
    else
      .next ((s.modAtoll fun a => { a with stalled := none }).add Key.atollStallTime (s.now - t)).settleHold

/-! ## Piece starts (07 R220–R222, 08 R236) -/

/-- The grid of a piece, and for several phases the new phase reference with the carrier's start command (08 R236). -/
def State.startGrid (s : State) (p : Piece) : State :=
  if !s.flag Key.atollEnable then s
  else
    let phases := s.num Key.phaseCount
    let t0 := if 1 < phases then p.startTime + s.num Key.phaseStartDelay else s.atoll.t0
    let g : GridRun :=
      { piece := p.id, settings := gridKeys.map fun k => (k, s.val k), nomX := p.col, nomL := p.line
        originX := (p.col : Int) * 65536, originL := (p.line : Int) * 65536, final := p.final, t0 := t0 }
    let s := s.modAtoll fun a => { a with grids := a.grids ++ [g] }
    if phases ≤ 1 then s
    else
      let s := (s.modAtoll fun a => { a with oldT0 := a.t0, t0 := t0 }).setNum Key.phaseT0 t0
      let k := s.num Key.carrierNode
      if 1024 ≤ k then s
      else
        (s.sendTimed k cmdCarrierStart t0 p.id
          (leBytes 4 (s.num Key.phaseDwell) ++ leBytes 1 phases ++ zeros 3 ++ leBytes 4 p.id)).2

/-- A piece starts at counter value t (07 R220, R221). -/
def State.startPiece (s : State) (t : Nat) : State :=
  let line := (max (s.worldLineAt t + s.int Key.pieceLineOffset) 0).toNat
  let edge := if s.num Key.pieceColMode = 1 then s.edgeOf line / 4096 else 0
  let prev := s.pieces.getLast?
  let cuts : Bool := match prev with | none => false | some q => !q.done && line < q.stop
  let s := match prev with
    | none => s
    | some q => if cuts then s.modPiece q.id fun q => { q with lineEnd := some (max line q.line), cutShort := true } else s
  let mode := s.num Key.pieceEndMode
  let p : Piece :=
    { id := s.pieceNext + 1, line := line, col := s.num Key.pieceOriginCol + edge
      lineEnd := if mode = 0 then some (line + s.num Key.pieceLength) else none, final := s.num Key.pieceOriginMode = 0
      startTime := s.wAt t, encCount := s.webCountAt t, cutPrev := cuts, length := s.num Key.pieceLength, endMode := mode
      endOffset := s.int Key.pieceEndOffset, channel := s.num Key.pieceStartChannel }
  let s := ({ s with pieces := s.pieces ++ [p], pieceNext := s.pieceNext + 1 }).produce 0x00B1 s.now
  let s := if p.final then s.startRecord p else s
  ((s.startGrid p).settlePieces).release

/-- PIECE_START (07 R220): the oldest Narrows cycle with an event on the piece-start input; an end in the same cycle is
taken first (07 R221). -/
def execPieceStart (s : State) : Host.Outcome State Fault Refusal :=
  match s.wire 0x0061 with
  | [] => .next s
  | e :: _ =>
    let s := s.takeWire 0x0061
    if !(s.inRun && s.flag Key.pieceEnable) then .next s
    else
      let s := match s.wire 0x0062 with
        | [] => s
        | x :: _ => if x.1 / 2 = e.1 / 2 then (s.takeWire 0x0062).endPiece x.1 else s
      .next (s.startPiece e.1)

end Sys2Proof.Machine
end

