-- ==== Sys2Proof/Machine/Chips.lean ====
section
/-! DEFINITION. The chip cutter (09 R259–R261). -/

namespace Sys2Proof.Machine

open Sys2Proof

/-- Whether request a is served before b: by end line, then by record SEQ (09 R260). -/
def ChipReq.before (a b : ChipReq) : Bool := a.endLine < b.endLine || (a.endLine = b.endLine && a.recSeq < b.recSeq)

/-- The request the cutter serves next. -/
def State.nextChip (s : State) : Option ChipReq :=
  s.streams.chips.foldl (fun (best : Option ChipReq) (c : ChipReq) => match best with
    | none => some c
    | some b => if c.before b then some c else some b) none

/-- The window's last line, L_b (09 R259). -/
def ChipReq.lastLine (c : ChipReq) : Nat := c.line + c.height - 1

/-- Whether line l was never formed: passed by, or beyond the end of the run (09 R254). -/
def State.unformed (s : State) (l : Nat) : Bool := s.neverFormed l || (s.linesEnded && s.cause.nextLine ≤ l)

/-- Whether the cutter can serve a request: its record is available and line L_b has come to the ring, or never will
(09 R260). -/
def State.chipReady (s : State) (c : ChipReq) : Bool :=
  c.avail ≤ s.now && (c.lastLine < s.cause.nextLine || s.unformed c.lastLine)

/-- The samples of one row of a chip's window in plane i of world line l, as bytes of S0's format (09 R254, R260). -/
def State.chipRow (s : State) (c : ChipReq) (i l : Nat) : List Byte :=
  let b := s.num Key.s0Format
  if s.unformed l then
    let v := s.num Key.chipFillValue
    (List.replicate c.width (leBytes b (if b = 1 then toU8 v else v))).flatten
  else s.load (s.slotAddr l + 64 + b * (i * s.s0Width + (c.col - s.num Key.s0CropFirst))) (b * c.width)

/-- A chip: header and planar payload (09 R261). -/
def State.chipBytes (s : State) (c : ChipReq) : List Byte :=
  let lines := (List.range c.height).map (c.line + ·)
  let payload := pad64 ((List.range s.s0PlaneCount).flatMap fun i => lines.flatMap fun l => s.chipRow c i l)
  let flags := c.flags + 4 * bit (lines.any s.unformed)
  let h := leBytes 8 c.recSeq ++ leBytes 8 c.line ++ leBytes 4 c.col ++ leBytes 2 c.width ++ leBytes 2 c.height
    ++ leBytes 1 (formatCode (s.num Key.s0Format) (s.num Key.s0Planes)) ++ leBytes 1 flags ++ leBytes 2 c.cls ++ leBytes 4 c.piece
    ++ leBytes 8 c.time ++ leBytes 8 (s.stripAt c.endLine) ++ leBytes 4 payload.length ++ zeros 8
  h ++ leBytes 4 (crc32 h) ++ payload

/-- Whether a line of the window was overwritten before it was read (09 R260). -/
def State.chipMissed (s : State) (c : ChipReq) : Bool :=
  (List.range c.height).any fun i => !s.unformed (c.line + i) && !s.inRing (c.line + i)

/-- A request served: the chip delivered, or discarded and counted (09 R260). -/
def State.cutChip (s : State) (c : ChipReq) : State :=
  let s' := { s with streams := { s.streams with chips := s.streams.chips.filter fun x => x.recSeq ≠ c.recSeq } }
  if s.chipMissed c then s'.bump Key.chipsMissed
  else
    let k := s.stripAt c.endLine
    let b := s.chipBytes c
    ((s'.bump Key.chipsCut).measure qBytes b.length k).putUnit 4 k b

/-- CHIP_CUT (09 R260): the cutter serves the request at the head of its order, once it can. -/
def execChipCut (s : State) : Host.Outcome State Fault Refusal :=
  match s.nextChip with
  | none => .next s
  | some c => if s.chipReady c then .next (s.cutChip c) else .next s

end Sys2Proof.Machine
end

