-- ==== Sys2Proof/Machine/Records.lean ====
section
/-! DEFINITION. The journal's, trouble log's and recorder's readers, and the recorder's flush (02 R69, 15 R439–R447). -/

namespace Sys2Proof.Machine

open Sys2Proof

/-! ## Read pointers (02 R69, 15 R440, R446) -/

/-- The result of a read pointer: 0 valid, 1 overwritten, 2 not yet written; `next` numbers the next entry and the ring
keeps `ring` of them. -/
def ringResult (next ring q : Nat) : Nat :=
  if next ≤ q then 2 else if q + ring < next then 1 else 0

/-- The journal entry in the ring slot of q (02 R65). -/
def State.journalSlot (s : State) (q : Nat) : List Byte :=
  match s.dict.journal.find? (fun e => e.seq % 65536 = q % 65536) with
  | some e => e.bytes
  | none => zeros 32

/-- The trouble log entry in the ring slot of q (15 R440). -/
def State.troubleSlot (s : State) (q : Nat) : List Byte :=
  match s.logs.trouble.find? (fun e => e.seq % 16384 = q % 16384) with
  | some e => e.bytes
  | none => zeros 32

/-- The recorder record in the ring slot of q (15 R443). -/
def State.recorderSlot (s : State) (q : Nat) : List Byte :=
  match tblFind s.mram.recorder (q % 65536) with
  | some r => r.bytes
  | none => zeros 32

/-- The result of `RecReadIndex` (15 R446, R460): 3 for a retired slot. -/
def State.recorderResult (s : State) (q : Nat) : Nat :=
  if s.mram.recHead ≤ q then 2
  else if s.mram.retired.contains (q % 65536) then 3
  else match tblFind s.mram.recorder (q % 65536) with
    | some r => if r.index = q then 0 else 1
    | none => 1

/-- JOURNAL_READ_SEQ (02 R69). -/
def execJournalReadSeq (src : Source) (seq : Slot) (s : State) : Host.Outcome State Fault Refusal :=
  .next (s.command src Key.journalReadSeq seq (fun _ => []) fun v s =>
    s.modSource src fun x =>
      { x with journal := ⟨v.toNat, s.journalSlot v.toNat, ringResult s.dict.nextSeq 65536 v.toNat⟩ })

/-- TROUBLE_READ_SEQ (15 R440). -/
def execTroubleReadSeq (src : Source) (seq : Slot) (s : State) : Host.Outcome State Fault Refusal :=
  .next (s.command src Key.troubleReadSeq seq (fun _ => []) fun v s =>
    s.modSource src fun x =>
      { x with trouble := ⟨v.toNat, s.troubleSlot v.toNat, ringResult s.logs.nextTl 16384 v.toNat⟩ })

/-- REC_READ_INDEX (15 R446). -/
def execRecReadIndex (src : Source) (index : BitVec 32) (s : State) : Host.Outcome State Fault Refusal :=
  .next (s.command src Key.recReadIndex (index.setWidth 64) (fun _ => []) fun v s =>
    s.modSource src fun x =>
      { x with recorder := ⟨v.toNat, s.recorderSlot v.toNat, s.recorderResult v.toNat⟩ })

/-! ## Flush (15 R444–R446) -/

/-- An MRAM word that still fails after two rewrites (15 R439). -/
def State.mramWriteFail (s : State) (offset : Nat) : State :=
  (s.bump Key.mramWriteErrors).trouble 0x0070 noUnit 2 offset

/-- The recorder stops when 256 slots are retired (15 R445). -/
def State.stopRecorder (s : State) : State :=
  { s with logs := { s.logs with stopped := true } }.trouble 0x0071 noUnit 3 s.mram.retired.length

/-- The next slot that takes a record: retired slots are skipped, failing ones retired (15 R445). -/
def State.findSlot (failed : List Nat) : Nat → State → State
  | 0, s => s
  | fuel + 1, s =>
    let slot := s.mram.recHead % 65536
    let skip := fun (s : State) => { s with mram := { s.mram with recHead := (s.mram.recHead + 1) % pow2 32 } }
    if s.mram.retired.contains slot then State.findSlot failed fuel (skip s)
    else if failed.contains slot then
      let s := { s with mram := { s.mram with retired := s.mram.retired ++ [slot] } }
      let s := s.mramWriteFail (32 * slot)
      if s.mram.retired.length ≥ 256 then s.stopRecorder else State.findSlot failed fuel (skip s)
    else s

/-- One staged record written to the ring (15 R443, R445). -/
def State.writeRecord (failed : List Nat) (s : State) (r : RecRecord) : State :=
  if s.logs.stopped then s.bump Key.recDropped
  else
    let s := State.findSlot failed 65536 s
    if s.logs.stopped then s.bump Key.recDropped
    else
      let i := s.mram.recHead
      { s with mram := { s.mram with
          recorder := tblSet s.mram.recorder (i % 65536) { r with index := i }, recHead := (i + 1) % pow2 32 } }

/-- The operating seconds written to MRAM (15 R447). -/
def State.saveSeconds (s : State) : State :=
  { s with mram := { s.mram with opSeconds := s.opSecondsNow }, logs := { s.logs with lastSecondSave := s.now } }

/-- The end of a flush: the records taken are in the ring, and a second flush serves what arrived meanwhile (15 R444). -/
def State.endFlush (s : State) (failed : List Nat) : State :=
  match s.logs.flushing with
  | none => s
  | some (n, start) =>
    let taken := s.logs.staged.take n
    let s := { s with logs := { s.logs with staged := s.logs.staged.drop n } }
    let s := taken.foldl (State.writeRecord failed) s
    let s := if s.logs.pfailFlush then s.saveSeconds else s
    let again := s.logs.flushAgain && !s.logs.staged.isEmpty
    let s := { s with logs := { s.logs with flushing := none, flushAgain := false, lastFlush := s.now, pfailFlush := false } }
    let s := ((s.bump Key.recGeneration).bump Key.recFlushCount).setNum Key.recFlushLast ((s.now - start) % pow2 32)
    if again then s.startFlush else s

/-- REC_FLUSH (15 R444). -/
def execRecFlush (src : Source) (value : Slot) (s : State) : Host.Outcome State Fault Refusal :=
  .next (s.command src Key.recFlush value (fun _ => []) fun _ s => s.startFlush)

/-- RECORDER_FLUSH_TIMER (15 R444): 10 s since the last flush, staging not empty. -/
def execRecorderFlushTimer (s : State) : Host.Outcome State Fault Refusal :=
  if s.logs.lastFlush + 10000000000 ≤ s.now && !s.logs.staged.isEmpty && s.logs.flushing.isNone then .next s.startFlush
  else .next s

/-- RECORDER_FLUSH_COMPLETE (15 R444–R446). -/
def execRecorderFlushComplete (failed : List Nat) (s : State) : Host.Outcome State Fault Refusal := .next (s.endFlush failed)

/-- OPERATING_SECONDS_SAVE (15 R447): every 60 s. -/
def execOperatingSecondsSave (s : State) : Host.Outcome State Fault Refusal :=
  if s.logs.lastSecondSave + 60000000000 ≤ s.now then .next s.saveSeconds else .next s

end Sys2Proof.Machine
end

