-- ==== Sys2Proof/Machine/Inflate.lean ====
section
/-! DEFINITION. Decoding of DEFLATE (RFC 1951) and its zlib wrapper (RFC 1950), and encoding into stored blocks (09 R267,
R273, R277). -/

namespace Sys2Proof.Machine

open Sys2Proof

/-! ## Bits -/

/-- The bits of bytes, least significant first. -/
def bitsOf (bs : List Byte) : List Bool := bs.flatMap fun b => (List.range 8).map fun i => bitAt b.toNat i

/-- A number of n bits, least significant first, and the bits after it. -/
def takeBits : Nat → List Bool → Option (Nat × List Bool)
  | 0, bs => some (0, bs)
  | _ + 1, [] => none
  | n + 1, b :: bs => (takeBits n bs).map fun r => (bit b + 2 * r.1, r.2)

/-- The bits from the next byte on: the input is whole bytes. -/
def alignBits (bs : List Bool) : List Bool := bs.drop (bs.length % 8)

/-- The bytes of a number of bits. -/
def bytesOf (bs : List Bool) : List Byte :=
  (chunks 8 bs).map fun g => BitVec.ofNat 8 ((g.mapIdx fun i b => bit b * pow2 i).foldl (· + ·) 0)

/-! ## Huffman codes -/

/-- The symbols of a code in the order of their code words: by length, then by symbol. -/
def codeSymbols (lens : List Nat) : List Nat :=
  (List.range 15).flatMap fun l => (List.range lens.length).filter fun i => lens.getD i 0 = l + 1

/-- The numbers of code words of lengths 1 to 15. -/
def codeCounts (lens : List Nat) : List Nat := (List.range 15).map fun l => (lens.filter (· = l + 1)).length

/-- Whether code lengths ask for more words than there are. -/
def oversubscribed (lens : List Nat) : Bool :=
  32768 < ((codeCounts lens).mapIdx fun l n => n * pow2 (14 - l)).foldl (· + ·) 0

/-- One symbol by canonical code words: the counts of the lengths still to try, the code so far, the first code word of the
length and its place among the symbols. -/
def decodeSymbol (symbols : List Nat) : List Nat → Nat → Nat → Nat → List Bool → Option (Nat × List Bool)
  | [], _, _, _, _ => none
  | _, _, _, _, [] => none
  | n :: ns, code, first, index, b :: bs =>
    let code := code + bit b
    if code < first + n then some (symbols.getD (index + (code - first)) 0, bs)
    else decodeSymbol symbols ns (2 * code) (2 * (first + n)) (index + n) bs

/-- A code. -/
structure Code where
  symbols : List Nat
  counts  : List Nat

/-- The code of code lengths. -/
def codeOf (lens : List Nat) : Code := ⟨codeSymbols lens, codeCounts lens⟩

/-- The next symbol. -/
def Code.next (c : Code) (bs : List Bool) : Option (Nat × List Bool) := decodeSymbol c.symbols c.counts 0 0 0 bs

/-- The fixed literal and length code. -/
def fixedLiterals : Code :=
  codeOf (List.replicate 144 8 ++ List.replicate 112 9 ++ List.replicate 24 7 ++ List.replicate 8 8)

/-- The fixed distance code. -/
def fixedDistances : Code := codeOf (List.replicate 30 5)

/-- Base and extra bits of length symbol 257 + i. -/
def lengthBase : List (Nat × Nat) := [
  (3, 0), (4, 0), (5, 0), (6, 0), (7, 0), (8, 0), (9, 0), (10, 0), (11, 1), (13, 1), (15, 1), (17, 1), (19, 2), (23, 2),
  (27, 2), (31, 2), (35, 3), (43, 3), (51, 3), (59, 3), (67, 4), (83, 4), (99, 4), (115, 4), (131, 5), (163, 5), (195, 5),
  (227, 5), (258, 0)]

/-- Base and extra bits of distance symbol i. -/
def distanceBase (i : Nat) : Nat × Nat := if i < 4 then (i + 1, 0) else (((2 + i % 2) * pow2 (i / 2 - 1)) + 1, i / 2 - 1)

/-! ## Blocks -/

/-- How decoding stands: the output, newest byte first, and the bits left; `ok` is false at an invalid stream or its end. -/
structure Inflated where
  out : List Byte
  rest : List Bool
  ok   : Bool

/-- Bytes of a match copied. -/
def copyMatch (dist : Nat) : Nat → List Byte → List Byte
  | 0, out => out
  | n + 1, out => copyMatch dist n (out.getD (dist - 1) 0 :: out)

/-- The symbols of one block. -/
def inflateSymbols (lit dist : Code) : Nat → List Byte → List Bool → Inflated
  | 0, out, bs => ⟨out, bs, false⟩
  | fuel + 1, out, bs =>
    match lit.next bs with
    | none => ⟨out, [], false⟩
    | some (x, bs) =>
      if x < 256 then inflateSymbols lit dist fuel (BitVec.ofNat 8 x :: out) bs
      else if x = 256 then ⟨out, bs, true⟩
      else match lengthBase[x - 257]? with
        | none => ⟨out, bs, false⟩
        | some l => match takeBits l.2 bs with
          | none => ⟨out, [], false⟩
          | some (le, bs) => match dist.next bs with
            | none => ⟨out, [], false⟩
            | some (d, bs) =>
              if 29 < d then ⟨out, bs, false⟩
              else
                let b := distanceBase d
                match takeBits b.2 bs with
                | none => ⟨out, [], false⟩
                | some (de, bs) =>
                  let far := b.1 + de
                  if out.length < far then ⟨out, bs, false⟩
                  else inflateSymbols lit dist fuel (copyMatch far (l.1 + le) out) bs

/-- A stored block. -/
def inflateStored (out : List Byte) (bs : List Bool) : Inflated :=
  match takeBits 32 (alignBits bs) with
  | none => ⟨out, [], false⟩
  | some (n, bs) =>
    let len := n % 65536
    if n / 65536 ≠ 65535 - len then ⟨out, bs, false⟩
    else
      let data := bytesOf (bs.take (8 * len))
      ⟨data.reverse ++ out, bs.drop (8 * len), data.length = len⟩

/-- The order in which the lengths of the code-length code come. -/
def lengthOrder : List Nat := [16, 17, 18, 0, 8, 7, 9, 6, 10, 5, 11, 4, 12, 3, 13, 2, 14, 1, 15]

/-- n numbers of three bits. -/
def takeTriples : Nat → List Bool → Option (List Nat × List Bool)
  | 0, bs => some ([], bs)
  | n + 1, bs => match takeBits 3 bs with
    | none => none
    | some (x, bs) => (takeTriples n bs).map fun r => (x :: r.1, r.2)

/-- The code lengths of a dynamic block, oldest first, until `need` are read. -/
def takeLengths (c : Code) (need : Nat) : Nat → List Nat → List Bool → Option (List Nat × List Bool)
  | 0, _, _ => none
  | fuel + 1, acc, bs =>
    if need ≤ acc.length then (if acc.length = need then some (acc, bs) else none)
    else match c.next bs with
      | none => none
      | some (x, bs) =>
        if x < 16 then takeLengths c need fuel (acc ++ [x]) bs
        else
          let bits := if x = 16 then 2 else if x = 17 then 3 else 7
          let base := if x = 18 then 11 else 3
          match takeBits bits bs, acc.getLast? with
          | none, _ => none
          | some (n, bs), last =>
            if x = 16 then match last with
              | none => none
              | some v => takeLengths c need fuel (acc ++ List.replicate (base + n) v) bs
            else takeLengths c need fuel (acc ++ List.replicate (base + n) 0) bs

/-- The codes of a dynamic block. -/
def dynamicCodes (bs : List Bool) : Option (Code × Code × List Bool) :=
  match takeBits 14 bs with
  | none => none
  | some (h, bs) =>
    let nl := 257 + h % 32
    let nd := 1 + h / 32 % 32
    match takeTriples (4 + h / 1024) bs with
    | none => none
    | some (ts, bs) =>
      let lens := (List.range 19).map fun i => ((lengthOrder.zip ts).find? (·.1 = i)).elim 0 (·.2)
      if oversubscribed lens then none
      else match takeLengths (codeOf lens) (nl + nd) (nl + nd + 1) [] bs with
        | none => none
        | some (all, bs) =>
          let lit := all.take nl
          let dist := all.drop nl
          if 286 < nl || 30 < nd || oversubscribed lit || oversubscribed dist || lit.getD 256 0 = 0 then none
          else some (codeOf lit, codeOf dist, bs)

/-- The blocks of a stream. -/
def inflateBlocks : Nat → List Byte → List Bool → Inflated
  | 0, out, bs => ⟨out, bs, false⟩
  | fuel + 1, out, bs =>
    match takeBits 3 bs with
    | none => ⟨out, [], false⟩
    | some (h, bs) =>
      let r := match h / 2 with
        | 0 => inflateStored out bs
        | 1 => inflateSymbols fixedLiterals fixedDistances (bs.length + 1) out bs
        | 2 => (match dynamicCodes bs with
          | none => ⟨out, bs, false⟩
          | some (l, d, bs) => inflateSymbols l d (bs.length + 1) out bs)
        | _ => ⟨out, bs, false⟩
      if r.ok && h % 2 = 0 then inflateBlocks fuel r.out r.rest else r

/-- What decompression of a source gives: output, whether it ended well, and the bytes after the stream (09 R277). -/
structure Decoded where
  out    : List Byte
  ok     : Bool
  unused : Nat

/-- Raw DEFLATE decoded. -/
def inflateRaw (src : List Byte) : Decoded :=
  let bs := bitsOf src
  let r := inflateBlocks (bs.length + 1) [] bs
  ⟨r.out.reverse, r.ok, r.rest.length / 8⟩

/-- A zlib stream decoded: header, no preset dictionary, Adler-32 (09 R277). -/
def inflateZlib (src : List Byte) : Decoded :=
  let cmf := fieldAt src 0 1
  let flg := fieldAt src 1 1
  if src.length < 2 || cmf % 16 ≠ 8 || 7 < cmf / 16 || (256 * cmf + flg) % 31 ≠ 0 || bitAt flg 5 then ⟨[], false, 0⟩
  else
    let r := inflateRaw (src.drop 2)
    let tail := src.drop (src.length - r.unused)
    if !r.ok || tail.length < 4 || ofBe (tail.take 4) ≠ adler32 r.out then ⟨r.out, false, 0⟩
    else ⟨r.out, true, r.unused - 4⟩

/-! ## Stored blocks (09 R273) -/

/-- An input as stored blocks of at most 65,535 bytes; one empty block where there is no input. -/
def storedBlocks (data : List Byte) : List Byte :=
  let parts := if data.isEmpty then [[]] else chunks 65535 data
  (parts.mapIdx fun i p =>
    BitVec.ofNat 8 (bit (i + 1 = parts.length)) :: leBytes 2 p.length ++ leBytes 2 (65535 - p.length) ++ p).flatten

/-- The zlib header of a depth (09 R268). -/
def zlibHeader (depth : Nat) : List Byte := [0x78, BitVec.ofNat 8 ([0x01, 0x5E, 0x9C, 0xDA].getD (depth - 1) 0x9C)]

/-- The zlib trailer: the Adler-32 of the input, most significant byte first. -/
def zlibTrailer (data : List Byte) : List Byte := beBytes 4 (adler32 data)

end Sys2Proof.Machine
end

