-- ==== Sys2Proof/Machine/Work.lean ====
section
/-! DEFINITION. When a strip's work is done (03 R75), and the cycles each engine still has to spend (03 R79, R80, R84). -/

namespace Sys2Proof.Machine

open Sys2Proof

/-! ## Work that is done (03 R75) -/

/-- The camera lines of port n that have not passed its pipeline, by position: in reception or buffered. A plane in the delay store
has left the pipeline, and may wait for a trigger that does not come. -/
def Port.waiting (p : Port) : List LineHead :=
  (match p.rx with | none => [] | some r => r.matched.toList) ++ p.buffer.map (·.head)

/-- Whether every camera line of strip k has passed its pipeline; one of an unplaced port has no pipeline to pass (03 R96). -/
def State.pipelinesDone (s : State) (k : Nat) : Bool :=
  s.enabledPorts.all fun n => 8 ≤ s.num (Key.portPlacement n) || (s.port n).waiting.all fun h => s.stripIndexAt h.worldPos ≠ k

/-- Whether Reef and Atoll have taken every line below e. -/
def State.inspectedTo (s : State) (e : Nat) : Bool := e ≤ s.takenTo

/-- Whether every record of strip k, whose end is e, has left: none awaits its turn, none is in a queue. -/
def State.recordsOut (s : State) (k e : Nat) : Bool :=
  s.reef.held.all (fun r => s.stripOfRecord r ≠ k || (r.strip.isNone && e ≤ r.close))
    && s.reef.queue.all (fun (q : Nat × Nat) => q.2 ≠ k || q.1 ≤ s.now)
    && s.atoll.queue.all (fun (q : Nat × Nat) => q.2 ≠ k || q.1 ≤ 2 * s.now)

/-- Whether streams S1 to S3 have no line of strip k left, whose end is e. -/
def State.linesOut (s : State) (e : Nat) : Bool := [1, 2, 3].all fun i => e ≤ tblGet s.streams.sxNext 0 i

/-- Whether every chip whose end line lies in strip k has been cut. -/
def State.chipsOut (s : State) (k : Nat) : Bool := s.streams.chips.all fun c => s.stripAt c.endLine ≠ k

/-- The streams whose compression belongs to the work of their strip: not statistics and records, which end after it. -/
def stripStream (st : Nat) : Bool := st < 5 || st = 7

/-- Whether every item of work of a strip is done, compression apart (03 R75). -/
def State.stripDone (s : State) (x : Strip) : Bool :=
  match x.lineEnd with
  | none => false
  | some e =>
    s.pipelinesDone x.index && e ≤ s.cause.nextLine && (x.passed || s.inspectedTo e) && s.recordsOut x.index e && s.linesOut e
      && s.chipsOut x.index

/-- Whether all of stream st's data for strip k has reached its engine, so that the compression unit's input is whole (09
R267): nothing is on its way, and the strip has no more to come. -/
def State.unitWhole (s : State) (st k : Nat) : Bool :=
  (s.arrivals (st + 8)).all (fun u => u.strip ≠ k)
    && (match s.sched.strips.find? (·.index = k) with
      | none => true
      | some x => stripStream st && s.stripDone x)

/-- Whether no engine that has buffers works on strip k. An engine that waits for a buffer holds no strip back (00 R18). -/
def State.compressionDone (s : State) (k : Nat) : Bool :=
  (List.range 8).all fun e =>
    let x := s.engine e
    2 ≤ x.state || (x.work.toList ++ x.ready).all fun w => w.source = 0xFF || !stripStream w.source || w.strip ≠ k

/-! ## Work that is left (03 R79, R80, R84) -/

/-- The end of strip k, or of the last one kept before it. -/
def State.boundary (s : State) (k : Nat) : Nat :=
  s.sched.strips.foldl (fun m x => if x.index ≤ k then max m (x.lineEnd.getD 0) else m) 0

/-- The planes of an issued trigger that have not arrived. -/
def missingPlanes (mode planes : Nat) : Nat := (List.range (planesOf mode)).foldl (fun n q => n + bit (!bitAt planes q)) 0

/-- The samples pipeline p has still to take for strips up to k: buffered planes, and where `owed` planes of issued
triggers too. -/
def State.samplesLeft (s : State) (p k : Nat) (owed : Bool) : Nat :=
  let ports := s.enabledPorts.filter fun n => s.num (Key.portPlacement n) = p
  sumNat (ports.map fun n =>
    let b := ((s.port n).buffer.filter fun x => s.stripIndexAt x.head.worldPos ≤ k).length
    let t := if owed then
        sumNat ((s.port n).ledger.map fun (e : Nat × LedgerEntry) =>
          if e.2.valid && !e.2.lost && s.stripIndexAt e.2.worldPos ≤ k then missingPlanes (s.num (Key.colourMode n)) e.2.planes else 0)
      else 0
    (b + t) * s.num (Key.camLineLength n))

/-- Atoll's cycles per world line as last measured. -/
def State.atollPerLine (s : State) : Nat :=
  match s.sched.history.find? (0 < ·.lines) with
  | none => 0
  | some m => tblGet m.qty 0 qAtoll / m.lines

/-- The bytes of one chip. -/
def State.chipSize (s : State) (c : ChipReq) : Nat :=
  64 + round64 (c.width * c.height * s.s0PlaneCount * s.num Key.s0Format)

/-- The bytes of stream i's lines of strips up to the boundary b that are not formed. -/
def State.sxBytesLeft (s : State) (i b : Nat) : Nat :=
  let n := i - 1
  let lo := tblGet s.streams.sxNext 0 i
  let fy := s.num (Key.sxFactorY n)
  let planes := if s.num (Key.sxPlanes n) = 1 then s.num Key.worldPlanes else 1
  if !s.flag (Key.sxEnable n) || bitAt (s.num Key.shedMask) (shedBit i) then 0
  else (ceilDiv b fy - ceilDiv lo fy)
    * (64 + round64 (s.num (Key.sxCropWidth n) / s.num (Key.sxFactorX n) * planes * s.num (Key.sxFormat n)))

/-- The input bytes engine e holds for strips up to k, while it does not wait for a buffer. -/
def State.inputLeft (s : State) (e k : Nat) : Nat :=
  let x := s.engine e
  if 2 ≤ x.state then 0
  else sumNat ((x.work.toList ++ x.ready).map fun w => if w.source ≠ 0xFF && w.strip ≤ k then w.held else 0)

/-- The cycles engine e has still to spend on strips up to k (03 R80, R84; log entry 30). -/
def State.workLeft (s : State) (e k : Nat) (owed : Bool) : Nat :=
  let b := s.boundary k
  let cols := (s.num Key.worldWidth + 63) / 64
  if e < 8 then s.samplesLeft e k owed / 8
  else if e = 8 then (b - s.cause.nextLine) * (cols * s.num Key.worldPlanes)
  else if e = 9 then if s.flag Key.reefEnable then (b - s.reef.nextLine) * cols else 0
  else if e = 10 then if s.flag Key.atollEnable then (b - s.atoll.nextLine) * s.atollPerLine else 0
  else if e = 11 then
    (sumNat ((s.streams.chips.filter fun c => s.stripAt c.endLine ≤ k).map s.chipSize)
      + sumNat ([1, 2, 3].map fun i => s.sxBytesLeft i b)) / 64
  else ((List.range 8).map fun i => s.inputLeft i k).foldl max 0 / 4

end Sys2Proof.Machine
end

