-- ==== Sys2Proof/Machine/Compression.lean ====
section
/-! DEFINITION. The DEFLATE engines (09 R267–R279) and their ring index mirrors (14 R423). -/

namespace Sys2Proof.Machine

open Sys2Proof

/-! ## Pre-pass (09 R269) -/

/-- The samples of a row of b-byte samples differenced, or, with `undo`, summed again. -/
def prepassRow (b : Nat) (undo : Bool) (row : List Byte) : List Byte :=
  let xs := (chunks b row).map ofLe
  let m := pow2 (8 * b)
  let ys := if undo then (xs.foldl (fun (acc : List Nat × Nat) x => let v := (acc.2 + x) % m; (acc.1 ++ [v], v)) ([], 0)).1
    else (xs.zip (0 :: xs)).map fun p => (p.1 + m - p.2) % m
  ys.flatMap (leBytes b)

/-- Rows of n bytes after or before the pre-pass; the last row may be shorter. -/
def prepassRows (b n : Nat) (undo : Bool) (data : List Byte) : List Byte :=
  if n = 0 || n % b ≠ 0 || data.length % b ≠ 0 then Config.oddRows data b n undo
  else (chunks n data).flatMap (prepassRow b undo)

/-- A unit of lines or chips after the pre-pass: its plane rows, not its header and padding. -/
def State.prepassUnit (s : State) (st : Nat) (u : List Byte) : List Byte :=
  let fmt := if st = 4 then fieldAt u 24 1 else fieldAt u 2 1
  let b := if bitAt fmt 0 then 2 else 1
  let planes := if bitAt fmt 1 then s.num Key.worldPlanes else 1
  let width := if st = 4 then fieldAt u 20 2 else fieldAt u 4 4
  let rows := if st = 4 then planes * fieldAt u 22 2 else planes
  let n := width * b
  u.take 64 ++ (chunks n (bytesAt u 64 (n * rows))).flatMap (prepassRow b false) ++ u.drop (64 + n * rows)

/-- The bytes fed to the encoder (09 R269, R272). -/
def State.workInput (s : State) (w : CompWork) : List Byte :=
  if !w.prepass then w.parts.flatten
  else if w.source = 0xFF then prepassRows w.ppBytes w.ppLine false w.parts.flatten
  else if w.source < 5 then w.parts.flatMap (s.prepassUnit w.source)
  else w.parts.flatten

/-- Whether all input of a piece of work is there. -/
def State.workWhole (s : State) (w : CompWork) : Bool := w.source = 0xFF || s.unitWhole w.source w.strip

/-! ## Output (09 R268, R273) -/

/-- The bytes that the wrapper adds. -/
def CompWork.wrapped (w : CompWork) : Nat := if w.zlib then 6 else 0

/-- The length of the encoded stream of an input. -/
def CompWork.encodedSize (w : CompWork) (input : List Byte) : Nat :=
  w.wrapped + Config.encodedLength input w.dynamic w.depth

/-- The byte at place i of the encoded stream. -/
def CompWork.encodedAt (w : CompWork) (input : List Byte) (whole : Bool) (i : Nat) : Byte :=
  let size := w.encodedSize input
  if w.zlib && i < 2 then (zlibHeader w.depth).getD i 0
  else if w.zlib && whole && size ≤ i + 4 then (zlibTrailer input).getD (i + 4 - size) 0
  else Config.encodedByte input w.dynamic w.depth (if w.zlib then i - 2 else i)

/-- The fallback's stream: the input as stored blocks, in the same wrapper. -/
def CompWork.fallbackBytes (w : CompWork) (input : List Byte) : List Byte :=
  if w.zlib then zlibHeader w.depth ++ storedBlocks input ++ zlibTrailer input else storedBlocks input

/-! ## Rings and completions (09 R270, R272) -/

/-- Producer, consumer and entries of ring 0 buffer, 1 completion, 2 job of engine e. -/
def State.compRing (s : State) (e ring : Nat) : Nat × Nat × Nat :=
  match ring with
  | 0 => (s.num (Key.bufProducer e), s.num (Key.bufConsumer e), s.num (Key.bufRingEntries e))
  | 1 => (s.num (Key.complProducer e), s.num (Key.complConsumer e), s.num (Key.complRingEntries e))
  | _ => (s.num (Key.jobProducer e), s.num (Key.jobConsumer e), s.num (Key.jobRingEntries e))

/-- How far a ring's producer is ahead of its consumer. -/
def State.ringAhead (s : State) (e ring : Nat) : Nat :=
  let r := s.compRing e ring
  (r.1 + pow2 32 - r.2.1) % pow2 32

/-- A ring whose producer has run too far ahead stops the engine (09 R270; 13 R392, 15 R441). -/
def State.checkRing (s : State) (e ring : Nat) : State :=
  if s.ringAhead e ring ≤ (s.compRing e ring).2.2 || bitAt (s.engine e).overrun ring then s
  else ((s.modEngine e fun x => { x with overrun := setBit x.overrun ring true }).raiseHm (33 + e)).trouble 0x0040 e 1 ring

/-- One completion entry (09 R272). -/
structure Completion where
  tag    : Nat := 0
  used   : Nat := 0
  crc    : Nat := 0
  inLen  : Nat := 0
  status : Nat := 0
  flags  : Nat := 0
  source : Nat := 0
  outLen : Nat := 0

/-- The 32 bytes of a completion entry. -/
def Completion.bytes (c : Completion) (seq : Nat) : List Byte :=
  leBytes 4 c.tag ++ leBytes 4 c.used ++ leBytes 8 seq ++ leBytes 4 c.crc ++ leBytes 4 c.inLen ++ leBytes 1 c.status
    ++ leBytes 1 c.flags ++ leBytes 2 c.source ++ leBytes 4 c.outLen

/-- A completion entry written to engine e's ring. -/
def State.complete (s : State) (e : Nat) (c : Completion) : State :=
  let r := s.compRing e 1
  let s := s.writeTo (s.num (Key.complRingBase e) + 32 * (r.1 % r.2.2)) (c.bytes (s.engine e).unitSeq)
  (s.setNum (Key.complProducer e) ((r.1 + 1) % pow2 32)).checkRing e 1

/-- The tag of a completion: of the buffer, of a decompression job, or, where there is neither, a value the spec does not
give (log entry 31). -/
def State.tagOf (s : State) (x : Engine) : Nat :=
  match x.work with
  | some w => if w.decompress then w.tag else if x.hasBuf then x.bufTag else s.free % pow2 32
  | none => s.free % pow2 32

/-- A unit or job ends: its completion, its number, its interrupt; the engine is IDLE (09 R272, R278). -/
def State.endUnit (s : State) (e : Nat) (c : Completion) : State :=
  let x := s.engine e
  let s := if x.hasBuf then s else s.stepFree
  let s := s.complete e c
  let s := ((s.bump (Key.unitsDone e)).add (Key.inBytes e) c.inLen).bumpIf (c.status = 3 || c.status = 8) (Key.decodeErrors e)
  let s := s.modEngine e fun x => { x with state := 0, work := none, hasBuf := false, outLen := 0, unitSeq := x.unitSeq + 1 }
  match x.work with
  | none => s
  | some w =>
    let s := s.measure (qComp e) c.inLen (if w.source = 0xFF then s.num Key.stripIndex else w.strip)
    if w.irq then s.raiseHm (33 + e) else s

/-- The completion of a piece of work that ends without its last buffer. -/
def State.cutShort (s : State) (e status flags : Nat) : Completion :=
  let x := s.engine e
  match x.work with
  | none => { tag := s.tagOf x, status := status, flags := flags }
  | some w =>
    let input := s.workInput w
    { tag := s.tagOf x, crc := if w.decompress then 0 else crc32 input
      inLen := if w.decompress then w.parts.flatten.length else input.length
      status := status, flags := flags, source := w.source, outLen := x.outLen }

/-! ## Buffers and deadlines (09 R271, R273, R276) -/

/-- The deadline of a piece of work: of a job, fixed as it started; of a unit, its strip's plus `ChainGrace` (09 R273). -/
def State.workDeadline (s : State) (w : CompWork) : Option Nat :=
  if w.source = 0xFF then some w.deadline
  else (tblFind s.sched.deadlines w.strip).map (· + 1000 * s.num Key.chainGrace)

/-- Whether a piece of work's deadline has passed. -/
def State.workLate (s : State) (w : CompWork) : Bool := match s.workDeadline w with
  | none => false
  | some d => d ≤ s.now

/-- Whether engine e finds no buffer descriptor it may take. -/
def State.noBuffers (s : State) (e : Nat) : Bool := s.ringAhead e 0 = 0 || (s.engine e).overrun ≠ 0

/-- A unit that waits for a buffer at its deadline ends with OVERFLOW_NO_CHAIN and VOID; with the fallback its input comes
out again in stored blocks (09 R273). -/
def State.overflowUnit (s : State) (e : Nat) (w : CompWork) : State :=
  let c := s.cutShort e 1 5
  let s := s.bump (Key.overflowNoChain e)
  if w.fallback then
    ((s.stepFree.complete e c).measure (qComp e) c.inLen (if w.source = 0xFF then s.num Key.stripIndex else w.strip)).modEngine e fun x => { x with state := 3, outLen := 0, hasBuf := false }
  else s.endUnit e c

/-- Whether a buffer descriptor's range is well placed (09 R276). -/
def State.bufferOk (s : State) (a n : Nat) : Bool := s.addrOk a n && (busAddr a || !s.touchesSystem a n)

/-- Engine e takes its next buffer, or waits: `desc` is the descriptor where the ring lies in host memory, empty until it
has been read (09 R270, R271, R273). -/
def State.takeBuffer (s : State) (e : Nat) (desc : List Byte) : State :=
  let x := s.engine e
  match x.work with
  | none => s
  | some w =>
    if x.hasBuf then s
    else if s.noBuffers e then
      if x.state = 3 then s
      else if s.workLate w then s.overflowUnit e w
      else s.modEngine e fun x => { x with state := 2 }
    else
      let base := s.num (Key.bufRingBase e)
      let c := s.num (Key.bufConsumer e)
      let d := if busAddr base then desc else s.load (base + 16 * (c % s.num (Key.bufRingEntries e))) 16
      if d.length < 16 then s.modEngine e fun x => { x with state := if x.state = 3 then 3 else 2 }
      else
        let s := s.setNum (Key.bufConsumer e) ((c + 1) % pow2 32)
        let a := fieldAt d 0 8
        let n := fieldAt d 8 4
        if s.bufferOk a n then
          s.modEngine e fun x =>
            { x with state := if x.state = 3 then 3 else 1, hasBuf := true, bufAddr := a, bufLen := n, bufTag := fieldAt d 12 4 }
        else s.endUnit e { s.cutShort e 8 5 with tag := fieldAt d 12 4 }

/-- Output goes to the engine's buffer. -/
def State.fillBuffer (s : State) (e : Nat) (out : List Byte) : State :=
  (s.writeTo (s.engine e).bufAddr out).add (Key.outBytes e) out.length

/-- The output of engine e's work from where it stands, n bytes. -/
def State.nextOutput (s : State) (e n : Nat) (w : CompWork) : List Byte :=
  let x := s.engine e
  let input := s.workInput w
  if x.state = 3 then bytesAt (w.fallbackBytes input) x.outLen n
  else
    let whole := s.workWhole w
    (List.range n).map fun i => w.encodedAt input whole (x.outLen + i)

/-- The length of the whole output, once the input is whole. -/
def State.outputSize (s : State) (e : Nat) (w : CompWork) : Option Nat :=
  if !s.workWhole w then none
  else some (if (s.engine e).state = 3 then (w.fallbackBytes (s.workInput w)).length else w.encodedSize (s.workInput w))

/-- A full buffer is completed, and the next one taken (09 R271, R272). -/
def State.bufferFull (s : State) (e : Nat) (desc : List Byte) : State :=
  let x := s.engine e
  match x.work with
  | none => s
  | some w =>
    if w.decompress then s
    else if !x.hasBuf then s.takeBuffer e desc
    else
      let ends : Bool := match s.outputSize e w with
        | none => decide (x.state = 3)
        | some n => decide (n ≤ x.outLen + x.bufLen)
      if ends then s
      else
        let s := s.fillBuffer e (s.nextOutput e x.bufLen w)
        let s := s.complete e { tag := x.bufTag, used := x.bufLen, flags := if x.state = 3 then 2 else 0, source := w.source }
        (s.modEngine e fun x => { x with outLen := x.outLen + x.bufLen, hasBuf := false }).takeBuffer e desc

/-- The last output goes to the buffer in hand and the unit ends with a status (09 R273, R278). -/
def State.finishUnit (s : State) (e status flags : Nat) (w : CompWork) : State :=
  let x := s.engine e
  match s.outputSize e w with
  | none => s
  | some n =>
    if !x.hasBuf || x.outLen + x.bufLen < n then s
    else
      let used := n - x.outLen
      let c := { s.cutShort e status flags with tag := x.bufTag, used := used, outLen := n }
      (s.fillBuffer e (s.nextOutput e used w)).endUnit e c

/-! ## Starting (09 R267, R276, R278) -/

/-- A unit of a stream with the settings of engine e in effect (09 R268). -/
def State.withSettings (s : State) (e : Nat) (w : CompWork) : CompWork :=
  { w with
    zlib := s.num (Key.wrapper e) = 1, dynamic := s.num (Key.tables e) = 1, depth := s.num (Key.depth e)
    prepass := s.flag (Key.prePass e), fallback := s.flag (Key.storedFallback e) }

/-- Whether a job descriptor breaks a rule of 09 R276. -/
def State.jobBad (s : State) (d : List Byte) : Bool :=
  let op := fieldAt d 0 1
  let fl := fieldAt d 1 1
  let src := fieldAt d 8 8
  let n := fieldAt d 16 4
  let room := fieldAt d 20 4
  let dst := fieldAt d 24 8
  64 ≤ fl || ofLe (d.drop 44) ≠ 0 || (op ≠ 1 && op ≠ 2)
    || (op = 1 && (fieldAt d 2 1 < 1 || 4 < fieldAt d 2 1))
    || (bitAt fl 2 && fieldAt d 3 1 ≠ 1 && fieldAt d 3 1 ≠ 2)
    || n = 0 || (op = 2 && room = 0) || !s.addrOk src n || (op = 2 && !s.bufferOk dst room)

/-- The work of a job descriptor (09 R276). -/
def State.jobWork (s : State) (d src : List Byte) : CompWork :=
  let fl := fieldAt d 1 1
  { source := 0xFF, decompress := fieldAt d 0 1 = 2, zlib := bitAt fl 0, dynamic := bitAt fl 1, prepass := bitAt fl 2
    checkCrc := bitAt fl 3, fallback := bitAt fl 4, irq := bitAt fl 5, depth := fieldAt d 2 1, ppBytes := fieldAt d 3 1
    ppLine := fieldAt d 4 4, parts := [src], hostSrc := busAddr (fieldAt d 8 8), dstAddr := fieldAt d 24 8, dstLen := fieldAt d 20 4, expect := fieldAt d 32 4
    tag := fieldAt d 40 4, deadline := s.now + 1000 * fieldAt d 36 4 }

/-- Engine e begins a piece of work. -/
def State.beginWork (s : State) (e : Nat) (w : CompWork) : State :=
  let s := s.modEngine e fun x => { x with state := 1, work := some w, outLen := 0, hasBuf := false }
  if w.decompress then s else s.takeBuffer e []

/-- Engine e takes its next host job, `desc` and `hostSrc` being read from host memory. -/
def State.startJob (s : State) (e : Nat) (desc hostSrc : List Byte) : State :=
  let base := s.num (Key.jobRingBase e)
  let c := s.num (Key.jobConsumer e)
  let d := if busAddr base then desc.take 64 else s.load (base + 64 * (c % s.num (Key.jobRingEntries e))) 64
  if s.ringAhead e 2 = 0 || d.length < 64 then s
  else
    let s := s.setNum (Key.jobConsumer e) ((c + 1) % pow2 32)
    let n := fieldAt d 16 4
    let a := fieldAt d 8 8
    if s.jobBad d then
      let s := s.modEngine e fun x => { x with work := some { s.jobWork d [] with source := 0xFF } }
      s.endUnit e { s.cutShort e 8 1 with crc := 0, inLen := 0 }
    else s.beginWork e (s.jobWork d (if busAddr a then hostSrc.take n else s.load a n))

/-- COMPRESSION_UNIT_START (09 R267, R278): an idle engine takes its next unit, or with none ready its next host job (log
entry 32). -/
def execCompressionUnitStart (e : Fin 8) (desc hostSrc : List Byte) (s : State) : Host.Outcome State Fault Refusal :=
  let x := s.engine e.val
  if !s.inService || x.state ≠ 0 || x.overrun ≠ 0 then .next s
  else match x.ready with
    | w :: rest => .next ((s.modEngine e.val fun x => { x with ready := rest }).beginWork e.val (s.withSettings e.val w))
    | [] => .next (s.startJob e.val desc hostSrc)

/-- COMPRESSION_BUFFER_FULL (09 R271): the buffer in hand is full and the next is taken; or the descriptor that the engine
awaits from host memory arrives. -/
def execCompressionBufferFull (e : Fin 8) (desc : List Byte) (s : State) : Host.Outcome State Fault Refusal :=
  .next (s.bufferFull e.val desc)

/-! ## Index writes (09 R270, 14 R423) -/

/-- An index of ring 0 buffer, 1 completion, 2 job is written: an overrun of the ring is judged anew, and an engine that
waits may continue. -/
def State.indexWritten (s : State) (e ring : Nat) : State :=
  ((s.modEngine e fun x => { x with overrun := setBit x.overrun ring false }).checkRing e ring).when
    ((s.engine e).state = 2 || (s.engine e).state = 3) (·.takeBuffer e [])

/-- BUF_PRODUCER (09 R270). -/
def execBufProducer (src : Source) (e : Fin 8) (value : Slot) (s : State) : Host.Outcome State Fault Refusal :=
  .next (s.command src (Key.bufProducer e.val) value (fun _ => []) fun v s =>
    (s.setVal (Key.bufProducer e.val) v).indexWritten e.val 0)

/-- JOB_PRODUCER (09 R270). -/
def execJobProducer (src : Source) (e : Fin 8) (value : Slot) (s : State) : Host.Outcome State Fault Refusal :=
  .next (s.command src (Key.jobProducer e.val) value (fun _ => []) fun v s =>
    (s.setVal (Key.jobProducer e.val) v).indexWritten e.val 2)

/-- HB_COMP_IDX (14 R423): a mirror write appears at once; one of a read-only mirror is discarded and counted. -/
def execHbCompIdx (e : Fin 8) (reg : Fin 6) (value : BitVec 32) (s : State) : Host.Outcome State Fault Refusal :=
  match reg.val with
  | 0 => .next ((s.setNum (Key.bufProducer e.val) value.toNat).indexWritten e.val 0)
  | 3 => .next ((s.setNum (Key.complConsumer e.val) value.toNat).indexWritten e.val 1)
  | 4 => .next ((s.setNum (Key.jobProducer e.val) value.toNat).indexWritten e.val 2)
  | _ => .next s.badAccess

/-! ## Ends (09 R273–R278) -/

/-- CHAIN_DEADLINE (09 R273): an engine that waits for a buffer at the deadline ends its unit. -/
def execChainDeadline (e : Fin 8) (s : State) : Host.Outcome State Fault Refusal :=
  let x := s.engine e.val
  match x.work with
  | none => .next s
  | some w => .next (s.when (x.state = 2 && s.noBuffers e.val && s.workLate w) (·.overflowUnit e.val w))

/-- A decompression job ends (09 R277): output, then the code. -/
def State.endDecompress (s : State) (e : Nat) (w : CompWork) : State :=
  let src := w.parts.flatten
  let d := if w.zlib then inflateZlib src else inflateRaw src
  let out := if w.prepass then prepassRows w.ppBytes w.ppLine true d.out else d.out
  let tooLong : Bool := w.dstLen < out.length
  let status := if tooLong then 4 else if !d.ok then 3 else if w.checkCrc && crc32 out ≠ w.expect then 5 else 0
  let n := min out.length w.dstLen
  let s := (s.writeTo w.dstAddr (out.take n)).add (Key.outBytes e) n
  s.endUnit e { tag := w.tag, used := d.unused, inLen := src.length, status := status, flags := 1, source := 0xFF, outLen := n }

/-- COMPRESSION_UNIT_END (09 R278): the last input byte has been encoded or decoded. -/
def execCompressionUnitEnd (e : Fin 8) (s : State) : Host.Outcome State Fault Refusal :=
  let x := s.engine e.val
  match x.work with
  | none => .next s
  | some w =>
    if x.state ≠ 1 then .next s
    else if w.decompress then .next (s.endDecompress e.val w)
    else .next (s.finishUnit e.val 0 1 w)

/-- FALLBACK_COMPLETE (09 R273). -/
def execFallbackComplete (e : Fin 8) (s : State) : Host.Outcome State Fault Refusal :=
  let x := s.engine e.val
  match x.work with
  | none => .next s
  | some w => .next (s.when (x.state = 3) (·.finishUnit e.val 2 3 w))

/-- FALLBACK_DEADLINE (09 R273): the next unit's deadline passes while the fallback waits for a buffer. -/
def execFallbackDeadline (e : Fin 8) (s : State) : Host.Outcome State Fault Refusal :=
  let x := s.engine e.val
  let due := match x.ready with | [] => false | w :: _ => s.workLate w
  .next (s.when (x.state = 3 && !x.hasBuf && due) fun s => s.endUnit e.val (s.cutShort e.val 7 1))

/-- COMPRESSION_BUS_ERROR (09 R274): the job ends with BUS_ERROR and VOID; data already written stays. -/
def execCompressionBusError (e : Fin 8) (s : State) : Host.Outcome State Fault Refusal :=
  let x := s.engine e.val
  .next (s.when (x.state ≠ 0) fun s => s.endUnit e.val (s.cutShort e.val 6 5))

end Sys2Proof.Machine
end

