-- ==== Sys2Proof/Machine/Power.lean ====
section
/-! DEFINITION. Operating points and the core supply (03 R81–R83; 13 R405–R408), energy (13 R410). -/

namespace Sys2Proof.Machine

open Sys2Proof

/-! ## Regulators and points -/

/-- Whether slot r holds a known regulator (13 R405, R413). -/
def State.regKnown (s : State) (r : Nat) : Bool := s.num (Key.regAddress r) ≠ 0

/-- The known regulator of role 1, if any (13 R405). -/
def State.coreReg (s : State) : Option Nat :=
  (List.range 8).find? fun r => s.regKnown r && s.num (Key.regRole r) = 1

/-- The ceiling of the operating point (03 R82; 13 R405, R408, R409). -/
def State.opLimit (s : State) : Nat :=
  let c := s.num Key.opMax
  let c := if s.sched.thermLimit then min c 4 else c
  let c := if s.coreReg.isNone then min c 5 else c
  match s.sched.lostCeiling with
  | none => c
  | some p => min c p

/-- The point of INIT and READY (03 R81; 13 R408, R409). -/
def State.idlePoint (s : State) : Nat :=
  let p := if s.sched.thermLimit then 4 else 5
  match s.sched.lostCeiling with
  | none => p
  | some c => min p c

/-- The nominal voltage of a point in mV (03 R81). -/
def nominalMv (op : Nat) : Nat := [620, 650, 680, 710, 750, 790, 820, 850].getD op 790

/-- The trim of a point in mV (13 R406). -/
def State.opTrim (s : State) (op : Nat) : Int := tblGet s.power.trims 0 op

/-- The voltage of a point (13 R406). -/
def State.pointMv (s : State) (op : Nat) : Nat := (clampInt 600 880 ((nominalMv op : Int) + s.opTrim op)).toNat

/-- A PMBus write to the role-1 regulator (13 R405, R407). -/
def State.pmbus (s : State) (cmd : Nat) (data : List Byte) : State :=
  match s.coreReg with
  | none => s
  | some r => s.send (.pmbus (s.num (Key.regAddress r)) cmd) data

/-! ## Changes of operating point (03 R83, 13 R407) -/

/-- The highest point run so far by every strip that is kept (03 R90). -/
def State.noteOp (s : State) : State :=
  let op := s.num Key.opNow
  { s with sched := { s.sched with strips := s.sched.strips.map fun x => { x with opMax := max x.opMax op } } }

/-- The new point is in force: the change is counted, with its duration, and settling begins (13 R407). -/
def State.opInForce (s : State) (target duration : Nat) : State :=
  let s := ((s.setNum Key.opNow target).bump Key.opChangeCount).setNum Key.opChangeLast duration
  let settle := s.coreReg.isSome && s.sched.lostCeiling.isNone
  { s with sched := { s.sched with opChange := none, settling := settle } }.noteOp

/-- A change to a point begins: settling is abandoned; a raise writes OPERATION 0xA8 unless margin high is in force, and
ends when the monitor sees the voltage; a lowering is complete with the frequency, within 0.5 µs (13 R407). -/
def State.beginChange (s : State) (target : Nat) : State :=
  let s := { s with sched := { s.sched with
      settling := false, settleStopped := s.sched.settleStopped || s.sched.settling } }
  if target < s.num Key.opNow then s.stepFree.opInForce target (s.free % 501)
  else
    let s := { s with sched := { s.sched with opChange := some ⟨target, s.now⟩ } }
    if s.coreReg.isNone || s.sched.lostCeiling.isSome || s.sched.marginHigh then s
    else ({ s with sched := { s.sched with marginHigh := true } }.pmbus 0x01 [0xA8]).setNum Key.vddCoreNow (s.pointMv 7)

/-- A point is selected; a change in progress completes first (03 R83). While T2 restarts the point is held (13 R390). -/
def State.selectOp (s : State) (op : Nat) : State :=
  if s.power.restarting.contains 2 then s
  else if s.sched.opChange.isSome then { s with sched := { s.sched with opNext := some op } }
  else if op = s.num Key.opNow then s
  else s.beginChange op

/-- OP_CHANGE_COMPLETE (03 R83, 13 R407): a raise completes; a selection made meanwhile then applies. -/
def execOpChangeComplete (s : State) : Host.Outcome State Fault Refusal :=
  match s.sched.opChange with
  | none => .next s
  | some c =>
    let s := s.opInForce c.target (s.now - c.started)
    match s.sched.opNext with
    | none => .next s
    | some op => .next ({ s with sched := { s.sched with opNext := none } }.selectOp op)

/-- PMB_SETTLE (13 R407): VOUT_COMMAND to the point's voltage, OPERATION 0x80 if margin high is in force, CLEAR_FAULTS if a
transaction was stopped. -/
def execPmbSettle (s : State) : Host.Outcome State Fault Refusal :=
  if !s.sched.settling then .next s
  else
    let mv := s.pointMv (s.num Key.opNow)
    let s := s.pmbus 0x21 (leBytes 2 mv)
    let s := if s.sched.marginHigh then s.pmbus 0x01 [0x80] else s
    let s := if s.sched.settleStopped then s.pmbus 0x03 [] else s
    .next ({ s with sched := { s.sched with settling := false, marginHigh := false, settleStopped := false } }.setNum
      Key.vddCoreNow mv)

/-- The regulators as INIT sets them up: margin high at OP7's voltage, 40 mV/µs, the idle point (13 R405; 15 R436). -/
def State.initRegulators (s : State) : State :=
  let s := { s with sched := { s.sched with
      opChange := none, opNext := none, marginHigh := false, settling := false, settleStopped := false } }
  let s := (s.pmbus 0x27 (leBytes 2 40)).pmbus 0x25 (leBytes 2 (s.pointMv 7))
  let p := s.idlePoint
  (s.setNum Key.opNow p).setNum Key.vddCoreNow (if s.coreReg.isSome then s.pointMv p else 815)

/-! ## Adaptive trims (13 R406) -/

/-- A point's trim replaced. -/
def State.setTrim (s : State) (op : Nat) (mv : Int) : State :=
  let s := { s with power := { s.power with trims := tblPut s.power.trims 0 op mv } }
  s.setNum (Key.opVoltage op) (s.pointMv op)

/-- The trims at 0 (13 R406, `AvsEnable` 0). -/
def State.clearTrims (s : State) : State := s.forN 8 fun s op => s.setTrim op 0

/-- AVS_TRIM_UPDATE (13 R406): the running point's trim moves by at most 5 mV, within −40 to +30 mV. -/
def execAvsTrimUpdate (mv : Int) (s : State) : Host.Outcome State Fault Refusal :=
  if !s.flag Key.avsEnable || s.coreReg.isNone then .next s
  else
    let op := s.num Key.opNow
    .next (s.setTrim op (clampInt (-40) 30 (s.opTrim op + clampInt (-5) 5 mv)))

/-! ## Energy (13 R410) -/

/-- Whether the monitors are under calibration (15 R450, R451): bank 6. -/
def State.monitorsHeld (s : State) : Bool := s.maint.bank = some 6

/-- ENERGY_SAMPLE (13 R410): one microsecond of the four monitors; under calibration they hold their last readings. -/
def execEnergySample (mw : List Nat) (s : State) : Host.Outcome State Fault Refusal :=
  let stale := s.monitorsHeld
  let s := if stale then s else s.forN 4 fun s i => s.setNum (Key.monitorPower i) (mw.getD i 0 % pow2 32)
  let nj := sumNat ((List.range 4).map fun i => s.num (Key.monitorPower i))
  let total := s.power.energyNj + nj
  let s := { s with power := { s.power with
      energyNj := total, sinceTick := s.power.sinceTick + nj, staleTick := s.power.staleTick || stale } }
  .next ((s.setNum Key.energyTotal (total / 1000000)).setFlag Key.energyStale stale)

/-- The interval's energy closes at a tick: `PowerNow` is its mean in mW (13 R410). -/
def State.closeEnergy (s : State) (period : Nat) : State :=
  let s := if period = 0 then s else s.setNum Key.powerNow ((s.power.sinceTick * 1000 / period) % pow2 32)
  { s with power := { s.power with sinceTick := 0, staleTick := s.monitorsHeld } }

end Sys2Proof.Machine
end

