-- ==== Sys2Proof/Machine/Placement.lean ====
section
/-! DEFINITION. Ports on pipelines: the placement rules, migration, pipelines that leave and return to service (03 R91–R96;
05 R157, R158; 15 R453), and the RUN sub-state (01 R29). -/

namespace Sys2Proof.Machine

open Sys2Proof

/-! ## The RUN sub-state (01 R29) -/

/-- Whether a pipeline of the part is out of service after a failed check. -/
def State.pipeOut (s : State) : Bool := (List.range s.pipeCount).any fun p => !s.flag (Key.pipelineInService p)

/-- The code of the sub-state that applies (01 R29, 02 R62). -/
def State.subState (s : State) : Nat :=
  if !s.inRun then 0
  else if s.num Key.lagMax < s.num Key.lag || s.sched.strips.any (·.passed) || s.num Key.g6ChannelsActive ≠ 0xFFFFFF || s.pipeOut then 3
  else if 0 < s.num Key.lag then 2 else 1

/-- The data of a state notice (11 R337). -/
def State.stateNotice (s : State) (prev : Nat) : List Byte :=
  leBytes 1 s.life.state.code ++ leBytes 1 (s.num Key.runSubState) ++ leBytes 1 prev ++ zeros 5

/-- The sub-state follows its conditions; a change is journalled, signalled and notified (02 R68, 13 R392, 11 R337). -/
def State.settleSub (s : State) : State :=
  let c := s.subState
  let p := s.num Key.runSubState
  if c = p then s
  else
    let s := ((s.setNum Key.runSubState c).journalEvent (0x200 + c) p).raiseHm 69
    s.notifySessions 0 0x0010 (s.stateNotice s.life.state.code)

/-! ## The rules of a placement (03 R91; 05 R157, R158) -/

/-- Whether pipeline p takes placements: in service and under no test (03 R91, 15 R452). -/
def State.pipeServes (s : State) (p : Nat) : Bool :=
  p < s.pipeCount && s.flag (Key.pipelineInService p) && !(s.pipe p).testing

/-- The enabled ports placed on pipeline p by the last accepted placements. -/
def State.placedOn (s : State) (p : Nat) : List Nat := s.enabledPorts.filter fun n => s.lastNum (Key.portPlacement n) = p

/-- The correction SRAM that a set of ports takes, in bytes (05 R157). -/
def State.corrBytes (s : State) (ports : List Nat) : Nat :=
  sumNat (ports.map fun n => s.num (Key.camLineLength n) * planesOf (s.num (Key.colourMode n)) * 4)

/-- The samples per second of a set of ports (05 R158). -/
def State.shareRate (s : State) (ports : List Nat) : Nat :=
  sumNat (ports.map fun n => s.num (Key.camLineLength n) * planesOf (s.num (Key.colourMode n)) * s.num (Key.camLineRateMax n))

/-- The correction SRAM of a pipeline. -/
def corrLimit : Nat := 1572864

/-- The share of a pipeline. -/
def shareLimit : Nat := 8000000000

/-- The rules on pipeline p with port n added if it is enabled (03 R91). -/
def State.placeFails (s : State) (n p : Nat) : List Nat :=
  let ports := (s.placedOn p).filter (· ≠ n) ++ (if s.flag (Key.portEnable n) then [n] else [])
  failIf (4 < ports.length || !s.pipeServes p) resConflict
    ++ failIf (corrLimit < s.corrBytes ports || shareLimit < s.shareRate ports) resCapacity

/-- The checks of a write of port n's placement (03 R91). -/
def State.placementFails (s : State) (n : Nat) (v : Slot) : List Nat :=
  if s.lastVal (Key.portPlacement n) = v then [] else s.placeFails n v.toNat

/-! ## Migration (03 R92, R93, R95) -/

/-- A placement change of port n takes effect under the new epoch: its tables begin to load on the new pipeline. -/
def State.movePort (s : State) (n : Nat) : State :=
  let s := (s.setNum (Key.portEpoch n) (s.num Key.placementEpoch)).bump Key.migrationCount
  if s.num (Key.portPlacement n) < 8 then s.startLoad n else s

/-- The placement changes of a tick, from the placements before it: the epoch rises once (03 R92, R95). -/
def State.movePorts (s : State) (before : List Nat) : State :=
  let moved := (List.range s.portCount).filter fun n => before.getD n 0 ≠ s.num (Key.portPlacement n)
  if moved.isEmpty then s else moved.foldl State.movePort (s.bump Key.placementEpoch)

/-- The placements in effect. -/
def State.placements (s : State) : List Nat := (List.range s.portCount).map fun n => s.num (Key.portPlacement n)

/-! ## Out of service and back (03 R96; 15 R452, R453) -/

/-- A placement the processor writes: journalled as source 0x00, and in effect at the next tick whatever `ShadowHold` holds
(03 R96). -/
def State.forcePlacement (s : State) (n p : Nat) : State :=
  let k := Key.portPlacement n
  let v := BitVec.ofNat 64 p
  let s := s.journalStrip 0 k v 0 (s.writeStrip .rwt)
  if s.inRun then
    let s := s.setPend k v
    { s with dict := { s.dict with forced := tblSet s.dict.forced k v } }
  else s.setVal k v

/-- The lowest-numbered pipeline on which port n may be placed; 0xFF where there is none (03 R96). -/
def State.newPlace (s : State) (n : Nat) : Nat :=
  ((List.range s.pipeCount).find? fun p => (s.placeFails n p).isEmpty).getD 0xFF

/-- Pipeline p leaves service: its enabled ports are placed anew, or left unplaced (03 R96). -/
def State.failPipeline (s : State) (p : Nat) : State :=
  let ports := s.enabledPorts.filter fun n => s.num (Key.portPlacement n) = p || s.lastNum (Key.portPlacement n) = p
  let s := ((s.setNum (Key.pipelineInService p) 0).raiseHm (57 + p)).trouble 0x0020 p 2 (s.num (Key.checkLastPass p))
  let auto := s.flag Key.autoMigrate
  (ports.foldl (fun s n => s.forcePlacement n (if auto then s.newPlace n else 0xFF)) s).settleSub

/-- Pipeline p returns to service (15 R452). -/
def State.returnPipeline (s : State) (p : Nat) : State :=
  (s.modPipe p fun x => { x with returning := false }).setNum (Key.pipelineInService p) 1

/-- The pipelines that return at the tick (15 R452). -/
def State.returnPipelines (s : State) : State :=
  s.forN s.pipeCount fun s p => if (s.pipe p).returning then s.returnPipeline p else s

/-! ## Check strips (15 R453) -/

/-- The checks of pipeline p. -/
def State.check (s : State) (p : Nat) : Check := tblGet s.sched.checks {} p

/-- The checks of pipeline p changed. -/
def State.modCheck (s : State) (p : Nat) (f : Check → Check) : State :=
  { s with sched := { s.sched with checks := tblMod s.sched.checks {} p f } }

/-- Pipeline p at tick j: due every `CheckInterval` ticks, run where the slack is at least 4,096 cycles, else deferred; overdue
after `CheckOverdue` ticks without a pass (15 R453). -/
def State.checkTick (s : State) (p j : Nat) (slack : Int) : State :=
  if !s.flag (Key.pipelineInService p) then s
  else
    let s := s.modCheck p fun c => { c with since := c.since + 1, due := c.due || j % s.num Key.checkInterval = 0 }
    let c := s.check p
    let s := if !c.due || c.granted.isSome then s
      else if 4096 ≤ slack then s.modCheck p fun c => { c with granted := some j }
      else s.bump (Key.checkDeferred p)
    if s.num Key.checkOverdue ≤ c.since && !c.overdue then
      (s.modCheck p fun c => { c with overdue := true }).trouble 0x0021 p 1 c.since
    else s

/-- PIPELINE_CHECK (15 R453, 03 R96): the check strip granted to pipeline p runs. -/
def execPipelineCheck (p : Fin 8) (crcOk : Bool) (s : State) : Host.Outcome State Fault Refusal :=
  match (s.check p).granted with
  | none => .next s
  | some k =>
    if !s.inRun || !s.flag (Key.pipelineInService p) then .next s
    else if crcOk then .next ((s.modCheck p fun _ => {}).setNum (Key.checkLastPass p) k)
    else .next ((s.modCheck p fun _ => {}).failPipeline p)

end Sys2Proof.Machine
end

