-- ==== Sys2Proof/Machine/Maint.lean ====
section
/-! DEFINITION. Calibration, self-test and the lane references (15 R449–R452, R456). -/

namespace Sys2Proof.Machine

open Sys2Proof

/-- The maintenance state changed. -/
def State.modMaint (s : State) (f : Maint → Maint) : State := { s with maint := f s.maint }

/-! ## Calibration (15 R449–R451) -/

/-- A sensor's reading in s8.8 °C (13 R413). -/
def State.temp (s : State) (i : Nat) : Int := s.int (Key.thermSensor i)

/-- Whether every sensor reads below t °C. -/
def State.allBelow (s : State) (t : Int) : Bool := (List.range 16).all fun i => s.temp i < t * 256

/-- The sensors of a bank (15 R450). -/
def sensorsOf (bank : Nat) : List Nat := if bank = 4 then List.range 8 else if bank = 5 then (List.range 8).map (8 + ·) else []

/-- What a unit under calibration reads (15 R451): stale outputs, stale sensors, held monitors. -/
def State.holdBank (s : State) (bank : Nat) (on : Bool) : State :=
  if bank < 4 then s.forN 8 fun s i => s.setNum (Key.trgStale (8 * bank + i)) (bit on)
  else if bank < 6 then
    s.setNum Key.thermStaleMask ((sensorsOf bank).foldl (fun m i => setBit m i on) (s.num Key.thermStaleMask))
  else
    let s := if on then { s with power := { s.power with staleTick := true } } else s
    s.setFlag Key.energyStale on

/-- The next bank starts; a sensor bank waits while a sensor reads 95 °C or more; after the last the calibration ends (15
R450, R451). -/
def State.nextBank (s : State) : State :=
  match s.maint.banks with
  | [] =>
    ((s.modMaint fun m => { m with bank := none }).setNum Key.calState 0).setNum Key.calActive 0 |>.setNum Key.calLastTime s.wNow
  | b :: rest =>
    if (b = 4 || b = 5) && !s.allBelow 95 then (s.modMaint fun m => { m with bank := none }).setNum Key.calActive 0
    else ((s.modMaint fun m => { m with banks := rest, bank := some b }).setNum Key.calActive (pow2 b)).holdBank b true

/-- A bank that waited for the sensors to cool starts (15 R451). -/
def State.resumeBanks (s : State) : State := if s.num Key.calState = 1 && s.maint.bank.isNone then s.nextBank else s

/-- The outcome of a bank: `CalResult` and the trouble log (15 R441, R450). -/
def State.bankResult (s : State) (bank result : Nat) : State :=
  if result = 0 then s.trouble 0x0080 bank 0 0
  else (s.setNum Key.calResult result).trouble 0x0081 bank 1 result

/-- The check of a calibration request (15 R450). -/
def State.calFails (s : State) (v : Slot) : List Nat :=
  failIf (bitAt v.toNat 7) resRange ++ failIf (s.num Key.calState = 1) resBusy

/-- A calibration request: the references are checked, then the first bank starts (15 R450). -/
def State.calEffect (s : State) (v : Slot) (ppb : Int) (vrefOk : Bool) : State :=
  let s := (s.setInt Key.calRefclkPpb ppb).setNum Key.calResult 0
  if 100000 < ppb.natAbs then (s.setNum Key.calResult 1).trouble 0x0081 noUnit 1 1
  else if !vrefOk then (s.setNum Key.calResult 2).trouble 0x0081 noUnit 1 2
  else ((s.setNum Key.calState 1).modMaint fun m => { m with banks := (List.range 7).filter (bitAt v.toNat) }).nextBank

/-- CAL_REQUEST (15 R450). -/
def execCalRequest (src : Source) (banks : Slot) (refclkPpb : Int) (vrefOk : Bool) (s : State) :
    Host.Outcome State Fault Refusal :=
  .next (s.command src Key.calRequest banks s.calFails fun v s => s.calEffect v refclkPpb vrefOk)

/-- The trims in MRAM changed (15 R438). -/
def State.modTrims (s : State) (f : Trims → Trims) : State := { s with mram := { s.mram with trims := f s.mram.trims } }

/-- A new trim of unit i of a bank: an output's waits for its idle interval (15 R450, R451). -/
def State.newTrim (s : State) (bank i t : Nat) : State :=
  if bank < 4 then
    let o := 8 * bank + i
    (s.modTrims fun x => { x with fine := tblPut x.fine 0 o (t % 256) }).modTrg o fun y => { y with newTrim := some (t % 256) }
  else if bank < 6 then
    let n := 8 * (bank - 4) + i
    (s.modTrims fun x => { x with sensors := tblPut x.sensors 0 n (t % pow2 16) }).setNum (Key.trimSensor n) (t % pow2 16)
  else (s.modTrims fun x => { x with monitors := tblPut x.monitors 0 i (t % pow2 16) }).setNum (Key.trimMonitor i) (t % pow2 16)

/-- The units of a bank. -/
def bankUnits (bank : Nat) : Nat := if bank < 6 then 8 else 4

/-- CAL_BANK_COMPLETE (15 R450, R451): the measured trims of the bank in work; the next bank starts. -/
def execCalBankComplete (trims : List (Option Nat)) (s : State) : Host.Outcome State Fault Refusal :=
  match s.maint.bank with
  | none => .next s
  | some b =>
    let s := s.holdBank b false
    let s := s.forN (bankUnits b) fun s i => match trims.getD i none with
      | none => s
      | some t => s.newTrim b i t
    let s := if b < 4 then s.forN 8 fun s i => s.setFlag (Key.trgStale (8 * b + i)) (s.trg (8 * b + i)).newTrim.isSome else s
    let bad : Bool := (List.range (bankUnits b)).any fun i => (trims.getD i none).isNone
    .next ((s.bankResult b (if bad then 3 else 0)).modMaint fun m => { m with bank := none }).nextBank

/-- The bank in work ends with ABORTED, and its units resume (15 R448, R451). -/
def State.abortBank (s : State) : State :=
  match s.maint.bank with
  | none => s
  | some b => (((s.holdBank b false).bankResult b 4).modMaint fun m => { m with bank := none }).setNum Key.calActive 0

/-- The calibration ends with ABORTED (15 R448). -/
def State.abortCal (s : State) : State :=
  if s.num Key.calState = 0 then s
  else ((s.abortBank.setNum Key.calResult 4).modMaint fun m => { m with banks := [] }).nextBank

/-- TRIM_APPLY (15 R451): output o has no pulse in progress or scheduled for 100 ns. -/
def execTrimApply (o : Fin 32) (s : State) : Host.Outcome State Fault Refusal :=
  let x := s.trg o
  match x.newTrim with
  | none => .next s
  | some t =>
    if x.current.isSome || x.queue.any fun p => p.start < s.now + 100 then .next s
    else .next (((s.modTrg o fun x => { x with newTrim := none }).setNum (Key.trimFineDelay o) t).setNum (Key.trgStale o) 0)

/-- The trims of MRAM in effect (15 R449). -/
def State.loadTrims (s : State) : State :=
  let t := s.mram.trims
  let s := s.forN 32 fun s i => (s.setNum (Key.trimFineDelay i) (tblGet t.fine 0 i)).modTrg i fun x => { x with newTrim := none }
  let s := s.forN 16 fun s i => s.setNum (Key.trimSensor i) (tblGet t.sensors 0 i)
  s.forN 4 fun s i => s.setNum (Key.trimMonitor i) (tblGet t.monitors 0 i)

/-- The factory trims restored (15 R450). -/
def State.factoryTrims (s : State) : State := ({ s with mram := { s.mram with trims := s.mram.factory } }).loadTrims

/-- CAL_RESTORE_FACTORY (15 R450): in READY only. -/
def execCalRestoreFactory (src : Source) (value : Slot) (s : State) : Host.Outcome State Fault Refusal :=
  .next (s.command src Key.calRestoreFactory value (fun _ => failIf (s.life.state ≠ .ready) resWrongState) fun _ s => s.factoryTrims)

/-! ## Self-test (15 R452) -/

/-- The checks of a `SelfTestRequest` (15 R452). -/
def State.testFails (s : State) (v : Slot) : List Nat :=
  let w := v.toNat
  let test := w % 256
  let unit := bitsAt w 8 8
  let count := if test = 2 then s.portCount else s.pipeCount
  let placed := s.enabledPorts.any fun n => s.num (Key.portPlacement n) = unit || s.lastNum (Key.portPlacement n) = unit
  failIf (test = 0 || 3 < test || 0 < w / pow2 28 || (test ≠ 1 && count ≤ unit)) resRange
    ++ failIf (s.num Key.selfTestState = 1) resBusy
    ++ failIf (test = 1 && s.life.state ≠ .ready) resWrongState
    ++ failIf (test = 3 && s.life.state = .init) resWrongState
    ++ failIf (test = 2 && s.inRun && s.flag (Key.portEnable unit)) resBusyTick
    ++ failIf (test = 3 && s.inRun && placed) resBusyTick

/-- A self-test starts: the port of test 2 goes down, the pipeline of test 3 counts as out of service (15 R452). -/
def State.testEffect (s : State) (v : Slot) : State :=
  let test := v.toNat % 256
  let unit := bitsAt v.toNat 8 8
  let s := (s.modMaint fun m => { m with test := some (test, unit, bitsAt v.toNat 16 12) }).setNum Key.selfTestState 1
  match test with
  | 2 => (s.reportHeldFree unit).portOff unit
  | 3 => s.modPipe unit fun x => { x with testing := true }
  | _ => s

/-- A write of `SelfTestRequest`. -/
def State.requestTest (s : State) (src : Source) (v : Nat) : State :=
  s.command src Key.selfTestRequest (BitVec.ofNat 64 v) s.testFails fun v s => s.testEffect v

/-- SELFTEST_MEMORY_BIST (15 R452): test 1 on the devices of `DEVMASK`. -/
def execSelftestMemoryBist (src : Source) (devmask : BitVec 12) (s : State) : Host.Outcome State Fault Refusal :=
  .next (s.requestTest src (1 + devmask.toNat * pow2 16))

/-- SELFTEST_LANE_LOOPBACK (15 R452): test 2 on port `unit`. -/
def execSelftestLaneLoopback (src : Source) (unit : BitVec 8) (s : State) : Host.Outcome State Fault Refusal :=
  .next (s.requestTest src (2 + unit.toNat * 256))

/-- SELFTEST_GOLDEN_VECTORS (15 R452): test 3 on pipeline `unit`. -/
def execSelftestGoldenVectors (src : Source) (unit : BitVec 8) (s : State) : Host.Outcome State Fault Refusal :=
  .next (s.requestTest src (3 + unit.toNat * 256))

/-- The unit of a test comes back: the memory written to 0, the port, the pipeline (15 R452). -/
def State.endTest (s : State) (test unit : Nat) (pass : Bool) : State :=
  match test with
  | 1 => { s with g6 := { s.g6 with mem := [], bad := [] }, reef := { s.reef with goldenLost := true } }
  | 2 => s.portSettle unit
  | _ =>
    let s := s.modPipe unit fun x => { x with testing := false }
    if !pass || s.flag (Key.pipelineInService unit) then s
    else if s.inRun then s.modPipe unit fun x => { x with returning := true }
    else s.returnPipeline unit

/-- SELFTEST_COMPLETE (15 R452). -/
def execSelftestComplete (pass : Bool) (detail : Slot) (s : State) : Host.Outcome State Fault Refusal :=
  match s.maint.test with
  | none => .next s
  | some (test, unit, _) =>
    let s := ((s.modMaint fun m => { m with test := none }).setNum Key.selfTestState 0).setNum Key.selfTestResult (bit !pass)
    let s := (s.setVal Key.selfTestDetail detail).endTest test unit pass
    .next (if pass then s else s.trouble 0x0082 test 2 detail.toNat)

/-- A test that runs is aborted: what it acts on has stopped (15 R448, R452). -/
def State.abortTest (s : State) : State :=
  match s.maint.test with
  | none => s
  | some (_, unit, _) =>
    ((s.modMaint fun m => { m with test := none }).setNum Key.selfTestState 0).setNum Key.selfTestResult 2 |>.modPipe unit
      fun x => { x with testing := false }

/-! ## Lane references (15 R456) -/

/-- Whether lane reference input b, LREFB where set, is present. -/
def State.lrefOn (s : State) (b : Bool) : Bool := !tblGet s.maint.lrefLost false (bit b)

/-- The input in use: LREFB where set. -/
def State.lrefB (s : State) : Bool := s.flag Key.lrefActive

/-- A switch to the other input begins (15 R456). -/
def State.beginSwitch (s : State) (b : Bool) : State :=
  s.modMaint fun m => { m with switching := some (s.now, bit b), linesLost := 0 }

/-- The presence of an input changes; both lost are timed (15 R456). -/
def State.setLref (s : State) (b on : Bool) : State :=
  let s := s.modMaint fun m => { m with lrefLost := tblPut m.lrefLost false (bit b) !on }
  let both : Bool := !s.lrefOn false && !s.lrefOn true
  s.modMaint fun m => { m with lrefLostAt := if both then some (m.lrefLostAt.getD s.now) else none }

/-- LREF_LOSS (15 R456): input b has shown no edge for 64 ns; the active input's loss starts a switch. -/
def execLrefLoss (b : Bool) (s : State) : Host.Outcome State Fault Refusal :=
  let s := s.setLref b false
  if s.lrefB = b && s.lrefOn !b && s.maint.switching.isNone then .next (s.beginSwitch !b) else .next s

/-- LREF_SWITCH_COMPLETE (15 R456): the packets in reception are lost, and the switch is counted and logged. -/
def execLrefSwitchComplete (s : State) : Host.Outcome State Fault Refusal :=
  match s.maint.switching with
  | none => .next s
  | some (_, b) =>
    let s := s.forN s.portCount fun s n => s.dropSwitching n
    let s := (s.setNum Key.lrefActive b).bump Key.lrefSwitchCount
    let s := s.trouble 0x0016 noUnit 2 (b + s.maint.linesLost * pow2 32)
    .next (s.modMaint fun m => { m with switching := none, linesLost := 0 })

/-- LREF_RETURN (15 R456): input b is present again; the switch does not revert. -/
def execLrefReturn (b : Bool) (s : State) : Host.Outcome State Fault Refusal :=
  let s := s.setLref b true
  if s.lrefB ≠ b && !s.lrefOn !b && s.maint.switching.isNone then .next (s.beginSwitch b) else .next s

/-- `LrefSelect` in effect, outside RUN: LREFA while it is present, or the input it names (15 R456). -/
def State.selectLref (s : State) : State :=
  let b : Bool := s.num Key.lrefSelect = 2
  if s.lrefB = b || !s.lrefOn b || s.maint.switching.isSome then s else s.beginSwitch b

end Sys2Proof.Machine
end

