-- ==== Sys2Proof/Machine/Time.lean ====
section
/-! DEFINITION. The working domain, the four time domains and gPTP (11 R312–R322). -/

namespace Sys2Proof.Machine

open Sys2Proof

/-! ## Domains (11 R313–R315) -/

/-- A domain changed. -/
def State.modDomain (s : State) (d : Nat) (f : Domain → Domain) : State :=
  { s with net := { s.net with domains := tblPut s.net.domains {} d (f (s.domain d)) } }

/-- A gPTP instance. -/
def State.ptp (s : State) (i : Nat) : Ptp := tblGet s.net.ptp {} i

/-- A gPTP instance changed. -/
def State.modPtp (s : State) (i : Nat) (f : Ptp → Ptp) : State :=
  { s with net := { s.net with ptp := tblMod s.net.ptp {} i f } }

/-- Whether a domain is LOCKED or GRANDMASTER (11 R317). -/
def State.domGood (s : State) (d : Nat) : Bool := s.num (Key.domState d) = 3 || s.num (Key.domState d) = 5

/-! ## W (11 R316–R319) -/

/-- W stepped onto its source (11 R317). -/
def State.stepW (s : State) : State :=
  let d := s.domain (s.num Key.wSource)
  let s := { s with net := { s.net with w := ⟨d.at16 s.now, s.now, d.rate⟩, wAligned := true, wDiverged := false } }
  (s.setNum Key.wState 0).setInt Key.wError 0

/-- The source that `WSelect` gives (11 R319); in automatic mode `since` is how long D0 has been good. -/
def State.pickSource (s : State) : Nat :=
  let cur := s.num Key.wSource
  match s.num Key.wSelect with
  | 0 => 0
  | 1 => 1
  | _ =>
    if cur = 0 then (if !s.domGood 0 && s.domGood 1 then 1 else 0)
    else
      let back := s.num Key.wRevertTime
      match s.net.d0Since with
      | some t => if s.domGood 0 && back ≠ 0 && t + back * 1000000000 ≤ s.now then 0 else 1
      | none => 1

/-- A change of source, counted and logged as a notice (11 R319). -/
def State.setSource (s : State) (d : Nat) : State :=
  if d = s.num Key.wSource then s
  else (((s.setNum Key.wSource d).bump Key.wSwitchCount).raiseHm 78).trouble 0x0054 noUnit 0 d

/-- The rate of W while it follows its source with error e, in 2^−16 ns (11 R316). -/
def State.slewRate (s : State) (e : Int) : Int :=
  let cap : Int := s.num Key.slewMax * pow2 40
  (s.domain (s.num Key.wSource)).rate + divRound (clampInt (-cap * 65536) (cap * 65536) (-e * pow2 40)) (65536 * 1000000)

/-- W diverges (11 R318). -/
def State.diverge (s : State) (e : Int) : State :=
  let s := { s with net := { s.net with wDiverged := true } }
  (s.setNum Key.wState 3).trouble 0x0055 noUnit 1 (toTwos 64 (e / 65536))

/-- The rule of each microsecond on an aligned or unaligned W (11 R316–R318). -/
def State.followW (s : State) : State :=
  let src := s.num Key.wSource
  let e := s.net.w.at16 s.now - (s.domain src).at16 s.now
  let s := s.setInt Key.wError (e / 65536)
  let far : Bool := (s.num Key.stepThreshold : Int) * 65536 < (e.natAbs : Int)
  let s := if s.net.wAligned && !s.net.wDiverged && far then s.diverge e else s
  if !s.net.wAligned || s.net.wDiverged then
    if !s.inRun && s.domGood src then s.stepW else s
  else
    let s := { s with net := { s.net with w := s.net.w.reanchor s.now (s.slewRate e) } }
    s.setNum Key.wState (bit (65536 < e.natAbs))

/-- How long D0 has been LOCKED or GRANDMASTER without a break (11 R319). -/
def State.markD0 (s : State) : State :=
  { s with net := { s.net with d0Since := if s.domGood 0 then (if s.net.d0Since.isSome then s.net.d0Since else some s.now) else none } }

/-- W_UPDATE (11 R316–R319): what the processor does once every microsecond. -/
def execWUpdate (s : State) : Host.Outcome State Fault Refusal :=
  let s := s.markD0
  .next (s.setSource s.pickSource).followW

/-- The effect of a write of `WSelect` (11 R317, R319). -/
def State.wSelectEffect (s : State) (v : Slot) : State :=
  let was := s.num Key.wSource
  let s := s.setVal Key.wSelect v
  let s := s.setSource s.pickSource
  if s.num Key.wSource ≠ was && !s.inRun then s.stepW else s

/-- WSELECT (11 R317, R319). -/
def execWSelect (src : Source) (value : Slot) (s : State) : Host.Outcome State Fault Refusal :=
  .next (s.command src Key.wSelect value (fun _ => []) fun v s => s.wSelectEffect v)

/-! ## D2 and D3 (11 R314, R315, R346) -/

/-- The effect of a write of `DomOffset`: a step of the integer part of o_d. -/
def State.domOffsetEffect (s : State) (d : Nat) (v : Slot) : State :=
  s.modDomain d fun x => { x with offset := (v.toNat : Int) * 65536 + x.offset % 65536 }

/-- The effect of a write of `DomOffsetFrac`: the fraction of o_d. -/
def State.domFracEffect (s : State) (d : Nat) (v : Slot) : State :=
  s.modDomain d fun x => { x with offset := x.offset - x.offset % 65536 + v.toNat }

/-- The effect of a write of `DomRate`: re-anchored now, then the new rate (11 R314). -/
def State.domRateEffect (s : State) (d : Nat) (v : Slot) : State := s.modDomain d fun x => x.reanchor s.now v.toInt

/-- DOM_OFFSET (11 R315): refused with ACCESS for D0 and D1. -/
def execDomOffset (src : Source) (d : Fin 4) (value : Slot) (s : State) : Host.Outcome State Fault Refusal :=
  .next (s.command src (Key.domOffset d) value (fun _ => []) fun v s => s.domOffsetEffect d.val v)

/-- DOM_RATE (11 R314, R315): refused with ACCESS for D0 and D1. -/
def execDomRate (src : Source) (d : Fin 4) (value : Slot) (s : State) : Host.Outcome State Fault Refusal :=
  .next (s.command src (Key.domRate d) value (fun _ => []) fun v s => s.domRateEffect d.val v)

/-! ## gPTP (11 R320–R322) -/

/-- The clock identity of the processor (PRESUMED from IEEE 802.1AS, log entry 10): the EUI-64 of field port 0's MAC. -/
def State.ownIdentity (s : State) : Nat :=
  let m := s.part.macs.getD 0 0
  m / pow2 24 * pow2 40 + 0xFFFE * pow2 24 + m % pow2 24

/-- What the processor announces of itself (11 R320, R322; clock quality PRESUMED from IEEE 802.1AS, log entry 10). -/
def State.ownAnnounce (s : State) (i : Nat) : Announce :=
  { priority1 := s.num (Key.ptpPriority1 i), clockQuality := 0xF8FE436A, priority2 := s.num (Key.ptpPriority2 i),
    gmIdentity := s.ownIdentity, stepsRemoved := 0 }

/-- The fields of an Announce in the BMCA's order of comparison. -/
def announceRank (a : Announce) : List Nat := [a.priority1, a.clockQuality, a.priority2, a.gmIdentity, a.stepsRemoved]

/-- Lexicographic order. -/
def lexLt : List Nat → List Nat → Bool
  | [], [] => false
  | [], _ => true
  | _, [] => false
  | a :: as, b :: bs => a < b || (a = b && lexLt as bs)

/-- Whether a is a better master than b (11 R320). -/
def betterMaster (a b : Announce) : Bool := lexLt (announceRank a) (announceRank b)

/-- Whether instance i is grandmaster-capable (11 R322). -/
def State.gmCapable (s : State) (i : Nat) : Bool := s.num (Key.ptpPriority1 i) < 255

/-- Whether instance i runs on a field port (11 R320). -/
def State.ptpOn (s : State) (i p : Nat) : Bool := s.flag (Key.ptpEnable i) && bitAt (s.num (Key.ptpPortMask i)) p

/-- The roles of an instance's ports (11 R346): slave on its master's port, master as grandmaster, passive otherwise. -/
def State.setRoles (s : State) (i : Nat) : State :=
  s.forN 4 fun s p =>
    let old := s.num (Key.ptpPortRoles p)
    let role :=
      if !s.ptpOn i p then 0
      else if s.num (Key.domState i) = 5 then 1
      else if s.num (Key.ptpSlavePort i) = p then 2 else 3
    s.setNum (Key.ptpPortRoles p) (if i = 0 then old / 16 * 16 + role else old % 16 + 16 * role)

/-- Instance i follows a master on port p (11 R320). -/
def State.followMaster (s : State) (i p : Nat) (m : Announce) : State :=
  let same := (match (s.ptp i).master with | some o => o.gmIdentity = m.gmIdentity | none => false) && s.num (Key.domState i) ≠ 5
  let s := s.modPtp i fun x => { x with master := some m, masterPort := p, lastAnn := s.now, good := if same then x.good else 0 }
  let s := (s.setNum (Key.ptpGmIdentity i) m.gmIdentity).setNum (Key.ptpSlavePort i) p
  (if same then s else s.setNum (Key.domState i) 2).setRoles i

/-- Instance i has no better master: it is grandmaster where capable, else it listens (11 R320, R322). -/
def State.noMaster (s : State) (i : Nat) : State :=
  let s := s.modPtp i fun x => { x with master := none, good := 0 }
  let gm := s.gmCapable i
  let s := (s.setNum (Key.domState i) (if gm then 5 else 1)).setNum (Key.ptpGmIdentity i) (if gm then s.ownIdentity else 0)
  (s.setNum (Key.ptpSlavePort i) 0xFF).setRoles i

/-- PTP_ANNOUNCE (11 R320): the BMCA of instance `inst` with one Announce more. -/
def execPtpAnnounce (inst : Fin 2) (port : Fin 4) (msg : Announce) (s : State) : Host.Outcome State Fault Refusal :=
  let i := inst.val
  if !s.ptpOn i port.val then .next s
  else
    let x := s.ptp i
    let best : Announce × Nat := match x.master with
      | none => (msg, port.val)
      | some m => if x.masterPort = port.val || betterMaster msg m then (msg, port.val) else (m, x.masterPort)
    if s.gmCapable i && betterMaster (s.ownAnnounce i) best.1 then
      .next (if s.num (Key.domState i) = 5 then s else s.noMaster i)
    else .next (s.followMaster i best.2 best.1)

/-- PTP_ANNOUNCE_TIMEOUT (11 R320, R322): the master's Announces have ceased. -/
def execPtpAnnounceTimeout (inst : Fin 2) (s : State) : Host.Outcome State Fault Refusal :=
  if s.flag (Key.ptpEnable inst) then .next (s.noMaster inst.val) else .next s

/-- A step of D0 or D1 onto its master (11 R315). -/
def State.stepDomain (s : State) (i : Nat) (master : Int) : State :=
  (((s.modDomain i fun d => ⟨master, s.now, d.rate⟩).bump (Key.domStepCount i)).raiseHm 78).modPtp i fun x => { x with stepped := true }

/-- The servo's choice of a rate: a free value in the range of an I32 (11 R320 gives only its aim; log entry 10). -/
def State.servo (s : State) (i : Nat) : State :=
  (s.stepFree).modDomain i fun d => d.reanchor s.now (satS 32 (Config.freeInt s.freeCount))

/-- PTP_SYNC (11 R315, R320): the master's time at this counter value; the master offset, its step or its servo, the
state. -/
def execPtpSync (inst : Fin 2) (port : Fin 4) (masterTime : Int) (s : State) : Host.Outcome State Fault Refusal :=
  let i := inst.val
  let x := s.ptp i
  if !s.ptpOn i port.val || x.master.isNone || x.masterPort ≠ port.val || s.num (Key.domState i) = 5 then .next s
  else
    let off16 := (s.domain i).at16 s.now - masterTime
    let off := off16 / 65536
    let s := s.setInt (Key.domMasterOffset i) off
    let s :=
      if !x.stepped || (s.num Key.stepThreshold : Int) < (off.natAbs : Int) then s.stepDomain i masterTime else s.servo i
    let inside : Bool := (off.natAbs : Int) ≤ (s.num (Key.ptpLockThreshold i) : Int)
    let good := if inside then x.good + 1 else 0
    let s := s.modPtp i fun y => { y with good := good, lastSync := s.now }
    .next (s.setNum (Key.domState i) (if 16 ≤ good then 3 else 2))

/-- The sync interval of an instance in ns (11 R320). -/
def State.syncInterval (s : State) (i : Nat) : Nat := 1000000000 / pow2 (s.int (Key.ptpLogSyncInterval i)).natAbs

/-- PTP_SYNC_TIMEOUT (11 R320): a LOCKED domain without Sync for `PtpSyncTimeout` intervals holds over. -/
def execPtpSyncTimeout (inst : Fin 2) (s : State) : Host.Outcome State Fault Refusal :=
  let i := inst.val
  if s.num (Key.domState i) = 3 && (s.ptp i).lastSync + s.num (Key.ptpSyncTimeout i) * s.syncInterval i ≤ s.now then
    .next ((s.setNum (Key.domState i) 4).modPtp i fun x => { x with good := 0 })
  else .next s

/-- What the model sends for an Announce (0x0B) or a Sync (0x10): type, domain number and, for a Sync, the time of the
domain (the frame's layout is the standard's, log entry 10). -/
def State.ptpFrame (s : State) (i type : Nat) : List Byte :=
  [BitVec.ofNat 8 type, BitVec.ofNat 8 (s.num (Key.ptpDomainNumber i))] ++ leBytes 8 ((s.domain i).ns s.now)

/-- PTP_SYNC_TRANSMIT (11 R322): a grandmaster sends Announce and Sync on every port of its mask, each sync interval. -/
def execPtpSyncTransmit (inst : Fin 2) (s : State) : Host.Outcome State Fault Refusal :=
  let i := inst.val
  if s.num (Key.domState i) ≠ 5 then .next s
  else
    let s := s.modPtp i fun x => { x with lastSent := s.now }
    .next (s.forN 4 fun s p =>
      if s.ptpOn i p then
        (s.sendField p 6 { cls := 6, bytes := s.ptpFrame i 0x0B } (countQueueDrop p)).sendField p 6
          { cls := 6, bytes := s.ptpFrame i 0x10 } (countQueueDrop p)
      else s)

/-- PTP_PDELAY (11 R320): the mean link delay of a port, shared by both instances. -/
def execPtpPdelay (port : Fin 4) (delayNs : Nat) (capable : Bool) (s : State) : Host.Outcome State Fault Refusal :=
  .next ((s.setNum (Key.ptpMeanLinkDelay port) (min delayNs (pow2 32 - 1))).setNum (Key.ptpAsCapable port) (bit capable))

end Sys2Proof.Machine
end

