-- ==== Sys2Proof/Machine/Effects.lean ====
section
/-! DEFINITION. What happens beyond the value when a dictionary value takes effect: on acceptance, at a tick, or as `ShadowHold`
ends (02 R13, R35, R43). -/

namespace Sys2Proof.Machine

open Sys2Proof

/-! ## Numeric values -/

/-- The strips not yet complete go on with the value in effect, which is about to change (02 R43, 06 R196). -/
def State.keepOld (s : State) (k : Nat) : State :=
  let v := s.val k
  let keep := fun (x : Strip) => if (tblFind x.old k).isSome then x else { x with old := tblSet x.old k v }
  { s with sched := { s.sched with strips := s.sched.strips.map keep } }

/-- The gain of port n in effect (06 R190, R191). -/
def State.setGain (s : State) (n g : Nat) : State := (s.keepOld (Key.portGainNow n)).setNum (Key.portGainNow n) g

/-- A port setting in effect (04 R108, R110): enable, lanes and rate; a powered port links up anew with other lanes. -/
def State.portEffect (s : State) (n sub : Nat) (changed : Bool) : State :=
  if sub = 1 || sub = 5 then s.portSettle n
  else if (sub = 2 || sub = 3) && changed && (s.port n).state ≠ 0 then ((s.reportHeldFree n).portOff n).portSettle n
  else s

/-- A field port setting in effect (11 R323, R327): mode 0 takes the link down, preemption off ends it. -/
def State.fieldEffect (s : State) (p sub : Nat) : State :=
  if sub = 1 && s.num (Key.fldMode p) = 0 && s.flag (Key.fldLinkUp p) then
    (((s.setNum (Key.fldLinkUp p) 0).setNum (Key.fldPreemptActive p) 0).raiseHm (65 + p)).trouble 0x0053 p 1 0
  else if sub = 6 && !s.flag (Key.fldPreemptEn p) then s.setNum (Key.fldPreemptActive p) 0
  else s

/-- A gPTP setting in effect (11 R320, R346): an instance disabled forgets its master, one enabled starts listening. -/
def State.ptpEffect (s : State) (i sub : Nat) (changed : Bool) : State :=
  if sub = 1 && changed then
    let s := s.modPtp i fun _ => {}
    let s := ((s.setNum (Key.domState i) (bit (s.flag (Key.ptpEnable i)))).setNum (Key.ptpGmIdentity i) 0).setNum (Key.ptpSlavePort i) 0xFF
    s.setRoles i
  else s.setRoles i

/-- A host-path setting of source n in effect: a mask, or priority 0, is noted for the inexact windows (13 R401). -/
def State.hostSourceEffect (s : State) (n sub : Nat) : State :=
  let masks : Bool := (sub = 3 && s.flag (Key.hmHostMask n)) || (sub = 1 && s.num (Key.hmHostPriority n) = 0)
  (if masks then s.modHm true n fun x => { x with maskedAt := some s.now } else s).settleHm

/-- `HmHostAttach` in effect: 1 ends the host path's recovery window (13 R401, 14 R432). -/
def State.attachEffect (s : State) : State :=
  ((if s.flag Key.hmHostAttach then { s with pcie := { s.pcie with recovery := false } } else s).settleHm).serveRings

/-- `EviInvert` of input i changed: its level, and so an edge (10 R302). -/
def State.invertEffect (s : State) (i : Nat) : State :=
  let l := !(tblGet s.motion.levels false i)
  let s := { s with motion := { s.motion with levels := tblPut s.motion.levels false i l } }
  (s.setNum (Key.eviLevel i) (bit l)).produce ((if l then 0x0040 else 0x0050) + i) s.now

/-- `ReefEnable` or `GateUnused` in effect: Reef's column model is lost while Reef is gated (13 R404). -/
def State.gateEffect (s : State) : State :=
  if s.flag Key.gateUnused && !s.flag Key.reefEnable then s.clearColumns else s

/-- What follows a numeric value's taking effect; `old` is the value before it. -/
def State.takeEffect (s : State) (k : Nat) (old : Slot) : State :=
  let i := k / 256
  let sub := k % 256
  let changed : Bool := s.val k ≠ old
  if 0x2000 ≤ i && i < 0x3000 && i % 256 = 0 then s.portEffect ((i - 0x2000) / 256) sub changed
  else if 0x4100 ≤ i && i < 0x4110 && sub = 8 then s.setGain (i - 0x4100) (s.num k)
  else if k = Key.goldenBase then s.modReef fun x => { x with goldenLost := false }
  else if k = Key.reefEnable || k = Key.gateUnused then s.gateEffect
  else if 0x64C0 ≤ i && i < 0x64D0 && sub = 2 then if changed then s.invertEffect (i - 0x64C0) else s
  else if 0x6480 ≤ i && i < 0x64A0 && sub = 1 then if s.flag k then s else s.clearOutput (i - 0x6480)
  else if 0x6900 ≤ i && i < 0x6A00 && sub = 1 then
    (s.setNum (Key.chanGuardTripped (i - 0x6900)) 0).modEvChan (i - 0x6900) fun x => { x with carried := 0 }
  else if k = Key.wSelect then s.wSelectEffect (s.val k)
  else if 0x6C10 ≤ i && i < 0x6C14 then
    if sub = 1 then s.domOffsetEffect (i - 0x6C10) (s.val k)
    else if sub = 2 then s.domFracEffect (i - 0x6C10) (s.val k)
    else if sub = 3 then s.domRateEffect (i - 0x6C10) (s.val k) else s
  else if i = 0x6C20 || i = 0x6C21 then s.ptpEffect (i - 0x6C20) sub changed
  else if 0x7000 ≤ i && i < 0x7004 then s.fieldEffect (i - 0x7000) sub
  else if 0x7400 ≤ i && i < 0x7800 && (sub = 1 || sub = 2) then s.nodeSettle (i - 0x7400)
  else if 0x8000 ≤ i && i < 0x8300 then s.hostSourceEffect (i - 0x8000) sub
  else if k = Key.hmHostAttach then s.attachEffect
  else if 0x8310 ≤ i && i < 0x8318 then s.settleHm
  else if k = Key.avsEnable then if s.flag k then s else s.clearTrims
  else if k = Key.lrefSelect then s.selectLref
  else s

/-! ## Byte blocks -/

/-- The colour lines held under the delays of `PixelParams` before a change are not formed (05 R155). -/
def State.delaysChanged (s : State) (n : Nat) : State :=
  let keys := ((s.port n).held.map fun x => (x.head.triggered, s.lineKey n x)).eraseDups
  keys.foldl (fun s (e : Bool × Nat) => if e.1 then s.reportLine n e.2 else s.reportFree n e.2) s

/-- What precedes a byte block's taking effect: planes held under delays that change (05 R155). -/
def State.beforeBlob (s : State) (k : Nat) (b : List Byte) : State :=
  let i := k / 256
  if 0x3800 ≤ i && i < 0x3900 && (i - 0x3800) % 16 = 12 && bytesAt (s.blob k) 2 6 ≠ bytesAt b 2 6 then
    s.delaysChanged ((i - 0x3800) / 16)
  else s

/-- What follows a byte block's taking effect (05 R156, 07 R230). -/
def State.takeBlob (s : State) (k : Nat) (changed : Bool) : State :=
  let i := k / 256
  if 0x3800 ≤ i && i < 0x3900 then
    if (i - 0x3800) % 16 < 8 && changed && s.inRun then s.startLoad ((i - 0x3800) / 16) else s
  else if i = 0x4480 then s.loadColumns (k % 256 - 1) (s.blob k)
  else s

/-- A byte block put in effect. -/
def State.putBlob (s : State) (k : Nat) (b : List Byte) : State :=
  let changed : Bool := s.blob k ≠ b
  ((s.beforeBlob k b).setBlob k b).takeBlob k changed

/-! ## Values taking effect -/

/-- A value put in effect with what follows. -/
def State.putVal (s : State) (k : Nat) (v : Slot) : State :=
  let old := s.val k
  (s.setVal k v).takeEffect k old

/-- The strips not yet complete go on with the bytes in effect. -/
def State.keepOldBlob (s : State) (k : Nat) : State :=
  let b := s.blob k
  let keep := fun (x : Strip) => if (tblFind x.oldBlobs k).isSome then x else { x with oldBlobs := tblSet x.oldBlobs k b }
  { s with sched := { s.sched with strips := s.sched.strips.map keep } }

/-- Every pending value takes effect, in the order of their keys (02 R35, R43). -/
def State.applyPending (s : State) : State :=
  let ps := s.dict.pend
  let bs := s.dict.pendBlobs
  let s := { s with dict := { s.dict with pend := [], pendBlobs := [], forced := [] } }
  let s := ps.foldl (fun s (e : Nat × Slot) => (s.keepOld e.1).putVal e.1 e.2) s
  bs.foldl (fun s (e : Nat × List Byte) => (s.keepOldBlob e.1).putBlob e.1 e.2) s

/-- The placements the processor wrote take effect whatever `ShadowHold` holds (03 R96). -/
def State.applyForced (s : State) : State :=
  let fs := s.dict.forced
  let s := { s with dict := { s.dict with
      forced := [], pend := s.dict.pend.filter fun (e : Nat × Slot) => !fs.contains e } }
  fs.foldl (fun s (e : Nat × Slot) => (s.keepOld e.1).putVal e.1 e.2) s

/-- The pending entries. -/
def State.pendingCount (s : State) : Nat := s.dict.pend.length + s.dict.pendBlobs.length

/-- An accepted RWT value: pending in RUN or under `ShadowHold`, else in effect (02 R35). -/
def State.writeRwt (s : State) (k : Nat) (v : Slot) : State := if s.shadowed then s.setPend k v else s.putVal k v

/-- An accepted RWT byte block (02 R35, R51). -/
def State.writeRwtBlob (s : State) (k : Nat) (b : List Byte) : State :=
  if s.shadowed then { s with dict := { s.dict with pendBlobs := tblSet s.dict.pendBlobs k b } } else s.putBlob k b

end Sys2Proof.Machine
end

