-- ==== Sys2Proof/Machine/Summary.lean ====
section
/-! DEFINITION. The end of a strip: gains from its overlaps (06 R191), its statistics frames (05 R163; 06 R197; 09 R262, R263)
and its summary (03 R75–R78, R90). -/

namespace Sys2Proof.Machine

open Sys2Proof

/-! ## Cycles (03 R79) -/

/-- The cycles of engine e for quantities q (03 R79). -/
def engineCycles (q : Nat → Nat) (e : Nat) : Nat :=
  if e < 8 then q (qSamples e) / 8 + 16 * q (qSwitches e)
  else if e = 8 then q qCauseway
  else if e = 9 then q qReef + 16 * (q qClosed + q qMerges)
  else if e = 10 then q qAtoll + 8 * q qEmitters
  else if e = 11 then q qBytes / 64 + 32 * q qStats + 4 * q qZones
  else ((List.range 8).map fun i => q (qComp i)).foldl max 0 / 4

/-- Cycles in kcycles, saturated. -/
def kcycles (c : Nat) : Nat := satU 32 (divRound c 1000)

/-! ## Gains (06 R191) -/

/-- One pair's update: the pair with its flags and ratio, and the port whose gain changes with its new gain. -/
def State.gainStep (v : State) (p : PairSum) : PairSum × Option (Nat × Nat) :=
  if p.pixels < v.num Key.gainMinPixels || p.sumA = 0 || p.sumB = 0 then ({ p with flags := 1, ratio := 0 }, none)
  else
    let place := fun (n : Nat) => (indexOf? (fun m => decide (m = n)) v.orderedPorts).getD 0
    let right : Bool := place (v.num Key.gainRefPort) ≤ place p.left
    let g := if right then p.gainR else p.gainL
    let t := if right then divRound (g * p.sumA : Nat) p.sumB else divRound (g * p.sumB : Nat) p.sumA
    let lim := divRound (g * v.num Key.gainStepMax : Nat) 65536
    let a := clampInt ((g : Int) - lim) ((g : Int) + lim) t
    let b := clampInt (v.num Key.gainMin) (v.num Key.gainMax) a
    ({ p with flags := 2 * bit (a ≠ t) + 4 * bit (b ≠ a), ratio := satU 32 (divRound (65536 * p.sumA : Nat) p.sumB) },
     some (if right then p.right else p.left, b.toNat))

/-- The pairs of a strip, those without a line with sums of 0. -/
def State.stripPairs (v : State) (x : Strip) : List PairSum :=
  v.neighbours.map fun p => (x.pairs.find? fun q => q.left = p.1 && q.right = p.2).getD
    { left := p.1, right := p.2, gainL := v.num (Key.portGainNow p.1), gainR := v.num (Key.portGainNow p.2) }

/-- A strip's gains are worked out; with matching on they wait for the next tick. -/
def State.gainsOf (s : State) (x : Strip) : State :=
  let v := s.settingsFor x.index
  let rs := (v.stripPairs x).map v.gainStep
  let s := s.modStrip x.index fun x => { x with pairs := rs.map (·.1), gainsDone := true }
  if v.flag Key.gainMatchEn then
    { s with cause := { s.cause with
        gains := (rs.filterMap (·.2)).foldl (fun (t : Tbl Nat) (e : Nat × Nat) => tblSet t e.1 e.2) s.cause.gains } }
  else s

/-- The gains of every strip whose last world line has been formed. -/
def State.settleGains (s : State) : State :=
  s.sched.strips.foldl (fun s x => match x.lineEnd with
    | none => s
    | some e => if x.gainsDone || s.cause.nextLine < e then s else s.gainsOf x) s

/-- The gains worked out so far take effect. -/
def State.applyGains (s : State) : State :=
  let gs := s.cause.gains
  gs.foldl (fun s (e : Nat × Nat) => s.setGain e.1 e.2) { s with cause := { s.cause with gains := [] } }

/-! ## Statistics (05 R163; 06 R197; 09 R262, R263) -/

/-- The 32 bytes of a focus zone (05 R163). -/
def Zone.bytes (z : Zone) : List Byte :=
  leBytes 8 z.gradH2 ++ leBytes 8 z.brenner ++ leBytes 8 z.gradV2 ++ leBytes 2 z.gradMax ++ zeros 2 ++ leBytes 4 z.excluded

/-- The focus record of port n, whose lines have N columns, for strip k (05 R163). -/
def focusBody (n columns k : Nat) (f : Focus) : List Byte :=
  let w := (columns + 63) / 64
  leBytes 1 1 ++ leBytes 1 n ++ leBytes 2 (bit f.migrated + 2 * bit f.lost + 4 * bit f.fill) ++ leBytes 2 w
    ++ leBytes 2 (ceilDiv columns w) ++ leBytes 8 k ++ leBytes 4 f.lines ++ leBytes 4 f.linesV ++ zeros 8
    ++ (List.range 64).flatMap fun z => (tblGet f.zones {} z).bytes

/-- The 16 bytes of a pair in the Causeway record (06 R197). -/
def PairSum.bytes (p : PairSum) : List Byte :=
  leBytes 1 p.left ++ leBytes 1 p.right ++ leBytes 2 p.flags ++ leBytes 4 p.ratio ++ leBytes 4 p.pixels ++ leBytes 2 p.gainL
    ++ leBytes 2 p.gainR

/-- The Causeway record of a strip (06 R197). -/
def causewayBody (x : Strip) (held : Bool) : List Byte :=
  let e := x.edges
  let mean := fun (sum : Nat) => (divRound sum e.lines).toNat
  leBytes 1 2 ++ leBytes 1 x.pairs.length
    ++ leBytes 2 (bit e.lostL + 2 * bit e.lostR + 4 * bit e.span + 8 * bit e.synth + 16 * bit held)
    ++ leBytes 4 e.accepted ++ leBytes 8 x.index ++ leBytes 4 (mean e.sumL) ++ leBytes 4 e.minL ++ leBytes 4 e.maxL
    ++ leBytes 4 (mean e.sumR) ++ leBytes 4 e.minR ++ leBytes 4 e.maxR ++ leBytes 4 e.rejected ++ zeros 4
    ++ (x.pairs.flatMap PairSum.bytes) ++ zeros (16 * (15 - x.pairs.length))

/-- Time from tick k to tick k + 1. -/
def Strip.period (x : Strip) : Nat := x.closedAt - x.openedAt

/-- `OP_INFO` (03 R90). -/
def Strip.opInfo (x : Strip) : Nat := x.opMax * 16 + x.opSel

/-- The schedule record of a strip whose summary has the given flags (09 R263). -/
def scheduleBody (x : Strip) (flags : Nat) : List Byte :=
  leBytes 1 3 ++ leBytes 1 x.opInfo ++ leBytes 2 (flags + 256 * x.shedMask) ++ leBytes 4 x.lag ++ leBytes 8 x.index
    ++ ((List.range 13).flatMap fun e => leBytes 4 (kcycles (engineCycles (tblGet x.qty 0) e)))
    ++ ((List.range 13).flatMap fun e => leBytes 4 (x.pred.getD e 0)) ++ leBytes 4 x.period ++ zeros 4

/-- A statistics record enters stream 5 in its frame (09 R262). -/
def State.putFrame (s : State) (type port k : Nat) (body : List Byte) : State :=
  let q := s.streams.frameSeq
  let h := leBytes 4 body.length ++ leBytes 1 type ++ leBytes 1 port ++ zeros 2 ++ leBytes 4 q ++ leBytes 4 (crc32 body)
  ({ s with streams := { s.streams with frameSeq := q + 1 } }).putUnit 5 k (h ++ body)

/-- The focus records of strip k (05 R163; 03 R87). -/
def State.putFocus (s v : State) (k : Nat) : State :=
  (v.enabledPorts.filter fun n => bitAt (fieldAt (v.blob (Key.pixelParams n)) 0 2) 0).foldl (fun s n =>
    let columns := v.num (Key.camLineLength n)
    let used := ceilDiv columns ((columns + 63) / 64)
    ((s.measure qStats 1 k).measure qZones used k).putFrame 1 n k (focusBody n columns k (tblGet (s.port n).focus {} k))) s

/-- The strip of index k, as it stands. -/
def State.strip (s : State) (k : Nat) : Strip := (s.sched.strips.find? (·.index = k)).getD {}

/-- The statistics of strip k, in their order (09 R263). -/
def State.putStats (s : State) (k flags : Nat) : State :=
  let v := s.settingsFor k
  let types := v.num Key.statTypeMask
  if !v.flag Key.statEnable then s
  else
    let s := if bitAt types 0 && !bitAt (s.strip k).shedMask 0 then s.putFocus v k else s
    let s := if bitAt types 1 then
        (s.measure qStats 1 k).putFrame 2 0xFF k (causewayBody (s.strip k) (!v.flag Key.gainMatchEn))
      else s
    if bitAt types 2 then
      let s := s.measure qStats 1 k
      s.putFrame 3 0xFF k (scheduleBody (s.strip k) flags)
    else s

/-! ## The summary (03 R90) -/

/-- `FLAGS` of a summary. -/
def Strip.flags (x : Strip) (late cut : Bool) : Nat :=
  bit late + 2 * bit x.forced + 4 * bit x.deferred + 8 * bit x.passed + 16 * bit x.migrated + 32 * bit x.opCapped
    + 64 * bit x.energyStale + 128 * bit cut

/-- Energy per sample in u4.12 nJ (03 R90, 13 R410). -/
def Strip.energy (x : Strip) : Nat := if x.samples = 0 then 0 else satU 16 (divRound (x.energyNj * 4096 : Nat) x.samples)

/-- The 62 bytes of a summary: its flags, Λ at the latest tick, the completion after tick k + 1 and the open regions. -/
def Strip.body (x : Strip) (flags lag done openRegions : Nat) : List Byte :=
  leBytes 1 6 ++ leBytes 1 flags ++ leBytes 1 x.shedMask ++ leBytes 1 x.opInfo ++ leBytes 4 lag ++ zeros 8 ++ leBytes 8 x.index
    ++ leBytes 8 x.tickTime ++ leBytes 8 x.lineFirst ++ leBytes 4 (x.lineEnd.getD x.lineFirst - x.lineFirst) ++ leBytes 4 x.period
    ++ leBytes 4 done ++ leBytes 4 x.records ++ leBytes 2 x.energy ++ leBytes 2 (min openRegions 65535) ++ leBytes 2 x.epoch

/-- Whether strip x completes after its deadline (03 R76, R77; 01 R28). -/
def State.strayed (s : State) (x : Strip) : Bool := match tblFind s.sched.deadlines x.index with
  | none => false
  | some d => d < s.now

/-- The open regions at the end of strip x (03 R90). -/
def State.openRegions (s : State) (x : Strip) : Nat := (tblFind s.reef.openAt x.index).getD s.reef.regions.length

/-- A strip that has its summary is no longer kept. -/
def State.dropStrip (s : State) (k : Nat) : State :=
  let s := { s with sched := { s.sched with strips := s.sched.strips.filter (·.index ≠ k) } }
  let s := s.modReef fun r => { r with openAt := tblDel r.openAt k }
  s.forN 16 fun s n => if (tblFind (s.port n).focus k).isSome then s.modPort n fun p => { p with focus := tblDel p.focus k } else s

/-- Strip x ends with its statistics and its summary; `cut` where FAULT cuts it short (03 R75–R78, R90). -/
def State.summarise (s : State) (x : Strip) (cut : Bool) : State :=
  let late : Bool := !cut && s.strayed x
  let flags := x.flags late cut
  let s := if cut then s else s.putStats x.index flags
  let s := (s.bumpIf late Key.lateStripCount).bumpIf (x.shedMask ≠ 0) Key.shedStripCount
  let done := if x.lineEnd.isNone then 0 else s.now - x.closedAt
  let body := x.body flags (s.num Key.lag) done (s.openRegions x)
  let s := s.leave { bytes := body, strip := some x.index } x.index
  let s := if late || x.passed || x.opCapped then s.raiseHm 71 else s
  s.dropStrip x.index

/-- The oldest strip kept, if all its work is done (03 R75). The last strip of a drain is left to RUN_DRAIN_COMPLETE (01
R28). -/
def State.doneStrip (s : State) : Option Strip :=
  match s.sched.strips with
  | [] => none
  | x :: rest =>
    if s.stripDone x && s.compressionDone x.index && !(s.life.draining && rest.isEmpty) then some x else none

/-- STRIP_COMPLETE (03 R75): the oldest strip is complete. -/
def execStripComplete (s : State) : Host.Outcome State Fault Refusal :=
  if !s.inRun then .next s
  else match s.doneStrip with
    | none => .next s
    | some x =>
      let s := s.settleGains
      .next ((s.summarise (s.strip x.index) false).release.settleSub)

end Sys2Proof.Machine
end

