-- ==== Sys2Proof/Machine/Schedule.lean ====
section
/-! DEFINITION. The strip tick: boundary, values, lag, shedding, pass-through, prediction, operating point (03 R71–R88;
02 R43–R45). -/

namespace Sys2Proof.Machine

open Sys2Proof

/-! ## When a tick is due (03 R71–R73) -/

/-- The shortest time between ticks. -/
def tickMin : Nat := 16000

/-- The longest time between ticks. -/
def tickMax : Nat := 16000000

/-- L_k of the strip being formed. -/
def State.lineStart (s : State) : Nat := (s.strip (s.num Key.stripIndex)).lineFirst

/-- The next multiple of `TickLines` above L_k (03 R72). -/
def State.lineTarget (s : State) : Nat :=
  let n := s.num Key.tickLines
  (s.lineStart / n + 1) * n

/-- Whether the counter's integer part has reached line l. -/
def State.reached (s : State) (l : Nat) : Bool := (l : Int) ≤ s.worldCounter / 65536

/-- The boundary by the time-mode rule (03 R72), no more than 65,536 lines on (03 R73). -/
def State.timeBoundary (s : State) : Nat :=
  let l := s.lineStart
  min (max l ((s.worldCounter + 65535) / 65536).toNat) (l + 65536)

/-- Whether the tick of the source in use is due; `event` where one came (03 R71). -/
def State.tickDue (s : State) (event : Bool) : Bool :=
  match s.num Key.tickSource with
  | 1 => s.reached s.lineTarget
  | 2 => decide (s.num Key.runEntryTime + (s.num Key.stripIndex + 1) * s.num Key.tickPeriod ≤ s.wNow)
  | _ => event

/-- A tick falls due too early and waits (03 R73). -/
def State.deferTick (s : State) (forced : Bool) : State :=
  ({ s with sched := { s.sched with deferredAt := some (s.sched.lastTick + tickMin), deferredForced := forced } }).bump
    Key.deferredTickCount

/-! ## Step 1: the boundary (03 R74) -/

/-- The strip being formed ends at line e: its period, energy and flags; its successor's index is current (03 R74, 13 R410).
`last` where no strip follows (01 R28). -/
def State.closeStrip (s : State) (e : Nat) (forced deferred last : Bool) : State :=
  let k := s.num Key.stripIndex
  let period := s.now - s.sched.lastTick
  let s := s.modStrip k fun x => { x with
    lineEnd := some e, closedAt := s.now, forced := forced, deferred := deferred, energyNj := s.power.sinceTick
    energyStale := s.power.staleTick, samples := s.sched.arrived }
  let s := (s.closeEnergy period).setNum Key.lastPeriod (min period (pow2 32 - 1))
  let deadlines := if k = 0 then s.sched.deadlines else tblSet s.sched.deadlines (k - 1) s.now
  let deadlines := if last then tblSet deadlines k (s.now + period) else deadlines
  let s := { s with sched := { s.sched with
    lastTick := s.now, deferredAt := none, deferredForced := false, arrived := 0, deadlines := deadlines } }
  let s := (s.bumpIf forced Key.forcedTickCount).setNum Key.stripIndex (if last then k else k + 1)
  ((s.produce 0x00B0 s.now).raiseHm 70).logIllegal (k % pow2 24)

/-- What the boundary settles at once where the web's lines have already been formed up to it (06 R185; 07 R219; 09 R257). -/
def State.settleBoundary (s : State) (e : Nat) : State :=
  let s := if e ≤ s.cause.nextLine then s.enabledPorts.foldl (fun s n => s.reportSpan n e) s else s
  s.restartGuards.sxLines.settleUninspected

/-- The motion of every channel at the tick (10 R308). -/
def State.noteMotion (s : State) : State :=
  s.forN 8 fun s c =>
    (s.setInt (Key.velocityAtTick c) (satS 32 (microns (s.velocityAt c s.now)))).setInt (Key.positionAtTick c)
      (satS 64 (s.positionAt c s.now))

/-! ## Step 2: values (02 R43–R45) -/

/-- `ShadowHold` is released at its limit as strip k begins: journalled with HELD, a warning, and the values apply (02 R45,
R68). -/
def State.releaseHold (s : State) (k : Nat) : State :=
  let n := s.pendingCount
  let s := s.setNum Key.shadowHold 0
  let s := { s with dict := { s.dict with holdTicks := 0 } }
  let s := s.journalStrip 0 0xB00 (BitVec.ofNat 64 n) resHeld (some k)
  (s.troubleStrip 0x0004 noUnit 1 n (k % pow2 24)).applyPending

/-- Whether `ShadowHold` has stayed 1 for its limit (02 R45). -/
def State.holdExpired (s : State) : Bool := s.flag Key.shadowHold && s.num Key.shadowHoldLimit ≤ s.dict.holdTicks

/-- The values that a tick puts in effect, before strip k. -/
def State.tickValues (s : State) (k : Nat) : State :=
  let s := s.settleGains.applyGains
  if s.holdExpired then s.releaseHold k
  else if s.flag Key.shadowHold then
    { s with dict := { s.dict with holdTicks := s.dict.holdTicks + 1 } }.applyForced
  else s.applyPending

/-- SHADOW_HOLD_LIMIT (02 R45, R67): the release of `ShadowHold` at its limit, where the tick has not made it; it carries the strip
that the tick opens. -/
def execShadowHoldLimit (s : State) : Host.Outcome State Fault Refusal :=
  if s.inRun && s.holdExpired then
    let before := s.placements
    .next (((s.releaseHold (s.num Key.stripIndex + 1)).movePorts before).settleSub)
  else .next s

/-! ## Step 3: lag (03 R84) -/

/-- The cycles each engine owes to strips whose deadline has passed at the tick that ends strip k. -/
def State.owedAt (s : State) (k : Nat) : List Nat :=
  let owes : Bool := s.sched.strips.any fun x => x.index + 1 ≤ k
  (List.range 13).map fun e => if owes then s.workLeft e (k - 1) true else 0

/-- The first place of a list's largest element. -/
def argMax (xs : List Nat) : Nat := (indexOf? (fun x => decide (x = xs.foldl max 0)) xs).getD 0

/-- The measured periods of the last four strips, strip k's first. -/
def State.lastPeriods (s : State) (k : Nat) : List Nat := ((s.strip k).period :: s.sched.history.map (·.period)).take 4

/-- Λ at the tick that ends strip k. -/
def State.evaluateLag (s : State) (k : Nat) (owed : List Nat) : State :=
  let m := owed.foldl max 0
  let ps := s.lastPeriods k
  let lag := satU 32 (divRound (m * 65536 * ps.length : Nat) (sumNat ps))
  let s := s.setNum Key.lag lag
  let s := if s.num Key.lagPeak < lag then s.setNum Key.lagPeak lag else s
  if lag = 0 then s else s.setNum Key.lagEngine (argMax owed)

/-! ## Step 4: shedding and pass-through (03 R86–R88) -/

/-- The queued chips are shed (03 R87, 09 R259). -/
def State.shedChips (s : State) : State :=
  let n := s.streams.chips.length
  ({ s with streams := { s.streams with chips := [] } }).add Key.chipsShed n

/-- One item more is shed, or the one shed last restored. -/
def State.decideShed (s : State) : State :=
  let lag := s.num Key.lag
  let max := s.num Key.lagMax
  let m := s.num Key.shedMask
  let m' := if max < lag then (2 * m + 1) % 32 else if 2 * lag ≤ max then m / 2 else m
  let s := s.setNum Key.shedMask m'
  let s := if bitAt m' 4 then s.shedChips else s
  { s with sched := { s.sched with strips := s.sched.strips.map fun x => { x with shedMask := x.shedMask ||| m' } } }

/-- The compression of streams for strips up to k at engine e is discarded (03 R88). -/
def State.dropCompression (s : State) (k e : Nat) : State :=
  let gone := fun (w : CompWork) => w.source ≠ 0xFF && stripStream w.source && w.strip ≤ k
  let ready := (s.engine e).ready.filter gone
  let s := s.modEngine e fun x => { x with ready := x.ready.filter fun w => !gone w }
  let s := ready.foldl (fun s w => s.bump (Key.unitsDiscarded w.source)) s
  match (s.engine e).work with
  | none => s
  | some w => if gone w then s.endUnit e (s.cutShort e 7 5) else s

/-- The camera lines of port n for strips up to k are dropped, the missing ones among them forgotten (03 R88). -/
def State.dropLines (s : State) (k n : Nat) : State :=
  let gone := fun (h : LineHead) => decide (s.stripIndexAt h.worldPos ≤ k)
  let p := s.port n
  let bs := p.buffer.filter fun b => gone b.head
  let heads := bs.map (·.head) ++ (p.held.map (·.head)).filter gone
  let arriving := fun (r : RxPacket) => match r.matched with
    | some h => if gone h then { r with discard := true, matched := none, taken := false, mark := some h } else r
    | none => r
  let s := s.modPort n fun p => { p with
    rx := p.rx.map arriving
    buffer := p.buffer.filter fun b => !gone b.head
    held := p.held.filter fun x => !gone x.head
    output := p.output.filter fun x => !gone x.head }
  let off := s.int (Key.alongOffset n)
  let s := s.modPort n fun p => { p with missing := p.missing.filter fun m => m.half || !s.passedAt (m.pos + off) }
  let s := s.modGeo n fun g => { g with missing := g.missing.filter fun y => !s.passedAt (y + off) }
  let s := bs.foldl (fun s b => s.freeCredits n (creditsOf b.length) true) s
  heads.foldl (fun s h => s.dropPlane n h) s

/-- Pipelines and Causeway give up the strips up to k, from line `first` to their end e. -/
def State.dropPixels (s : State) (k first e : Nat) : State :=
  let s := { s with sched := { s.sched with cut := s.sched.cut ++ [(first, e)] } }
  let s := s.forN s.portCount fun s n => s.dropLines k n
  let from_ := s.cause.nextLine
  if e ≤ from_ then s
  else
    let s := { s with cause := { s.cause with nextLine := e, never := s.cause.never ++ [(from_, e)] } }
    s.enabledPorts.foldl (fun s n => (s.trimPort e n).reportSpan n e) s

/-- The strips up to k are marked and counted (03 R88). -/
def State.markPassed (s : State) (k : Nat) : State :=
  let fresh := (s.sched.strips.filter fun (x : Strip) => x.index ≤ k && !x.passed).length
  let pass := fun (x : Strip) => if x.index ≤ k then { x with passed := true } else x
  { s with sched := { s.sched with strips := s.sched.strips.map pass } }.add Key.passThroughCount fresh

/-- Reef gives up the lines from `close` to e: regions close, one span record states them (03 R88, 07 R212, R219). -/
def State.passReef (s : State) (close e : Nat) : State :=
  let s := if close < e then
      ((s.forceClose close true none).flushUninspected).putSpan false 5 close (e - close) 0 (s.num Key.worldWidth) 0xFFFF
    else s
  s.modReef fun (r : Reef) => { r with nextLine := max r.nextLine e }

/-- Atoll gives up the lines to e (03 R88, 08 R246). -/
def State.passAtoll (s : State) (e : Nat) : State :=
  s.modAtoll fun (a : Atoll) =>
    if a.nextLine < e then { a with passed := a.passed ++ [(a.nextLine, e)], nextLine := e } else a

/-- The chips whose windows end in strips up to k are not cut (03 R88). -/
def State.passChips (s : State) (k : Nat) : State :=
  let chips := s.streams.chips.filter fun (c : ChipReq) => decide (k < s.stripAt c.endLine)
  { s with streams := { s.streams with chips := chips } }

/-- The strips up to k are passed through (03 R88). -/
def State.passThrough (s : State) (k : Nat) : State :=
  match s.sched.strips with
  | [] => s
  | x :: _ =>
    let e := s.boundary k
    let s := (((s.markPassed k).passReef (max x.lineFirst s.reef.nextLine) e).noteOpen (k + 1)).passAtoll e
    let s := s.passChips k
    let s := s.forN 8 fun s e => s.dropCompression k e
    let s := if s.num Key.lagEngine ≤ 8 then s.dropPixels k x.lineFirst e else s
    (((s.setNum Key.lag 0).dropTaken).sxLines).settlePieces.release

/-! ## Steps 5 and 6: prediction and selection (03 R79–R83, R85) -/

/-- The strips whose measurements the predictor uses: the newest four, and the newest four with world lines. -/
def keepHistory : Nat → Nat → List Measured → List Measured
  | _, _, [] => []
  | a, l, m :: ms =>
    if a = 0 && (l = 0 || m.lines = 0) then keepHistory a l ms
    else m :: keepHistory (a - 1) (if 0 < m.lines then l - 1 else l) ms

/-- The measured quantities of strip k join the history. -/
def State.closeMeasured (s : State) (k : Nat) : State :=
  let x := s.strip k
  let m : Measured := { lines := x.lineEnd.getD x.lineFirst - x.lineFirst, period := x.period, qty := x.qty }
  { s with sched := { s.sched with history := keepHistory 4 4 (m :: s.sched.history) } }

/-- The predicted period T̂ in ns (03 R80). -/
def State.predictedPeriod (s : State) (v : Nat) : Nat :=
  match s.num Key.tickSource with
  | 1 => if v = 0 then tickMax
    else min (max (s.num Key.tickLines * s.num Key.pitchY * pow2 32 / v) tickMin) tickMax
  | 2 => s.num Key.tickPeriod
  | _ => s.num Key.lastPeriod

/-- The predicted line count N̂ as a fraction (03 R80). -/
def State.predictedLines (s : State) (v period : Nat) : Nat × Nat :=
  if s.num Key.tickSource = 1 then (s.num Key.tickLines, 1) else (v * period, pow2 32 * s.num Key.pitchY)

/-- A quantity's prediction for N̂ lines (03 R80); those from `qClosed` on are quantities per strip. -/
def predictQuantity (h : List Measured) (n : Nat × Nat) (q : Nat) : Nat :=
  if q < qClosed then
    match (h.filter fun m => 0 < m.lines).take 4 with
    | [] => 0
    | m :: ms => max (tblGet m.qty 0 q * n.1 / (m.lines * n.2))
        (sumNat ((m :: ms).map fun x => tblGet x.qty 0 q) * n.1 / (sumNat ((m :: ms).map (·.lines)) * n.2))
  else
    match h.take 4 with
    | [] => 0
    | m :: ms => max (tblGet m.qty 0 q) (sumNat ((m :: ms).map fun x => tblGet x.qty 0 q) / (ms.length + 1))

/-- cap(op) of R82, in cycles; `tenths` is the budget in tenths of a ns. -/
def capacity (op now tenths : Nat) : Int :=
  let f := opMhz op
  (f * tenths / 10000 : Nat) - ((f - opMhz now) * 40 : Nat)

/-- The lowest point from op on, up to the ceiling, whose capacity covers the work. -/
def lowestOp (now tenths work ceiling : Nat) : Nat → Nat → Nat
  | 0, op => op
  | n + 1, op => if op < ceiling && capacity op now tenths < work then lowestOp now tenths work ceiling n (op + 1) else op

/-- What the selection of R82 finds: predictions, work to cover, budget, and the point. -/
structure Selection where
  pred    : List Nat
  backlog : List Nat
  work    : List Nat
  tenths  : Nat
  op      : Nat
  known   : Bool

/-- The selection at a tick, with what each engine owes (03 R80, R82, R85). -/
def State.selection (s : State) (owed : List Nat) : Selection :=
  let v := (s.velocityAt (s.num Key.webEncoder) s.now).toNat
  let t := s.predictedPeriod v
  let known := s.sched.history.any fun m => 0 < m.lines
  let n := s.predictedLines v t
  let pred := (List.range 13).map fun e => if known then engineCycles (predictQuantity s.sched.history n) e else 0
  let backlog := (List.range 13).map fun e => s.workLeft e (s.num Key.stripIndex) false
  let late : Bool := 0 < s.num Key.lag
  let repay := s.num Key.repayTicks
  let work := if late then List.zipWith (fun a o => a + ceilDiv o repay) pred owed else List.zipWith (· + ·) pred backlog
  let tenths := if late then 10 * t else 9 * t
  let ceiling := s.opLimit
  let floor := s.num Key.opMin
  let op := if known then
      lowestOp (s.num Key.opNow) tenths (work.foldl max 0) ceiling 8 (min (if late then max floor 6 else floor) ceiling)
    else min (max 5 floor) ceiling
  ⟨pred, backlog, work, tenths, op, known⟩

/-- The selection is reported and made, at the tick that ends strip k (03 R82, R90, R100). -/
def State.selectAt (s : State) (k : Nat) (x : Selection) : State :=
  let most := x.work.foldl max 0
  let s := s.forN 13 fun s e =>
    (s.setNum (Key.engineWork e) (kcycles (x.pred.getD e 0))).setNum (Key.engineBacklog e) (kcycles (x.backlog.getD e 0))
  let s := if x.known then
      (s.setNum Key.opRequired (satU 32 (divRound (most * 10000 : Nat) x.tenths))).setNum Key.criticalEngine (argMax x.work)
    else s
  let capped : Bool := x.known && capacity x.op (s.num Key.opNow) x.tenths < most
  let s := s.modStrip k fun y => { y with opSel := x.op, opCapped := capped, lag := s.num Key.lag }
  ((s.bump (Key.opTickCount x.op)).selectOp x.op).noteOp

/-- The time under the thermal limit so far is counted (13 R409). -/
def State.accrueLimit (s : State) : State :=
  if s.sched.thermLimit then
    { s with power := { s.power with limitSince := s.now } }.add Key.thermLimitTime (s.now - s.power.limitSince)
  else s

/-- The thermal limit ends (13 R409). -/
def State.endLimit (s : State) : State :=
  let s := s.accrueLimit
  { s with sched := { s.sched with thermLimit := false } }.settleHm

/-- The thermal limit ends at a tick at which every sensor reads below 97 °C (13 R409). -/
def State.liftLimit (s : State) : State := if s.sched.thermLimit && s.allBelow 97 then s.endLimit else s

/-! ## The tick (03 R74) -/

/-- A strip begins at line l (03 R72, R74, R90); `ran` is the point that runs as its tick comes. -/
def State.openStrip (s : State) (l ran : Nat) (migrated : Bool) (pred : List Nat) : State :=
  let x : Strip :=
    { index := s.num Key.stripIndex, lineFirst := l, tickTime := s.wNow, openedAt := s.now, migrated := migrated
      shedMask := s.num Key.shedMask, opMax := max ran (s.num Key.opNow), epoch := s.num Key.placementEpoch % pow2 16, pred := pred }
  { s with sched := { s.sched with strips := s.sched.strips ++ [x] } }

/-- A tick that ends the strip being formed at line e (03 R74; 01 R28; 15 R453). -/
def State.tick (s : State) (e : Nat) (forced deferred : Bool) : State :=
  let k := s.num Key.stripIndex
  let last := s.life.readyRequested
  let before := s.placements
  let s := (((s.closeStrip e forced deferred last).settleBoundary e).noteMotion).tickValues (k + 1)
  let moved : Bool := before ≠ s.placements
  let s := (s.movePorts before).returnPipelines
  let owed := s.owedAt k
  let s := (s.evaluateLag k owed).decideShed
  let s := if s.num Key.lagAbort < s.num Key.lag then s.passThrough (k - 1) else s
  let s := ((s.settleSub).closeMeasured k).liftLimit
  let x := s.selection owed
  let slack := fun (p : Nat) => capacity x.op (s.num Key.opNow) x.tenths - (x.work.getD p 0 : Nat)
  let ran := s.num Key.opNow
  let s := s.selectAt k x
  let s := s.forN s.pipeCount fun s p => s.checkTick p (k + 1) (slack p)
  if last then { s with life := { s.life with draining := true, readyRequested := false } }.sxLines
  else s.openStrip e ran moved (x.pred.map kcycles)

/-- Whether ticks come: in RUN before its drain. -/
def State.ticking (s : State) : Bool := s.inRun && !s.life.draining

/-- A tick of the source in use, deferred where it comes early (03 R72, R73). -/
def State.sourceTick (s : State) : State :=
  if s.now < s.sched.lastTick + tickMin then s.deferTick false
  else s.tick (if s.num Key.tickSource = 1 then s.lineTarget else s.timeBoundary) false false

/-- STRIP_TICK (03 R71–R74): the source's tick, if it is due; an event in event mode while a tick is deferred merges into
it. -/
def execStripTick (s : State) : Host.Outcome State Fault Refusal :=
  let event : Bool := !(s.wire 0x0060).isEmpty
  let s := s.takeWire 0x0060
  if !s.ticking then .next s
  else if s.sched.deferredAt.isSome then .next (s.bumpIf (event && s.num Key.tickSource = 3) Key.mergedTickEvents)
  else if s.tickDue event then .next s.sourceTick
  else .next s

/-- Whether a tick is forced: 16 ms have passed, or in time and event modes 65,536 lines have accrued (03 R73). -/
def State.forcedDue (s : State) : Bool :=
  s.sched.lastTick + tickMax ≤ s.now || (s.num Key.tickSource ≠ 1 && s.reached (s.lineStart + 65536))

/-- FORCED_TICK (03 R73). -/
def execForcedTick (s : State) : Host.Outcome State Fault Refusal :=
  if !s.ticking || s.sched.deferredAt.isSome || !s.forcedDue then .next s
  else if s.now < s.sched.lastTick + tickMin then .next (s.deferTick true)
  else .next (s.tick s.timeBoundary true false)

/-- DEFERRED_TICK (03 R73): a deferred tick falls due. -/
def execDeferredTick (s : State) : Host.Outcome State Fault Refusal :=
  match s.sched.deferredAt with
  | none => .next s
  | some t =>
    if !s.ticking || s.now < t then .next s
    else .next (s.tick s.timeBoundary s.sched.deferredForced true)

end Sys2Proof.Machine
end

