-- ==== Sys2Proof/Machine/Save.lean ====
section
/-! DEFINITION. Saving the dictionary to MRAM and restoring it (02 R58–R61). -/

namespace Sys2Proof.Machine

open Sys2Proof

/-! ## Images (02 R58) -/

/-- The bytes an entry of an image occupies. -/
def SavedEntry.area (e : SavedEntry) : Nat := 8 + 4 * ((e.bytes.length + 3) / 4)

/-- The bytes of an entry area. -/
def areaBytes (es : List SavedEntry) : Nat := sumNat (es.map SavedEntry.area)

/-- The largest entry area. -/
def areaLimit : Nat := 1044480

/-- The keys of a row's instances. -/
def EntryRow.keys (r : EntryRow) : List Nat :=
  (List.range r.count).flatMap fun i => (List.range r.subs).map fun j => key (r.base + i * r.stride) (r.sub + j)

/-- The keys of every persistent entry, rising. -/
def persistentKeys : List Nat :=
  (List.range 24).flatMap fun r => sortBy id (((rowsOf r).filter (·.persist)).flatMap EntryRow.keys)

/-- The last accepted value of an entry as its image holds it: nothing for an empty STR or DOMAIN. -/
def State.savedEntry (s : State) (k : Nat) : Option SavedEntry :=
  match keyRow k with
  | none => none
  | some r =>
    if s.absent k then none
    else
      let b := if r.ty.block then s.lastBlob k else leBytes r.ty.size (s.lastNum k)
      if b.isEmpty then none else some ⟨k, b⟩

/-- Every persistent entry's last accepted value (02 R59). -/
def State.snapshot (s : State) : List SavedEntry := persistentKeys.filterMap s.savedEntry

/-- The newer valid image (02 R61). -/
def State.newestImage (s : State) : Option Image :=
  let a := s.mram.imageA
  let b := s.mram.imageB
  if a.valid && (!b.valid || b.gen ≤ a.gen) then some a else if b.valid then some b else none

/-- Whether a save writes image B: the image that is invalid, or the one of lower generation (02 R59). -/
def State.savesB (s : State) : Bool :=
  let a := s.mram.imageA
  let b := s.mram.imageB
  a.valid && (!b.valid || b.gen ≤ a.gen)

/-- The image a save writes, replaced. -/
def State.setImage (s : State) (isB : Bool) (f : Image → Image) : State :=
  { s with mram := if isB then { s.mram with imageB := f s.mram.imageB } else { s.mram with imageA := f s.mram.imageA } }

/-! ## Saving (02 R59, R60) -/

/-- The checks of a `SaveCommand` (02 R59). -/
def State.saveFails (s : State) (_ : Slot) : List Nat :=
  failIf s.dict.saving.isSome resBusy ++ failIf (areaLimit < areaBytes s.snapshot) resCapacity

/-- A save begins: the snapshot is taken, and the image to be written no longer holds a valid one (02 R59, R60). -/
def State.saveEffect (s : State) : State :=
  let gen := ((s.newestImage.map (·.gen)).getD 0 + 1) % pow2 32
  let s := { s with dict := { s.dict with saving := some (s.snapshot, gen) } }
  (s.setImage s.savesB fun i => { i with valid := false }).setNum Key.saveStatus 1

/-- SAVE_COMMAND (02 R59). -/
def execSaveCommand (src : Source) (value : Slot) (s : State) : Host.Outcome State Fault Refusal :=
  .next (s.command src Key.saveCommand value s.saveFails fun _ s => s.saveEffect)

/-- A save ends: journalled with its generation, and MRAM_FAIL where it failed (02 R60, R68; 13 R392). -/
def State.endSave (s : State) (ok : Bool) : State :=
  match s.dict.saving with
  | none => s
  | some (es, gen) =>
    let image : Image := { valid := true, gen := gen, version := s.num Key.dictVersion, bytes := areaBytes es, entries := es }
    let s := { s with dict := { s.dict with saving := none } }
    let s := if ok then s.setImage s.savesB fun _ => image else s
    ((s.setNum Key.saveStatus (if ok then 2 else 3)).raiseHm 74).journalAdd 0 0xA00 (BitVec.ofNat 64 gen) (if ok then resOk else resMramFail)

/-- SAVE_COMPLETE (02 R59, R60; 15 R439): the image is written, or a word at MRAM offset `at_` failed. -/
def execSaveComplete (writeOk : Bool) (at_ : Nat) (s : State) : Host.Outcome State Fault Refusal :=
  if s.dict.saving.isNone then .next s
  else .next ((if writeOk then s else s.mramWriteFail at_).endSave writeOk)

/-! ## Restoring (02 R61) -/

/-- Whether a key names a persistent entry. -/
def keyPersists (k : Nat) : Bool := match keyRow k with
  | none => false
  | some r => r.persist

/-- The default of a byte block put in effect. -/
def State.clearBlob (s : State) (k : Nat) : State :=
  let b := s.blobDefault k
  let changed : Bool := s.blob k ≠ b
  let s := s.beforeBlob k b
  { s with dict := { s.dict with blobs := tblDel s.dict.blobs k } }.takeBlob k changed

/-- Every persistent entry at its default, nothing of it pending (02 R35, R61). -/
def State.defaults (s : State) : State :=
  let ks := (s.dict.vals.map (·.1)).filter keyPersists
  let bs := (s.dict.blobs.map (·.1)).filter keyPersists
  let s := { s with dict := { s.dict with
    pend := s.dict.pend.filter fun (e : Nat × Slot) => !keyPersists e.1
    pendBlobs := s.dict.pendBlobs.filter fun (e : Nat × List Byte) => !keyPersists e.1 } }
  let s := ks.foldl (fun s k => s.putVal k (keyDefault k)) s
  bs.foldl State.clearBlob s

/-- One entry of an image put in effect; one that the dictionary does not hold, or of a wrong length, is skipped (02 R58). -/
def State.restoreEntry (s : State) (e : SavedEntry) : State :=
  match keyRow e.key with
  | none => s
  | some r =>
    if s.absent e.key || !r.persist then s
    else if r.ty.block then (if r.range.lengthOk e.bytes.length then s.putBlob e.key e.bytes else s)
    else if e.bytes.length ≠ r.ty.size then s
    else
      let n := ofLe e.bytes
      s.putVal e.key (if r.ty.signed then BitVec.ofInt 64 (ofTwos (8 * r.ty.size) n) else BitVec.ofNat 64 n)

/-- An image restored: one event, and no entry of the journal per value (02 R61, R68). -/
def State.restoreImage (s : State) (i : Image) : State :=
  (i.entries.foldl State.restoreEntry s.defaults).journalEvent 0xA01 i.gen

/-- Whether a key names a correction table (05 R165). -/
def corrKey (k : Nat) : Bool := 0x3800 ≤ k / 256 && k / 256 < 0x3900 && k / 256 % 16 < 3

/-- Every correction table at the identity, nothing of one pending (05 R165). -/
def State.clearCorr (s : State) : State :=
  let ks := (s.dict.blobs.map (·.1)).filter corrKey
  let s := { s with dict := { s.dict with pendBlobs := s.dict.pendBlobs.filter fun (e : Nat × List Byte) => !corrKey e.1 } }
  ks.foldl State.clearBlob s

/-- The defaults restored; the correction tables, which no image holds, are the identity again (02 R61, R68; 05 R165). -/
def State.restoreDefaults (s : State) : State := s.defaults.clearCorr.journalEvent 0xA02 0

/-- The newer valid image restored, or the defaults with a warning (02 R61). -/
def State.restoreNewest (s : State) : State :=
  match s.newestImage with
  | some i => s.restoreImage i
  | none => s.restoreDefaults.trouble 0x0003 noUnit 1 0

/-- The checks of a `RestoreCommand`: READY only, and no save in progress (02 R36, R61). -/
def State.restoreFails (s : State) (_ : Slot) : List Nat :=
  failIf (s.life.state ≠ .ready) resWrongState ++ failIf s.dict.saving.isSome resBusy

/-- The effect of a `RestoreCommand` (02 R61; 13 R392). -/
def State.restoreEffect (s : State) (v : Slot) : State :=
  (if v = 1 then s.restoreNewest else s.restoreDefaults).raiseHm 74

/-- RESTORE_IMAGE (02 R61): a write of 1 to `RestoreCommand`. -/
def execRestoreImage (src : Source) (s : State) : Host.Outcome State Fault Refusal :=
  .next (s.command src Key.restoreCommand 1 s.restoreFails fun v s => s.restoreEffect v)

/-- RESTORE_DEFAULTS (02 R61): a write of 2 to `RestoreCommand`. -/
def execRestoreDefaults (src : Source) (s : State) : Host.Outcome State Fault Refusal :=
  .next (s.command src Key.restoreCommand 2 s.restoreFails fun v s => s.restoreEffect v)

end Sys2Proof.Machine
end

