-- ==== Sys2Proof/Machine/Lifecycle.lean ====
section
/-! DEFINITION. The device states and their transitions, apart from state requests: boot, INIT, entry to READY and RUN, the
drain, FAULT, SAFE, power failure (01 R24–R30; 12 R366–R368; 15 R433–R437, R448, R454). -/

namespace Sys2Proof.Machine

open Sys2Proof

/-! ## Transitions (01 R24, 02 R68) -/

/-- The life cycle changed. -/
def State.modLife (s : State) (f : Life → Life) : State := { s with life := f s.life }

/-- The pins changed. -/
def State.modPins (s : State) (f : Pins → Pins) : State := { s with pins := f s.pins }

/-- A state is entered: FAULT and SAFE release their pin as they are left; the transition is journalled, recorded, signalled
and notified (01 R24; 02 R68; 11 R337; 13 R392, R409; 15 R442, R454). -/
def State.enter (s : State) (d : DevState) : State :=
  let prev := s.life.state
  let s := s.modLife fun l => { l with state := d, draining := false, readyRequested := false }
  let s := s.modPins fun p => { p with
    faultN := p.faultN || prev = .fault, thermN := p.thermN || prev = .safe }
  let s := s.setNum Key.runSubState s.subState
  let s := s.journalEvent (0x100 + d.code) prev.code
  let s := if s.life.logsOn then s.stage 0x0101 noUnit (d.code + 256 * prev.code) else s
  (s.raiseHm 69).notifySessions 0 0x0010 (s.stateNotice prev.code)

/-! ## Leaving RUN (02 R35; 04 R136) -/

/-- The camera lines of port n on their way through the pixel path are discarded, and their credits returned. -/
def State.emptyPort (s : State) (n : Nat) : State :=
  let full := (s.port n).buffer.filter (·.payload.isSome)
  let s := full.foldl (fun s b => s.freeCredits n (creditsOf b.length) true) s
  let taken : Bool := match (s.port n).rx with
    | none => false
    | some r => r.matched.isSome
  let s := if taken then s.discardPacket n else s
  s.modPort n fun p => { p with
    buffer := [], held := [], closed := [], taken := [], output := [], missing := [], focus := [], prevLuma := none, lastPos := none }

/-- RUN has ended: no strip is left, and pending values take effect unless `ShadowHold` holds them (02 R35). -/
def State.endRun (s : State) : State :=
  let s := s.forN s.portCount State.emptyPort
  let s := { s with sched := { s.sched with strips := [], deferredAt := none, deferredForced := false } }
  (if s.flag Key.shadowHold then s else s.applyPending).returnPipelines

/-- A state outside RUN is entered, from RUN or not. -/
def State.leaveFor (s : State) (d : DevState) : State :=
  let run := s.inRun
  let s := s.enter d
  if run then s.endRun else s

/-! ## The restore in INIT (02 R61; 10 R293; 12 R367) -/

/-- The dictionary is restored in INIT; the exclusion made on the way stays (02 R61; 12 R367). -/
def State.restoreInit (s : State) : State :=
  let keep := s.num Key.g6ExcludeMask
  let s := s.restoreNewest
  s.setNum Key.g6ExcludeMask (s.num Key.g6ExcludeMask ||| keep)

/-- The dictionary is served, and the outputs leave their reset state (10 R293; 14 R424). -/
def State.serve (s : State) : State := s.modLife fun l => { l with dictServed := !s.power.restarting.contains 0, trigReset := false }

/-- Leaving the first INIT early: the dictionary has been restored in it, and is served (01 R24; 15 R436). -/
def State.ensureServed (s : State) : State :=
  if s.life.state = .init && !s.life.dictServed then s.restoreInit.serve else s

/-! ## READY (01 R24, 03 R81, 10 R289, 15 R435) -/

/-- The anti-rollback counter is raised to the running image's value (15 R435). -/
def State.raiseRollback (s : State) : State :=
  let v := s.life.imgRollback
  if v ≤ s.mram.antiRollback then s
  else { s with mram := { s.mram with antiRollback := v } }.stage 0x0103 noUnit v

/-- READY is entered. -/
def State.enterReady (s : State) : State :=
  let s := s.leaveFor .ready
  let s := { s with harbour := { s.harbour with fwRecovery := false } }
  (s.restartCompares.raiseRollback).selectOp s.idlePoint

/-! ## RUN (01 R24, R26; 02 R35; 03 R82) -/

/-- The ports and pipelines as RUN begins: ledgers and what is kept of past lines are clear, samples count from 0 (04 R131; 05
R167). -/
def State.runPorts (s : State) : State :=
  let s := s.forN 8 fun s p => s.setNum (Key.pipeSamples p) 0
  s.forN s.portCount fun s n => s.modPort n fun p => { p with
    ledger := [], held := [], closed := [], taken := [], output := [], missing := [], focus := [], prevLuma := none, lastPos := none }

/-- Causeway, Reef, pieces and Atoll as RUN begins; Reef warms up on an invalid column model (06 R192; 07 R205; 08 R237). -/
def State.runBlocks (s : State) : State :=
  let w := s.wNow
  let warm := if s.num Key.refModel = 0 && !s.flag Key.colModelValid then s.num Key.learnLines else 0
  let r := s.reef
  let reef : Reef := { columns := r.columns, loaded := r.loaded, warmLeft := warm, goldenLost := r.goldenLost }
  { s with cause := {}, reef := reef, pieces := [], pieceNext := 0, atoll := { t0 := w, oldT0 := w } }.setNum Key.phaseT0 w

/-- The streams as RUN begins: their counts start again (01 R26). -/
def State.runStreams (s : State) : State :=
  let s := { s with streams := { s.streams with skipped := [], sxNext := [], chips := [], frameSeq := 0 } }
  s.forN 8 fun s e => if (s.engine e).unitSeq = 0 then s else s.modEngine e fun x => { x with unitSeq := 0 }

/-- The schedule as RUN begins. -/
def State.runSchedule (s : State) : State :=
  let s := { s with sched := { s.sched with
    strips := [], history := [], lastTick := s.now, deferredAt := none, deferredForced := false, arrived := 0, deadlines := []
    cut := []
    checks := [] } }
  let s := { s with power := { s.power with sinceTick := 0, staleTick := s.monitorsHeld } }
  (s.setNum Key.lag 0).setNum Key.shedMask 0

/-- The gains, as RUN begins: those of the integrator (06 R190, R191). -/
def State.runGains (s : State) : State := s.forN s.portCount fun s n => s.setGain n (s.num (Key.portGain n))

/-- RUN is entered: strip and world line 0, the time and the web's count latched, pending values in effect, strip 0 open at
the operating point of an entry without predictions (01 R24, R26; 02 R35; 03 R82; 10 R285, R289). -/
def State.enterRun (s : State) : State :=
  let before := s.placements
  let s := { s with harbour := { s.harbour with fwRecovery := false } }
  let s := ((s.setNum Key.runEntryTime s.wNow).setNum Key.stripIndex 0).runSchedule
  let s := s.modLife fun l => { l with resumePending := false, faultFromRun := false }
  let s := s.enter .run
  let s := if s.flag Key.shadowHold then s else s.applyPending
  let s := s.movePorts before
  let s := (s.runPorts.runBlocks.runStreams.runGains).setNum Key.webOrigin (s.num (Key.encCount (s.num Key.webEncoder)))
  let op := min (max 5 (s.num Key.opMin)) s.opLimit
  let ran := s.num Key.opNow
  let s := ((s.restartCompares.restartGuards).bump (Key.opTickCount op)).selectOp op
  (s.openStrip 0 ran false []).modStrip 0 fun x => { x with opSel := op }

/-! ## The drain (01 R28) -/

/-- The last strip of a drain, once all its work is done. -/
def State.drainedStrip (s : State) : Option Strip :=
  match s.sched.strips with
  | [x] => if s.inRun && s.life.draining && s.stripDone x && s.compressionDone x.index then some x else none
  | _ => none

/-- Open regions and Atoll rows close at the line after the last processed, in strip k (01 R28; 07 R212; 08 R246). -/
def State.closeRun (s : State) (k : Nat) : State :=
  let s := (s.noteOpen (k + 1)).forceClose s.reef.nextLine false (some k)
  let s := s.atoll.grids.foldl (fun s g => s.cutGrid g s.atoll.nextLine (some k)) s
  s.flushUninspected.settlePieces.releaseAll k

/-- RUN_DRAIN_COMPLETE (01 R28): the last strip is complete; its summary follows the records that close with it. -/
def execRunDrainComplete (s : State) : Host.Outcome State Fault Refusal :=
  match s.drainedStrip with
  | none => .next s
  | some x =>
    let s := s.settleGains.closeRun x.index
    .next ((s.summarise (s.strip x.index) false).enterReady)

/-! ## Stopping (10 R293; 11 R345) -/

/-- Every trigger output at its safe level, every marker and carrier commanded off (10 R293; 11 R345). -/
def State.stopOutputs (s : State) : State := (s.forN 32 State.clearOutput).stopNodes

/-- The pixel path stops: requests of the chip cutter are given up. -/
def State.stopPath (s : State) : State := { s with streams := { s.streams with chips := [] } }

/-! ## FAULT (01 R24; 03 R90; 12 R366; 15 R454) -/

/-- The host-bound units that wait in GDDR6 are discarded and counted (15 R454, 09 R265). -/
def State.discardStaged (s : State) : State :=
  s.forN 8 fun s st =>
    let n := (s.arrivals st).length + (s.shareHost st).length
    if n = 0 then s else ((s.setArrivals st []).setShareHost st []).add (Key.unitsDiscarded st) n

/-- The strip being formed ends as FAULT is entered: at the line after the last formed (03 R90). -/
def State.cutForming (s : State) : State :=
  let cut := fun (x : Strip) => match x.lineEnd with
    | some _ => x
    | none => { x with
        lineEnd := some (max x.lineFirst s.cause.nextLine), closedAt := s.now, energyNj := s.power.sinceTick
        energyStale := s.power.staleTick, samples := s.sched.arrived, opSel := s.free % 16 }
  { s.stepFree with sched := { s.sched with strips := s.sched.strips.map cut } }

/-- Every strip not summarised is, in order; `open_` is the one being formed (03 R90, 15 R454). -/
def State.cutStrips (s : State) : State :=
  let xs := s.sched.strips
  let complete := (xs.filter fun x => s.stripDone x && s.compressionDone x.index).map (·.index)
  match xs.getLast? with
  | none => s
  | some last =>
    let s := (s.cutForming.noteOpen (last.index + 1)).forceClose s.reef.nextLine true (some last.index)
    let s := s.flushUninspected
    xs.foldl (fun s x =>
      let s := if x.index = last.index then s.releaseAll x.index else s.release
      s.summarise (s.strip x.index) (!complete.contains x.index)) s

/-- The pixel path of a RUN that fails: its strips are summarised, Atoll's grids end. -/
def State.cutRun (s : State) : State :=
  let s := s.discardStaged.cutStrips
  s.modAtoll fun a => { a with grids := [] }

/-- What is latched as FAULT is entered (15 R454). -/
def State.latchFault (s : State) (cause : Nat) : State :=
  let count := s.num (Key.encCount (s.num Key.webEncoder))
  ((s.setNum Key.faultEncCount count).setNum Key.faultTime s.wNow).setNum Key.faultCause cause

/-- FAULT is entered from INIT, READY or RUN; `recoverable` where re-initialisation can help (01 R24; 15 R454; 13 R401). -/
def State.enterFault (s : State) (cause unit : Nat) (recoverable : Bool) : State :=
  if s.life.state ≠ .init && s.life.state ≠ .ready && s.life.state ≠ .run then s
  else
    let run := s.inRun
    let s := s.ensureServed
    let marks := s.net.marks.length
    let s := s.latchFault cause
    let s := if run then s.cutRun else s
    let s := s.modLife fun l => { l with faultFromRun := run, recoverable := recoverable, resumePending := false }
    let s := { s with harbour := { s.harbour with fwRecovery := true } }
    let s := (s.leaveFor .fault).modPins fun p => { p with faultN := false }
    (s.stopOutputs.stopPath.trouble 0x00A0 unit 3 (cause + marks * pow2 32)).startFlush

/-- A GDDR6 device is lost, which leads to FAULT (12 R366). The codes of its causes are not given: a free value. -/
def State.deviceLost (s : State) (j : Nat) : State :=
  let c := s.free % 256
  (s.stepFree.loseDevice j c).enterFault 0x0031 j true

/-- FAULT_ENTRY (15 R454): a failure that stops the pixel path, by the trouble code of its cause. -/
def execFaultEntry (cause : BitVec 16) (unit : BitVec 16) (s : State) : Host.Outcome State Fault Refusal :=
  if cause = 0x0031 && unit.toNat < 12 then
    if s.life.state = .init || s.life.state = .ready || s.life.state = .run then .next (s.deviceLost unit.toNat) else .next s
  else .next (s.enterFault cause.toNat unit.toNat false)

/-! ## SAFE (01 R24; 15 R448) -/

/-- SAFE is entered: outputs at their safe levels, nodes commanded off, the pixel path stopped. -/
def State.enterSafe (s : State) : State :=
  let s := s.ensureServed.modLife fun l => { l with resumePending := false, faultFromRun := false, recoverable := false }
  (s.leaveFor .safe).stopOutputs.stopPath

/-- Whether firmware runs: after BOOT, and not in the FAULT of R25. -/
def State.firmwareRuns (s : State) : Bool :=
  s.life.state ≠ .off && s.life.state ≠ .boot && !s.life.bootFault

/-- Lanes and GDDR6 are stopped (15 R448). -/
def State.stopLanes (s : State) : State :=
  let s := s.forN s.portCount State.portOff
  s.modLife fun l => { l with lanesStopped := true, g6Stopped := true }

/-- An upload of a recorder block ends with SEG_ABORT: the power-fail flush does not wait for it (15 R446). -/
def SourceState.abortRecorder (x : SourceState) : SourceState :=
  match x.transfer with
  | some t => if !t.download && t.target / 256 = 0x8C11 then { x with transfer := none, segStatus := 3, segResult := resSegAbort } else x
  | none => x

/-- Every upload of a recorder block ends. -/
def State.abortRecorder (s : State) : State :=
  { s with dict := { s.dict with sources := s.dict.sources.map fun (e : Nat × SourceState) => (e.1, e.2.abortRecorder) } }

/-- A power failure is accepted (15 R448, R444; 02 R60). -/
def State.acceptPfail (s : State) : State :=
  let prev := s.life.state.code
  let s := { s with mram := { s.mram with pfails := s.mram.pfails + 1 } }.modPins fun p => { p with pfailN := false }
  let s := if s.life.state = .safe then s.stopOutputs else s.enterSafe
  let s := ((s.endSave false).abortCal).abortTest.abortRecorder
  let s := (s.stopLanes.trouble 0x0072 noUnit 3 prev)
  if s.logs.flushing.isSome then s
  else
    let s := s.stage 0x0102 noUnit (s.logs.staged.length + 1)
    { s with logs := { s.logs with pfailFlush := true } }.startFlush

/-- PFAIL (15 R448; 01 R24): PFAIL_N has been low for 1 µs. -/
def execPfail (s : State) : Host.Outcome State Fault Refusal :=
  if s.firmwareRuns then .next s.acceptPfail else .next (s.modPins fun p => { p with pfailN := false })

/-! ## INIT (01 R22, R24; 12 R367, R368; 15 R436) -/

/-- INIT begins. -/
def State.beginInit (s : State) (resume : Bool) : State :=
  let s := s.modLife fun l => { l with resumePending := resume, recoverable := false, lostDevice := none, initStart := s.now }
  s.enter .init

/-- The lost device joins the excluded ones, as source 0x00; without room for that the FAULT stays (12 R367). -/
def State.excludeLost (s : State) : State × Bool :=
  match s.life.lostDevice with
  | none => (s, true)
  | some j =>
    let mask := setBit (s.num Key.g6ExcludeMask) j true
    if (activeChannels mask).length < 22 then
      ((s.modLife fun l => { l with recoverable := false }).trouble 0x0032 noUnit 3 (s.num Key.g6ExcludeMask), false)
    else
      let s := s.journalStrip 0 Key.g6ExcludeMask (BitVec.ofNat 64 mask) 0 none
      (s.setNum Key.g6ExcludeMask mask, true)

/-- Re-initialisation from FAULT or SAFE (01 R24; 12 R367). -/
def State.reinit (s : State) (resume : Bool) : State :=
  if s.life.state = .fault then
    let r := s.excludeLost
    if r.2 then r.1.beginInit resume else r.1
  else s.beginInit false

/-- Whether automatic resumption waits to act (01 R24; 12 R367). -/
def State.resumeWaits (s : State) : Bool :=
  s.life.state = .fault && s.life.recoverable && s.flag Key.autoResume && s.life.lostDevice.isSome

/-- AUTO_RESUME (12 R367; 01 R24). -/
def execAutoResume (s : State) : Host.Outcome State Fault Refusal :=
  if s.resumeWaits then .next (s.reinit s.life.faultFromRun) else .next s

/-- The regions of the integrator that entries place, by base and size: lookback ring, reference store, staging (01 R21). -/
def regionKeys : List (Nat × Nat) :=
  [(Key.ringBase, Key.ringSize), (Key.refStoreBase, Key.refStoreSize), (Key.stagingBase, Key.stagingSize)]

/-- The first region that does not fit below the system region, by its base entry (01 R22). -/
def State.misfit (s : State) : Option Nat :=
  ((sortBy (fun (e : Nat × Nat) => s.num e.1) regionKeys).find? fun e =>
    s.num e.2 ≠ 0 && s.systemBase < s.num e.1 + s.num e.2).map (·.1)

/-- The blocks as INIT leaves them: trims, memory, reference data lost, regulators, ports linking up (15 R436, R437; 12 R368;
13 R405; 04 R110). -/
def State.initBlocks (s : State) : State :=
  let s := s.loadTrims.serve.modLife fun l => { l with lanesStopped := false, bootCause := 0 }
  let s := s.initMemory.clearColumns
  let s := s.modReef fun x => { x with goldenLost := true }
  (s.initRegulators).forN s.portCount State.portSettle

/-- INIT ends in READY, or with a resumption pending in RUN; with regions that an exclusion leaves no room for, in FAULT (01
R22, R24). -/
def State.endInit (s : State) : State :=
  let resume := s.life.resumePending
  let s := (if resume then s else s.restoreInit).initBlocks
  let s := s.setNum Key.initTime ((s.now - s.life.initStart) / 1000)
  match (if s.num Key.g6ExcludeMask = 0 then none else s.misfit) with
  | some k => (s.trouble 0x0007 noUnit 2 k).enterFault 0x0007 noUnit false
  | none => if resume then s.enterRun else s.enterReady

/-- INIT_COMPLETE (01 R24). -/
def execInitComplete (s : State) : Host.Outcome State Fault Refusal :=
  if s.life.state = .init then .next s.endInit else .next s

/-- INIT fails: its cause stands in the trouble log (01 R24; 12 R366; 14 R420; 15 R441). -/
def State.failInit (s : State) (unit step : Nat) (device : Option Nat) : State :=
  let s := s.modLife fun l => { l with bootCause := 5 }
  let s := s.trouble 0x0002 unit 3 step
  match device with
  | some j => s.deviceLost j
  | none => s.enterFault 0x0002 unit false

/-- INIT_FAIL (01 R24). -/
def execInitFail (unit step : Nat) (device : Option (Fin 12)) (s : State) : Host.Outcome State Fault Refusal :=
  if s.life.state = .init then .next (s.failInit unit step (device.map (·.val))) else .next s

/-! ## Boot (15 R433–R436; 01 R25) -/

/-- Everything volatile is reset; MRAM, the part, the pins and the waiting commands stay (15 R437). -/
def State.resetAll (s : State) : State :=
  { State.reset with pending := s.pending, part := s.part, mram := s.mram, sent := s.sent, freeCount := s.freeCount
                     pins := { s.pins with faultN := true, thermN := true, qspiHighZ := false } }

/-- The boot is counted, and its epoch raised (15 R436, R437; 02 R63). -/
def State.countBoot (s : State) : State :=
  let m := s.mram
  let m := if s.pins.powerOnFlag then { m with powerCycles := m.powerCycles + 1 } else { m with resets := m.resets + 1 }
  { s with mram := { m with epoch := m.epoch + 1 }, pins := { s.pins with powerOnFlag := false } }

/-- The boot ROM starts: `BOOT_MODE` is sampled and selects the slot, or the programming hold (15 R433). -/
def State.boot (s : State) (mode : Nat) : State :=
  let s := s.countBoot
  let hold : Bool := mode = 3
  let s := s.modLife fun l => { l with
    state := .boot, bootMode := mode, slotB := mode = 1, programming := hold, bootStart := s.now, opStart := s.mram.opSeconds }
  if hold then s.modPins fun p => { p with faultN := false, qspiHighZ := true } else s

/-- SUPPLIES_VALID (01 R24): the supplies come up, and with SYS_RESET_N high the boot ROM starts. -/
def execSuppliesValid (resetHigh : Bool) (bootMode : BitVec 3) (s : State) : Host.Outcome State Fault Refusal :=
  if s.pins.suppliesValid then .next s
  else
    let s := s.modPins fun p => { p with suppliesValid := true, powerOnFlag := true, sysResetN := resetHigh }
    .next (if resetHigh && s.life.state = .off then s.boot bootMode.toNat else s)

/-- SUPPLY_LOSS (01 R24; 15 R437). -/
def execSupplyLoss (s : State) : Host.Outcome State Fault Refusal :=
  .next (s.resetAll.modPins fun p => { p with suppliesValid := false, powerOnFlag := false })

/-- SYS_RESET_ASSERT (15 R437; 01 R24). -/
def execSysResetAssert (s : State) : Host.Outcome State Fault Refusal :=
  .next (s.resetAll.modPins fun p => { p with sysResetN := false })

/-- SYS_RESET_RELEASE (15 R433). -/
def execSysResetRelease (bootMode : BitVec 3) (s : State) : Host.Outcome State Fault Refusal :=
  if s.life.state ≠ .off then .next s
  else
    let s := s.modPins fun p => { p with sysResetN := true }
    .next (if s.pins.suppliesValid then s.boot bootMode.toNat else s)

/-- The `BOOT_CAUSE` of a slot as read; 0 where it passes verification (14 R420; 15 R434). -/
def State.slotCause (s : State) (readError : Bool) (header body : List Byte) : Nat :=
  let length := fieldAt header 12 4
  if readError then 4
  else if fieldAt header 0 4 ≠ 0x52504C31 || 2096896 < length then 1
  else if body.length < length || sha256 (body.take length) ≠ bytesAt header 16 32
      || !Config.signatureOk (header.take 48) (bytesAt header 48 64) then 2
  else if fieldAt header 8 4 < s.mram.antiRollback then 3
  else 0

/-- The firmware starts in INIT: the journal, the trouble log and the recorder take their boot entries (15 R436). -/
def State.startFirmware (s : State) (header : List Byte) : State :=
  let fw := fieldAt header 4 4
  let s := s.modLife fun l => { l with imgVersion := fw, imgRollback := fieldAt header 8 4 }
  let s := (s.setNum Key.firmwareVersion fw).setNum Key.bootTime ((s.now - s.life.bootStart) / 1000)
  let s := (s.beginInit false).modLife fun l => { l with logsOn := true }
  let detail := s.life.bootMode * 256 + fw * pow2 32
  ((s.journalEvent 0x300 s.mram.epoch).trouble 0x0001 noUnit 0 detail).stage 0x0100 noUnit detail

/-- The FAULT of R25: no slot verifies; only the boot ROM acts (01 R25). -/
def State.bootFail (s : State) (cause : Nat) : State :=
  let s := s.modLife fun l => { l with state := .fault, bootFault := true, bootCause := cause }
  (s.modPins fun p => { p with faultN := false }).send .console [BitVec.ofNat 8 cause]

/-- SLOT_VERIFY_COMPLETE (15 R433, R434). -/
def execSlotVerifyComplete (readError : Bool) (header body : List Byte) (s : State) : Host.Outcome State Fault Refusal :=
  if s.life.state ≠ .boot || s.life.programming then .next s
  else
    let cause := s.slotCause readError header body
    if cause = 0 then .next (s.startFirmware header)
    else if s.life.slotTried = 0 then .next (s.modLife fun l => { l with slotTried := 1, slotB := !l.slotB })
    else .next (s.bootFail cause)

end Sys2Proof.Machine
end

