-- ==== Sys2Proof/Machine/Pcie.lean ====
section
/-! DEFINITION. What the PCIe side resets and detaches (14 R430–R432). -/

namespace Sys2Proof.Machine

open Sys2Proof

/-- Whether engine e's job or unit uses a PCIe address: its source, its buffer or its destination (14 R431). -/
def State.engineUsesHost (s : State) (e : Nat) : Bool :=
  let x := s.engine e
  x.state ≠ 0 && ((x.hasBuf && busAddr x.bufAddr)
    || (match x.work with
        | none => false
        | some w => w.hostSrc || (0 < w.dstLen && busAddr w.dstAddr)))

/-- Work with a PCIe address ends (14 R431): Ferry channels with BUS_ERROR, compression under R274. -/
def State.endHostWork (s : State) : State :=
  (s.endFerryHost).forN 8 fun s e => s.when (s.engineUsesHost e) fun s => s.endUnit e (s.cutShort e 6 5)

/-- The PCIe configuration and the host path reset (14 R431, 13 R402). -/
def State.resetPcie (s : State) : State := ((s.resetPcieConfig.endHostWork).resetHostPath).serveRings

/-- PERST (14 R431): PERST_N, a hot reset or the loss of the link; the link is down until it retrains. -/
def execPerst (kind : LinkReset) (s : State) : Host.Outcome State Fault Refusal :=
  match kind with
  | .perstN | .hotReset | .linkDown =>
    let s := s.when s.pcie.linkUp fun s => s.trouble 0x0090 noUnit 0 0
    .next ({ s with pcie := { s.pcie with linkUp := false } }).resetPcie

/-- FLR (14 R431): the link stays up. -/
def execFlr (s : State) : Host.Outcome State Fault Refusal := .next s.resetPcie

/-- D3HOT_ENTRY (14 R428, R431): the configuration is kept, the host targets sleep. -/
def execD3hotEntry (pmeEn : Bool) (s : State) : Host.Outcome State Fault Refusal :=
  let s := { s with pcie := { s.pcie with d3hot := true, pmeEn := pmeEn } }
  .next (s.endHostWork.settleHm).serveRings

/-- BUS_MASTER_ENABLE_WRITE (14 R430): 0 detaches the host path. -/
def execBusMasterEnableWrite (value : Bool) (s : State) : Host.Outcome State Fault Refusal :=
  .next (({ s with pcie := { s.pcie with busMaster := value } }).settleHm).serveRings

/-- HM_HOST_ATTACH (14 R432): a write of `HmHostAttach`; 1 ends the host path's recovery window. -/
def execHmHostAttach (src : Source) (value : Slot) (s : State) : Host.Outcome State Fault Refusal :=
  .next (s.command src Key.hmHostAttach value (fun _ => []) fun v s => (s.setVal Key.hmHostAttach v).attachEffect)

end Sys2Proof.Machine
end

