-- ==== Sys2Proof/Machine/Conditions.lean ====
section
/-! DEFINITION. Conditions the processor watches: temperature, regulators, control cores, lane references, GDDR6 accesses and
devices (13 R390, R405, R408, R409; 15 R456; 12 R353–R366). -/

namespace Sys2Proof.Machine

open Sys2Proof

/-! ## Temperature (13 R409) -/

/-- The hottest sensor: its number and its reading in s8.8 °C, the lowest number among equals (13 R409). -/
def State.hottest (s : State) : Nat × Int :=
  (List.range 16).foldl (fun (b : Nat × Int) i => if b.2 < s.temp i then (i, s.temp i) else b) (0, s.temp 0)

/-- The converted readings: a sensor under calibration keeps its last value (13 R409, 15 R451). -/
def State.takeTemps (s : State) (temps : List Int) : State :=
  let s := s.forN 16 fun s i =>
    if bitAt (s.num Key.thermStaleMask) i then s else s.setInt (Key.thermSensor i) (satS 16 (temps.getD i 0))
  s.setInt Key.thermMax s.hottest.2

/-- The trouble log entry of a threshold: the hottest sensor and its reading (15 R441). -/
def State.thermEntry (s : State) (code sev : Nat) : State :=
  s.trouble code s.hottest.1 sev (toTwos 64 s.hottest.2)

/-- The warning threshold (13 R409). -/
def State.thermWarning (s : State) : State :=
  if 95 * 256 ≤ s.hottest.2 && !s.power.warnOn then
    (({ s with power := { s.power with warnOn := true } }).bump Key.thermWarnCount).thermEntry 0x0060 1
  else if s.allBelow 93 then { s with power := { s.power with warnOn := false } }
  else s

/-- A running point above OP4, or a change to one, is lowered to OP4 (13 R409). -/
def State.lowerToLimit (s : State) : State :=
  let target := match s.sched.opNext with
    | some p => p
    | none => match s.sched.opChange with
      | some c => c.target
      | none => s.num Key.opNow
  if 4 < target then s.selectOp 4 else s

/-- The point of INIT and READY selected anew; elsewhere nothing (03 R81, 13 R409). -/
def State.settlePoint (s : State) : State :=
  if s.life.state = .init || s.life.state = .ready then s.selectOp s.idlePoint else s

/-- The limit threshold (13 R409): in RUN it lifts only at a tick. -/
def State.thermLimiting (s : State) : State :=
  if 100 * 256 ≤ s.hottest.2 && !s.sched.thermLimit then
    let s := { s with sched := { s.sched with thermLimit := true }, power := { s.power with limitSince := s.now } }
    ((s.bump Key.thermLimitCount).thermEntry 0x0061 2).lowerToLimit
  else if s.sched.thermLimit && s.allBelow 97 && !s.inRun then s.endLimit.settlePoint
  else s.accrueLimit

/-- The shutdown threshold (13 R409, 01 R24): THERM_N is asserted and SAFE entered. -/
def State.thermShutdown (s : State) : State :=
  let d := s.life.state
  if 110 * 256 ≤ s.hottest.2 && (d = .init || d = .ready || d = .run || d = .fault) then
    (s.thermEntry 0x0062 3).enterSafe.modPins fun p => { p with thermN := false }
  else s

/-- A sensor outside the bank in work at 100 °C ends the bank; banks that waited go on once it is cool (15 R451). -/
def State.thermBanks (s : State) : State :=
  let s := match s.maint.bank with
    | some b =>
      let others := (List.range 16).filter fun i => !(sensorsOf b).contains i
      if (b = 4 || b = 5) && others.any fun i => 100 * 256 ≤ s.temp i then s.abortBank.nextBank else s
    | none => s
  s.resumeBanks

/-- THERM_CONVERSION (13 R409): the thresholds are T2's to evaluate, and wait while it restarts (13 R390). -/
def execThermConversion (temps : List Int) (s : State) : Host.Outcome State Fault Refusal :=
  if !s.firmwareRuns then .next s
  else
    let s := s.takeTemps temps
    if s.power.restarting.contains 2 then .next s
    else .next (s.thermWarning.thermLimiting.thermBanks.thermShutdown.settleHm)

/-! ## Regulators (13 R405, R408) -/

/-- STATUS_WORD's fault bits: VOUT, VOUT_OV, IOUT_OC, TEMPERATURE (13 R408; PMBus' own layout, PRESUMED, log entry 33). -/
def regFault (w : Nat) : Bool := bitAt w 15 || bitAt w 5 || bitAt w 4 || bitAt w 2

/-- STATUS_WORD's other conditions, taken as warnings (13 R408; PRESUMED, log entry 33). -/
def regWarning (w : Nat) : Bool := [0, 1, 3, 8, 9, 10, 12, 13, 14].any fun i => bitAt w i

/-- A regulator's status as read: logged, and a fault bit leads to FAULT (13 R408). -/
def State.regStatus (s : State) (r w : Nat) : State :=
  let s := s.setNum (Key.regStatusWord r) w
  if regFault w then (s.trouble 0x0063 r 2 w).enterFault 0x0063 r false
  else s.trouble 0x0063 r 1 w

/-- The role-1 regulator answers no more: the ceiling is the point running now (13 R408). -/
def State.coreLost (s : State) (r : Nat) : State :=
  if s.flag Key.pmbCoreLost then s
  else
    let s := { s with sched := { s.sched with
        lostCeiling := some (s.num Key.opNow), opChange := none, opNext := none, settling := false } }
    (s.setNum Key.pmbCoreLost 1).trouble 0x0064 r 2 0

/-- The role-1 regulator answers again (13 R408). -/
def State.coreFound (s : State) : State :=
  if s.flag Key.pmbCoreLost then
    (({ s with sched := { s.sched with lostCeiling := none } }).setNum Key.pmbCoreLost 0).settlePoint
  else s

/-- Three attempts at regulator r drew no answer (13 R408). -/
def State.regSilent (s : State) (r : Nat) : State :=
  let s := s.bump Key.pmbErrors
  if s.coreReg = some r then s.coreLost r else s

/-- Regulator r answered. -/
def State.regAnswers (s : State) (r : Nat) : State := if s.coreReg = some r then s.coreFound else s

/-- One regulator's readings into its entries (13 R405); a condition that is new is acted on (13 R408). -/
def State.takeReading (s : State) (r : Nat) (x : RegReading) : State :=
  let before := s.num (Key.regStatusWord r)
  let w := x.status % pow2 16
  let s := ((s.regAnswers r).setNum (Key.regVout r) (x.vout % pow2 16)).setNum (Key.regIout r) (x.iout % pow2 32)
  let s := (s.setInt (Key.regTemp r) (satS 16 x.temp)).setNum (Key.regStatusWord r) w
  if w ≠ before && (regFault w || regWarning w) then s.regStatus r w else s

/-- REGULATOR_POLL (13 R405, R408): every known regulator. The alert line is taken as released once no status asks for it
(DESIGN CHOICE, log entry 33). -/
def execRegulatorPoll (readings : List (Option RegReading)) (s : State) : Host.Outcome State Fault Refusal :=
  if !s.firmwareRuns || s.power.restarting.contains 2 then .next s
  else
    let s := s.forN 8 fun s r =>
      if !s.regKnown r then s
      else match readings.getD r none with
        | none => s.regSilent r
        | some x => s.takeReading r x
    let calm : Bool := (List.range 8).all fun r =>
      !s.regKnown r || (!regFault (s.num (Key.regStatusWord r)) && !regWarning (s.num (Key.regStatusWord r)))
    .next (if calm then s.modPins fun p => { p with pmbAlertN := true } else s)

/-- PMB_ALERT (13 R408): the alerting regulator's STATUS_WORD is read, logged and acted on. -/
def execPmbAlert (r : Fin 8) (status : Option (BitVec 16)) (s : State) : Host.Outcome State Fault Refusal :=
  let s := s.modPins fun p => { p with pmbAlertN := false }
  if !s.firmwareRuns then .next s
  else
    let s := s.bump Key.pmbAlertCount
    if !s.regKnown r.val then .next s
    else match status with
      | none => .next (s.regSilent r.val)
      | some w => .next ((s.regAnswers r.val).regStatus r.val w.toNat)

/-! ## Control cores (13 R390) -/

/-- CORE_HEARTBEAT_MISS (13 R390; 14 R424): the core restarts, and its duties pause. -/
def execCoreHeartbeatMiss (core : Fin 4) (s : State) : Host.Outcome State Fault Refusal :=
  if !s.firmwareRuns || s.power.restarting.contains core.val then .next s
  else
    let s := (s.bump (Key.ctrlCoreRestarts core.val)).trouble 0x0006 core.val 1 0
    let s := { s with power := { s.power with restarting := core.val :: s.power.restarting } }
    let s := if core = 0 then s.modLife fun l => { l with dictServed := false } else s
    .next s.settleHm

/-- What a core does first as it is back: T0 serves the dictionary, T1 makes the commands that waited, T3 takes the records
that waited (13 R390). -/
def State.coreBack (s : State) (core : Nat) : State :=
  if core = 0 then s.modLife fun l => { l with dictServed := !l.trigReset }
  else if core = 1 then s.releaseMarks
  else if core = 3 then s.releaseRecords
  else s

/-- CORE_RESTART_COMPLETE (13 R390; 14 R424). -/
def execCoreRestartComplete (core : Fin 4) (s : State) : Host.Outcome State Fault Refusal :=
  if s.power.restarting.contains core.val then
    let s := { s with power := { s.power with restarting := s.power.restarting.filter (· ≠ core.val) } }
    .next (s.coreBack core.val).settleHm
  else .next s

/-! ## Lane references (15 R456) -/

/-- LREF_BOTH_LOST (15 R456): both inputs lost for 10 ms. -/
def execLrefBothLost (s : State) : Host.Outcome State Fault Refusal :=
  match s.maint.lrefLostAt with
  | none => .next s
  | some τ => if τ + 10000000 ≤ s.now then .next (s.enterFault 0x0016 noUnit false) else .next s

/-! ## GDDR6 (12 R353–R366) -/

/-- A channel's device fails (12 R366): from INIT, READY and RUN the loss leads to FAULT. -/
def State.g6Fails (s : State) (j : Nat) : State :=
  let d := s.life.state
  if d = .init || d = .ready || d = .run then s.deviceLost j else (s.stepFree).loseDevice j (s.free % 256)

/-- The access reaches its channel: retries are counted, and without a good burst the channel fails (12 R359, R366). -/
def State.g6Try (s : State) (port unit : Nat) (write : Option (Nat × List Byte)) (bank row edcFails : Nat)
    (ecc : EccOutcome) : State :=
  let c := s.channelOf (64 * unit)
  let limit := s.num Key.g6EdcRetryMax
  let s := (s.touchRow c bank row (keepsOpen port write.isSome)).add (Key.g6EdcRetries c) (min edcFails limit)
  if limit < edcFails then s.g6Fails (c / 2) else s.accessUnit port c unit write ecc

/-- G6_ACCESS (12 R353–R360): a host access to the system region or above the local space reads 0 or is discarded (14 R425);
any other user's address above the space does not exist. -/
def execG6Access (port : Fin 8) (unit : Nat) (write : Option (Nat × List Byte)) (bank row : Nat) (edcFails : Nat)
    (ecc : EccOutcome) (s : State) : Host.Outcome State Fault Refusal :=
  if !s.g6On then .next s
  else if port = 7 && s.systemBase ≤ 64 * unit then
    .next (if write.isSome then { s with pcie := { s.pcie with bar2Discards := s.pcie.bar2Discards + 1 } } else s)
  else if port ≠ 7 && s.num Key.g6LocalTop < 64 * unit + 63 then .fault .noSuchLocalAddress
  else if s.num (Key.g6ChState (s.channelOf (64 * unit))) ≠ 1 then .next s
  else .next (s.g6Try port.val unit write bank row edcFails ecc)

/-- The refresh rate a temperature reading asks for: a failed reading counts as above 85 °C (12 R362). -/
def rateFor (now : Nat) (celsius : Option Int) : Nat :=
  match celsius with
  | none => 2
  | some t => if 85 < t then 2 else if t ≤ 83 then 1 else now

/-- G6_TEMP_READ (12 R362, R364, R366): both channels of the device share its rate. -/
def execG6TempRead (j : Fin 12) (celsius : Option Int) (answered : Bool) (s : State) : Host.Outcome State Fault Refusal :=
  let c := 2 * j.val
  if !s.g6On || s.num (Key.g6ChState c) ≠ 1 then .next s
  else if !answered then .next (s.g6Fails j.val)
  else
    let rate := rateFor (s.num (Key.g6RefreshRate c)) celsius
    let s := match celsius with
      | none => s
      | some t => (s.setInt (Key.g6Temp c) (satS 16 t)).setInt (Key.g6Temp (c + 1)) (satS 16 t)
    .next ((s.setRefreshRate c rate).setRefreshRate (c + 1) rate)

end Sys2Proof.Machine
end

