-- ==== Sys2Proof/Machine/Rules.lean ====
section
/-! DEFINITION. The rules that tie entries together, checked on a write against last accepted values (02 R34), and the checks
of byte blocks on a write. -/

namespace Sys2Proof.Machine

open Sys2Proof

/-! ## World grid, kernels and seams (06) -/

/-- The kernels Causeway accepts across the web (06 R175). -/
def crossKernels : List Nat := [0, 1, 2, 3, 4, 5, 6, 10, 11]

/-- The kernels Causeway accepts along the web: with four taps, with two (06 R175). -/
def alongKernels (taps : Nat) : List Nat := if taps = 2 then [0, 1, 4] else [0, 1, 2, 4, 5, 10]

/-- The state as the rules of 02 R34 see it: every last accepted value in effect. -/
def State.settled (s : State) : State :=
  { s with dict := { s.dict with
      vals := s.dict.pend.foldl (fun t (e : Nat × Slot) => tblPut t (keyDefault e.1) e.1 e.2) s.dict.vals
      blobs := s.dict.pendBlobs.foldl (fun t (e : Nat × List Byte) => tblSet t e.1 e.2) s.dict.blobs
      pend := [], pendBlobs := [] } }

/-- The geometry SRAM that the enabled ports take, in bytes (06 R187). -/
def State.geomBytes (s : State) : Nat :=
  s.num Key.worldPlanes * s.num Key.alongTaps * 2 * sumNat (s.enabledPorts.map s.portWidth)
    + 4 * sumNat (s.enabledPorts.map s.knotCount)

/-- The geometry SRAM (06 R187). -/
def geomLimit : Nat := 8388608

/-- Whether the seam or ramp of a pair lies within its limits (06 R188). -/
def State.seamOk (s : State) (p : Nat × Nat) : Bool :=
  let first := s.num (Key.covFirst p.2)
  let last := s.num (Key.covLast p.1)
  let seam := s.seam p.1 p.2
  if s.num (Key.mergeMode p.1) = 0 then first ≤ seam && seam ≤ last + 1
  else
    let half := s.num (Key.featherWidth p.1) / 2
    first + half ≤ seam && seam + half ≤ last + 1

/-- Whether every pair with an overlap keeps the limits of 06 R188. -/
def State.seamsOk (s : State) : Bool := s.pairs.all s.seamOk

/-- The rules on an entry of port n's Causeway settings; `t` has the new value (06 R175, R187, R188, R199). -/
def State.causewayPortFails (s t : State) (n sub : Nat) : List Nat :=
  failIf (sub ≤ 2 && geomLimit < t.geomBytes && s.geomBytes < t.geomBytes) resCapacity
    ++ failIf ((sub ≤ 2 || (5 ≤ sub && sub ≤ 7)) && !t.seamsOk && s.seamsOk) resConflict
    ++ failIf (sub = 3 && !crossKernels.contains (t.num (Key.crossKernel n))) resRange
    ++ failIf (sub = 8 && (t.num (Key.portGain n) < t.num Key.gainMin || t.num Key.gainMax < t.num (Key.portGain n))) resConflict

/-- The rules on Causeway's global settings (06 R175, R187, R191, R199). -/
def State.causewayFails (s t : State) (k : Nat) : List Nat :=
  let lo := t.num Key.gainMin
  let hi := t.num Key.gainMax
  let gains := (List.range 16).map fun n => t.num (Key.portGain n)
  failIf ((k = Key.worldPlanes || k = Key.alongTaps) && geomLimit < t.geomBytes && s.geomBytes < t.geomBytes) resCapacity
    ++ failIf (k = Key.alongKernel && !(alongKernels 4).contains (t.num Key.alongKernel)) resRange
    ++ failIf ((k = Key.gainMin || k = Key.gainMax) && (hi < lo || gains.any fun g => g < lo || hi < g)) resConflict
    ++ failIf ((k = Key.gainRefPort || k = Key.gainMatchEn) && s.inRun && t.flag Key.gainMatchEn
        && !t.flag (Key.portEnable (t.num Key.gainRefPort))) resConflict

/-! ## Reef and Atoll (07 R209, R226; 08 R235, R249) -/

/-- The rules on map m's thresholds (07 R209). -/
def mapFails (t : State) (m : Nat) : List Nat :=
  if m < 2 then failIf (t.num (Key.seedThr m) < t.num (Key.growThr m)) resConflict
  else
    failIf (!(t.int (Key.growLow m) ≤ t.int (Key.seedLow m) && t.int (Key.seedLow m) ≤ t.int (Key.seedHigh m)
      && t.int (Key.seedHigh m) ≤ t.int (Key.growHigh m))) resConflict

/-- The rule on the golden image's stride (07 R226). -/
def goldenFails (t : State) : List Nat := failIf (t.num Key.goldenStride < 2 * t.num Key.goldenWidth) resConflict

/-- The cell SRAM that the grid takes, in bytes (08 R235). -/
def State.cellBytes (s : State) : Nat := s.num Key.gridCols * s.num Key.phaseCount * 64

/-- The cell SRAM (08 R235). -/
def cellLimit : Nat := 1048576

/-- The rules on the phases (08 R249). -/
def phaseFails (t : State) (k : Nat) : List Nat :=
  let dwell := t.num Key.phaseDwell
  failIf ((k = Key.phaseDwell || k = Key.phaseGuard) && dwell / 2 < t.num Key.phaseGuard + 1) resConflict
    ++ failIf ((k = Key.phaseDwell || k = Key.atollExposure) && dwell < t.num Key.atollExposure) resConflict
    ++ failIf (k = Key.phaseCount && cellLimit < t.cellBytes) resCapacity

/-! ## Compare units and Narrows (10 R287, R303, R309) -/

/-- The rules on compare unit u (10 R287, R309). -/
def compareFails (t : State) (u sub : Nat) : List Nat :=
  let num := t.num (Key.cmpPeriodNum u)
  failIf (sub = 1 && u < 32 && t.num (Key.cmpMode u) = 5) resRange
    ++ failIf (5 ≤ sub && sub ≤ 7 && (num < t.num (Key.cmpPeriodDen u) || num ≤ t.num (Key.cmpPhase u))) resConflict

/-- Whether an entry selects a channel, or makes a consumer input active (10 R303). -/
def selects (k : Nat) : Bool :=
  k = Key.tickSource || k = Key.pieceEnable || k = Key.pieceEndMode || consumerInputs.any fun e => e.2 = k

/-- Whether some channel is held by two consumer inputs (10 R303). -/
def State.channelClash (t : State) : Bool :=
  let held := (consumerInputs.filter fun e => inputActive t.num e.1).map fun e => t.num e.2
  let held := held.filter fun c => c < 256
  (held.zip (List.range held.length)).any fun (c : Nat × Nat) => (held.drop (c.2 + 1)).contains c.1

/-! ## Every entry (02 R34) -/

/-- The codes of the rules that a numeric write of v to k breaks (02 R34). -/
def State.tieFails (s : State) (k : Nat) (v : Slot) : List Nat :=
  let i := k / 256
  let sub := k % 256
  let t := (s.withLast k v).settled
  if 0x4100 ≤ i && i < 0x4110 then s.settled.causewayPortFails t (i - 0x4100) sub
  else if 0x4000 ≤ i && i < 0x4003 then s.settled.causewayFails t k
  else if 0x4410 ≤ i && i ≤ 0x4413 then mapFails t (i - 0x4410)
  else if k = Key.goldenStride || k = Key.goldenWidth then goldenFails t
  else if k = Key.refStoreWriteAddr then failIf (!s.inRefStore v.toNat 1) resRange
  else if k = Key.gridCols then failIf (cellLimit < t.cellBytes) resCapacity
  else if i = 0x5002 then phaseFails t k
  else if k = Key.lagMax || k = Key.lagAbort then failIf (t.num Key.lagAbort ≤ t.num Key.lagMax) resConflict
  else if k = Key.opMin || k = Key.opMax then failIf (t.num Key.opMax < t.num Key.opMin) resConflict
  else if 0x6020 = i then s.placementFails (sub - 1) v
  else if 0x5460 ≤ i && i < 0x5468 && sub = 1 then failIf (i - 0x5460 < 6 && bitAt v.toNat 2) resConflict
  else if 0x6480 ≤ i && i < 0x6490 && sub = 3 then failIf (v = 2) resRange
  else if k = Key.ptpDomainNumber 0 || k = Key.ptpDomainNumber 1 then
    failIf (t.num (Key.ptpDomainNumber 0) = t.num (Key.ptpDomainNumber 1)) resConflict
  else
    (if 0x6440 ≤ i && i < 0x6470 then compareFails t (i - 0x6440) sub else [])
      ++ failIf (selects k && t.channelClash) resConflict

/-! ## Byte blocks (02 R34, R51) -/

/-- The length of a correction table (05 R165). -/
def corrLength (len sub : Nat) : Nat := if sub = 1 then 4 * min len 16384 else 4 * (len - 16384)

/-- The checks of a `DefectColumns` list (05 R143). -/
def defectFails (len : Nat) (b : List Byte) : List Nat :=
  let es := (chunks 4 b).map ofLe
  let cols := (es.filter fun e => bitsAt e 16 2 ≠ 3).map fun e => bitsAt e 0 16
  failIf (b.length % 4 ≠ 0) resSize
    ++ failIf (es.any fun e => bitsAt e 18 14 ≠ 0 || len ≤ bitsAt e 0 16) resRange
    ++ failIf ((cols.zip (cols.drop 1)).any fun (p : Nat × Nat) => p.2 ≤ p.1) resConflict

/-- The checks of a `PixelParams` block (05 R166; 00 R9, R12). -/
def pixelParamsFails (b : List Byte) : List Nat :=
  let zero := fun (o n : Nat) => fieldAt b o n = 0
  let reserved := bitsAt (fieldAt b 0 2) 5 11 ≠ 0 || !zero 3 1 || !zero 7 1 || !zero 14 2 || !zero 34 2 || !zero 54 10
  let delays := 2 < fieldAt b 2 1 || (List.range 3).any fun q => 63 < fieldAt b (4 + q) 1
  let matrix := (List.range 9).any fun i =>
    let m := ofTwos 16 (fieldAt b (16 + 2 * i) 2)
    m < -16384 || 16384 ≤ m
  let offsets := (List.range 3).any fun i => 65535 < (ofTwos 32 (fieldAt b (36 + 4 * i) 4)).natAbs
  failIf (reserved || delays || matrix || offsets) resRange

/-- Whether rule i of a `ClassTable` is sound (07 R215). -/
def classRuleOk (r : List Byte) : Bool :=
  let f := fun (o n : Nat) => fieldAt r o n
  f 0 1 < 2 && f 2 1 < 16 && f 3 1 < 4 && f 6 2 = 0 && f 44 4 = 0
    && (f 0 1 = 0 || (f 1 1 ≠ 0 && f 1 1 ≠ 255 && f 8 4 ≤ f 12 4 && f 16 4 ≤ f 20 4 && f 24 4 ≤ f 28 4
      && f 32 2 ≤ f 34 2 && f 36 2 ≤ f 38 2 && f 40 2 ≤ f 42 2))

/-- Whether the limits of one phase are sound (08 R243). -/
def phaseLimitsOk (r : List Byte) : Bool :=
  let f := fun (o n : Nat) => fieldAt r o n
  f 0 1 < 16 && f 1 3 = 0 && f 30 2 = 0
    && (!bitAt (f 0 1) 0 || f32Le (f 4 4) (f 8 4))
    && (!bitAt (f 0 1) 1 || (f32Le (f 12 4) (f 16 4) && f32Le (f 20 4) (f 24 4)))

/-- Whether an entry of `ChipClassTable` is sound (09 R280). -/
def chipClassOk (e : Nat) : Bool :=
  bitsAt e 11 5 = 0 && bitsAt e 27 5 = 0 && bitsAt e 0 11 ≤ 1024 && bitsAt e 16 11 ≤ 1024

/-- The checks of a table of port n at offset o of its block (05 R143, R165, R166). -/
def State.portTableFails (s : State) (n o sub : Nat) (b : List Byte) : List Nat :=
  let len := s.num (Key.camLineLength n)
  if o < 3 then failIf (b.length ≠ corrLength len sub || b.isEmpty) resSize
  else if o = 4 then defectFails len b
  else if o = 12 then pixelParamsFails b
  else []

/-- The codes of the rules that a byte block breaks (02 R34, R51). -/
def State.blobTies (s : State) (k : Nat) (b : List Byte) : List Nat :=
  let i := k / 256
  if 0x3800 ≤ i && i < 0x3900 then s.portTableFails ((i - 0x3800) / 16) ((i - 0x3800) % 16) (k % 256) b
  else if 0x3900 ≤ i && i < 0x3910 then failIf (b.length ≠ 4 * s.knotCount (i - 0x3900)) resSize
  else if k = Key.classTable then failIf (!(chunks 48 b).all classRuleOk) resRange
  else if i = 0x4480 then
    failIf (s.num Key.worldWidth ≤ 8192 * (k % 256 - 1) || (chunks 8 b).any fun c => bitsAt (ofLe c) 41 23 ≠ 0) resRange
  else if k = Key.atollLimits then failIf (!(chunks 32 b).all phaseLimitsOk) resRange
  else if k = Key.chipClassTable then failIf (!((chunks 4 b).map ofLe).all chipClassOk) resRange
  else if k = Key.keyLoad then keyLoadFails b
  else if k = Key.refStoreWriteData then s.refStoreFails b
  else if 0x2000 ≤ i && i < 0x3000 && i % 256 = 7 && k % 256 = 1 then s.tunnelFails ((i - 0x2000) / 256)
  else if 0x7400 ≤ i && i < 0x7800 && k % 256 = 0x10 then s.nodeCmdFails (i - 0x7400) b
  else []

end Sys2Proof.Machine
end

