-- ==== Sys2Proof/Machine/Requests.lean ====
section
/-! DEFINITION. The checks of a RUN request (02 R495) and the state requests (01 R24, R27, R28). -/

namespace Sys2Proof.Machine

open Sys2Proof

/-- A failing check of a RUN request: the entry it names, if its rule names one, and its code (02 R495). -/
abbrev CheckFail := Option Nat × Nat

/-- A failing check that names an entry. -/
def named (b : Bool) (k code : Nat) : List CheckFail := if b then [(some k, code)] else []

/-- A failing check whose rule names no entry. -/
def unnamed (b : Bool) (code : Nat) : List CheckFail := if b then [(none, code)] else []

/-! ## Memory (01 R22; 07 R206, R207; 09 R255; 12 R383) -/

/-- Whether a region lies where the integrator's regions may (01 R21, R22). -/
def State.regionFits (s : State) (base size : Nat) : Bool := base + size ≤ s.systemBase

/-- Whether two regions overlap. -/
def overlap (a b : Nat × Nat) : Bool := a.1 < b.1 + b.2 && b.1 < a.1 + a.2

/-- Whether two regions of a list overlap. -/
def anyOverlap : List (Nat × Nat) → Bool
  | [] => false
  | r :: rest => rest.any (overlap r) || anyOverlap rest

/-- The checks of the integrator's regions (01 R22; the codes by their meaning in 02 R36). -/
def State.regionChecks (s : State) : List CheckFail :=
  let rs := (regionKeys.map fun e => (s.num e.1, s.num e.2)).filter fun r => r.2 ≠ 0
  unnamed (rs.any fun r => !s.regionFits r.1 r.2) resCapacity ++ unnamed (anyOverlap rs) resConflict

/-- The largest height of a chip (09 R259). -/
def State.chipHeights (s : State) : Nat :=
  ((chunks 4 (s.blob Key.chipClassTable)).map fun e => bitsAt (ofLe e) 16 11).foldl max 0

/-- Whether S0 takes every column of the world (07 R206). -/
def State.s0Whole (s : State) : Bool := s.s0Width = s.num Key.worldWidth && s.num Key.s0CropFirst = 0

/-- The first of the entries that keep S0 from serving as periodic reference (07 R206). -/
def State.periodicChecks (s : State) : List CheckFail :=
  let bad := [(Key.s0Enable, !s.flag Key.s0Enable), (Key.s0RingEn, !s.flag Key.s0RingEn),
    (Key.s0Format, s.num Key.s0Format ≠ 2), (Key.s0CropWidth, !s.s0Whole)]
  match bad.find? (·.2) with
  | some e => [(some e.1, resConflict)]
  | none => []

/-- The checks of the lookback ring (07 R206; 09 R255). -/
def State.ringChecks (s : State) : List CheckFail :=
  let d := s.slotCount
  let size := s.num Key.ringSize
  let periodic : Bool := s.num Key.refModel = 1
  (if periodic then s.periodicChecks else [])
    ++ named (s.flag Key.s0RingEn && (size = 0 || !s.regionFits (s.num Key.ringBase) size)) Key.ringSize resCapacity
    ++ named (s.flag Key.chipEnable && d < s.chipHeights) Key.ringSize resCapacity
    ++ named (periodic && d < s.num Key.periodLines) Key.ringSize resCapacity
    ++ unnamed (s.flag Key.chipEnable && !s.flag Key.s0RingEn) resConflict

/-- The bytes of the golden image, from `GoldenBase` on (07 R207). -/
def State.goldenSpan (s : State) : Nat :=
  (s.num Key.goldenHeight - 1) * s.num Key.goldenStride + 2 * s.num Key.goldenWidth

/-- The checks of the golden image (07 R207). -/
def State.goldenChecks (s : State) : List CheckFail :=
  if s.num Key.refModel ≠ 2 then []
  else
    unnamed (!s.flag Key.pieceEnable || s.num Key.pieceOriginMode = 1) resConflict
      ++ unnamed (!s.inRefStore (s.num Key.goldenBase) s.goldenSpan) resCapacity

/-- The largest unit of stream st (09 R251, R252, R259–R263). -/
def State.largestUnit (s : State) (st : Nat) : Nat :=
  let b := s.num Key.s0Format
  let np := s.s0PlaneCount
  match st with
  | 0 => s.slotBytes
  | 4 =>
    ((chunks 4 (s.blob Key.chipClassTable)).map fun e =>
      64 + round64 (min (bitsAt (ofLe e) 0 11) s.s0Width * bitsAt (ofLe e) 16 11 * np * b)).foldl max 64
  | 5 => 2096
  | 6 => 64
  | 7 => 32
  | n =>
    let i := n - 1
    let planes := if s.num (Key.sxPlanes i) = 1 then s.num Key.worldPlanes else 1
    64 + round64 (s.num (Key.sxCropWidth i) / s.num (Key.sxFactorX i) * planes * s.num (Key.sxFormat i))

/-- The checks of the host rings (12 R383). -/
def State.hostRingChecks (s : State) : List CheckFail :=
  (List.range 8).flatMap fun st =>
    unnamed (bitAt (s.num (Key.route st)) 0 && s.num (Key.hostRingSize st) < 2 * s.largestUnit st) resCapacity

/-! ## Ports and pipelines (03 R91; 04 R122; 05 R153, R157–R159, R164) -/

/-- The bytes of one camera line on the link (04 R122). -/
def State.lineBytes (s : State) (n : Nat) : Nat :=
  planesOf (s.num (Key.colourMode n)) * 8 * (3 + (s.linePacketSize n - 7) / 8)

/-- The line rate R_p in bits per second (04 R122). -/
def laneBits (rate : Nat) : Nat := if rate = 1 then 25000000000 else 10000000000

/-- Whether port n's camera fits its lanes (04 R122). -/
def State.linkFits (s : State) (n : Nat) : Bool :=
  8 * s.lineBytes n * s.num (Key.camLineRateMax n) * 16384 ≤ s.num (Key.laneCount n) * laneBits (s.num (Key.laneRate n)) * 16383

/-- The highest-numbered of a list of ports. -/
def topPort (ports : List Nat) : Nat := ports.foldl max 0

/-- The checks of pipeline p over the enabled ports placed on it (03 R91; 05 R159). -/
def State.pipeChecks (s : State) (p : Nat) : List CheckFail :=
  let ports := s.placedOn p
  let top := topPort ports
  named (4 < ports.length || (!ports.isEmpty && !s.pipeServes p)) (Key.portPlacement top) resConflict
    ++ named (corrLimit < s.corrBytes ports) (Key.camLineLength top) resCapacity
    ++ named (shareLimit < s.shareRate ports) (Key.camLineRateMax top) resCapacity

/-- `PB_FLAGS` of port n's `PixelParams` (05 R166). -/
def State.pbFlags (s : State) (n : Nat) : Nat := fieldAt (s.blob (Key.pixelParams n)) 0 2

/-- The correction tables of port n: plane, key and subindex (05 R165). -/
def corrTables (n : Nat) : List (Nat × Nat × Nat) :=
  (List.range 3).flatMap fun q => [(q, Key.corrTableLo n q, 1), (q, Key.corrTableHi n q, 2)]

/-- Whether an entry was written. -/
def State.written (s : State) (k : Nat) : Bool := (tblFind s.dict.blobs k).isSome

/-- The checks of an enabled port's tables (05 R164). -/
def State.tableChecks (s : State) (n : Nat) : List CheckFail :=
  let len := s.num (Key.camLineLength n)
  let used := planesOf (s.num (Key.colourMode n))
  let defects := Key.defectColumns n
  ((corrTables n).flatMap fun t =>
    let k := t.2.1
    named (s.written k && (s.blob k).length ≠ corrLength len t.2.2) k resConflict
      ++ named (bitAt (s.pbFlags n) 3 && t.1 < used && 0 < corrLength len t.2.2 && s.blob k = s.blobDefault k) k resConflict)
    ++ named (s.written defects && !(defectFails len (s.blob defects)).isEmpty) defects resConflict

/-- The checks of an enabled port (04 R122; 05 R153, R164; 10 R285, R289). -/
def State.portChecks (s : State) (n : Nat) : List CheckFail :=
  let u := 32 + n
  named (!s.linkFits n) (Key.camLineRateMax n) resCapacity
    ++ named (s.flag Key.atollEnable && s.num (Key.colourMode n) ≠ 0 && bitAt (s.pbFlags n) 1) (Key.pixelParams n) resConflict
    ++ s.tableChecks n
    ++ named (s.num (Key.cmpEncoder u) ≠ s.num Key.webEncoder) (Key.cmpEncoder u) resConflict
    ++ named (1 < s.num Key.phaseCount && s.num (Key.cmpMode u) ≠ 5) (Key.cmpMode u) resConflict

/-! ## World (06 R168, R171, R175, R187, R188, R191, R200) -/

/-- Whether enabled port n breaks a rule of 06 R171. -/
def State.offends (s : State) (n : Nat) : Bool :=
  let first := s.num (Key.covFirst n)
  let last := s.num (Key.covLast n)
  let ports := s.enabledPorts
  let crowded := ports.any fun m =>
    let x := s.num (Key.covFirst m)
    s.covers n x && 2 < (ports.filter fun p => s.covers p x).length
  last < first || s.num Key.worldWidth ≤ last || crowded || ports.any fun m => m ≠ n && s.num (Key.covFirst m) = first

/-- The checks of the world grid and its ports. -/
def State.worldChecks (s : State) : List CheckFail :=
  let ports := s.enabledPorts
  let offenders := ports.filter s.offends
  named (!offenders.isEmpty) (Key.covFirst (topPort offenders)) resConflict
    ++ unnamed (s.num Key.worldPlanes = 4 && ports.any fun n => s.num (Key.colourMode n) = 0) resConflict
    ++ unnamed (!(alongKernels (s.num Key.alongTaps)).contains (s.num Key.alongKernel)) resConflict
    ++ unnamed (geomLimit < s.geomBytes) resCapacity
    ++ unnamed (!s.seamsOk) resConflict
    ++ named (s.flag Key.gainMatchEn && !s.flag (Key.portEnable (s.num Key.gainRefPort))) Key.gainRefPort resConflict
    ++ ports.flatMap fun n => unnamed ((s.blob (Key.knotMap n)).length ≠ 4 * s.knotCount n) resConflict

/-! ## Pieces and Atoll (07 R220; 08 R232) -/

/-- Whether an entry names a node of one of some classes that is enabled (11 R335, R341). -/
def State.nodeOf (s : State) (k : Nat) (classes : List Nat) : Bool :=
  k < 1024 && s.flag (Key.nodeEnable k) && classes.contains (s.num (Key.nodeClass k))

/-- The checks of the phases (08 R232). -/
def State.phaseChecks (s : State) : List CheckFail :=
  let c := s.num Key.carrierNode
  if s.num Key.phaseCount ≤ 1 then []
  else
    named (s.num Key.alongKernel ≠ 0) Key.alongKernel resConflict
      ++ named (!(c < 1024 && s.num (Key.nodeClass c) = 3)) Key.carrierNode resConflict
      ++ named (c < 1024 && s.num Key.phaseStartDelay < s.num (Key.nodeLeadTime c) + 100000) Key.phaseStartDelay resConflict
      ++ named (s.num Key.phaseDwell < s.num Key.atollExposure + 2 * s.num Key.phaseGuard) Key.atollExposure resConflict
      ++ named (s.num Key.refModel = 1 && s.num Key.periodLines % s.num Key.phaseCount ≠ 0) Key.periodLines resConflict
      ++ s.enabledPorts.flatMap fun n => named (s.num (Key.triggerMode n) = 0) (Key.triggerMode n) resConflict

/-- The checks of the pieces and of Atoll (07 R220; 08 R232). -/
def State.gridChecks (s : State) : List CheckFail :=
  let two := 512 * s.num Key.apertureHalf
  if !s.flag Key.atollEnable then
    named (s.flag Key.pieceEnable && s.num Key.pieceOriginMode = 1) Key.pieceOriginMode resConflict
  else
    named (s.num Key.worldPlanes ≠ 4) Key.worldPlanes resConflict
      ++ named (!s.flag Key.pieceEnable) Key.pieceEnable resConflict
      ++ named (s.num Key.gridPitchX ≤ two || s.num Key.gridPitchY ≤ two) Key.apertureHalf resConflict
      ++ named (cellLimit < s.cellBytes) Key.gridCols resCapacity
      ++ s.phaseChecks

/-! ## Encoders, time, nodes, regulators, tests (10 R285, R289; 11 R318, R323, R341; 13 R413; 15 R452) -/

/-- The checks of the web encoder and of the line triggers' modes (10 R285, R289). -/
def State.motionChecks (s : State) : List CheckFail :=
  let web := s.num Key.webEncoder
  named (!s.flag (Key.encEnable web)) (Key.encEnable web) resConflict
    ++ (List.range 16).flatMap fun n =>
      named (s.num Key.phaseCount = 1 && s.num (Key.cmpMode (32 + n)) = 5) (Key.cmpMode (32 + n)) resConflict

/-- A binding of a node: its entry, and the classes its use allows (11 R335, R341). -/
def State.bindingCheck (s : State) (k : Nat) (classes : List Nat) : List CheckFail :=
  let n := s.num k
  named (n < 1024 && !s.nodeOf n classes) k resConflict

/-- The checks of the nodes (11 R323, R341). -/
def State.nodeChecks (s : State) : List CheckFail :=
  ((List.range 1024).flatMap fun k =>
    unnamed (s.flag (Key.nodeEnable k) && !s.inSubnet (s.num (Key.nodePort k)) (s.num (Key.nodeIp k))) resConflict)
    ++ ((List.range 255).flatMap fun c => s.bindingCheck (Key.markNode (c + 1)) [1, 5])
    ++ s.bindingCheck Key.carrierNode [3]
    ++ s.bindingCheck Key.fieldRecordNode [5]

/-- The checks of the regulators (13 R413). -/
def State.regChecks (s : State) : List CheckFail :=
  let ones := (List.range 8).filter fun r => s.num (Key.regRole r) = 1
  unnamed (1 < ones.length) resConflict
    ++ ones.flatMap fun r =>
      unnamed (s.num (Key.regRail r) ≠ 1) resConflict
        ++ named (s.num (Key.regAddress r) = 0) (Key.regAddress r) resConflict

/-- Every failing check of a RUN request, on last accepted values (02 R34, R495). -/
def State.runChecks (s : State) : List CheckFail :=
  let t := s.settled
  t.regionChecks ++ t.ringChecks ++ t.goldenChecks ++ t.hostRingChecks
    ++ t.enabledPorts.flatMap t.portChecks ++ (List.range t.pipeCount).flatMap t.pipeChecks
    ++ t.worldChecks ++ t.gridChecks ++ t.motionChecks
    ++ named (!t.net.wAligned && !t.flag Key.wFreeRunOk) Key.wSelect resConflict
    ++ t.nodeChecks ++ t.regChecks
    ++ named t.maint.test.isSome Key.selfTestRequest resBusy

/-! ## The result of the checks (02 R495) -/

/-- The failing checks with an entry each: one that its rule does not name is a free value. -/
def State.nameChecks (s : State) : Nat → List CheckFail → List (Nat × Nat)
  | _, [] => []
  | i, (some k, c) :: rest => (k, c) :: s.nameChecks i rest
  | i, (none, c) :: rest => (Config.freeNat (s.freeCount + i) % pow2 24, c) :: s.nameChecks (i + 1) rest

/-- The entry with the lowest number among those named, with the first of its codes; `none` where no check fails. -/
def lowestCheck (fs : List (Nat × Nat)) : Option (Nat × Nat) :=
  match fs with
  | [] => none
  | f :: rest =>
    let k := rest.foldl (fun m e => min m e.1) f.1
    some (k, firstCode ((fs.filter fun e => e.1 = k).map (·.2)))

/-- `CheckFailEntry` and `CheckFailResult` of a RUN request. -/
def State.checkResult (s : State) : Option (Nat × Nat) := lowestCheck (s.nameChecks 0 s.runChecks)

/-- The result of the checks is stored, and the free values that named entries are used up. -/
def State.noteChecks (before s : State) : State :=
  let n := (before.runChecks.filter fun f => f.1.isNone).length
  let s := { s with freeCount := s.freeCount + n }
  match before.checkResult with
  | none => s
  | some r => (s.setNum Key.checkFailEntry r.1).setNum Key.checkFailResult r.2

/-! ## State requests (01 R24, R27, R28) -/

/-- Whether a transition is in progress, in which a request is refused (01 R27, R28). -/
def State.changing (s : State) : Bool :=
  s.life.state = .off || s.life.state = .boot || s.life.draining || s.life.readyRequested || s.resumeWaits

/-- Whether SAFE may be left: all sensors below 95 °C and PFAIL_N high (01 R24). -/
def State.mayLeaveSafe (s : State) : Bool := s.allBelow 95 && s.pins.pfailN

/-- The code that refuses a state request, if any (01 R24, R27; 02 R36, R495). -/
def State.requestFails (s : State) (v : Slot) : List Nat :=
  let d := s.life.state
  if s.changing then [resWrongState]
  else if v = 4 then
    if d ≠ .ready then [resWrongState] else (match s.checkResult with | none => [] | some r => [r.2])
  else if v = 3 then
    failIf (!(d = .run || (d = .fault && !s.life.bootFault) || (d = .safe && s.mayLeaveSafe))) resWrongState
  else if v = 6 then failIf (!(d = .init || d = .ready || d = .run || d = .fault)) resWrongState
  else []

/-- An accepted state request in effect (01 R24, R28). -/
def State.requestEffect (v : Slot) (s : State) : State :=
  if v = 4 then s.enterRun
  else if v = 3 then
    if s.inRun then s.modLife fun l => { l with readyRequested := true } else s.reinit false
  else s.enterSafe

/-- A write of `StateRequest`; the checks of a RUN request report what fails (01 R24; 02 R495). -/
def State.request (s : State) (src : Source) (size : Nat) (v : Slot) : Written :=
  let checked : Bool := s.life.dictServed && s.dict.held.isEmpty && writeValue src Key.stateRequest size v = 4 && !s.changing && s.life.state = .ready
    && firstCode (s.commonFails src Key.stateRequest size v) = 0
  let w := s.attempt src Key.stateRequest size v s.requestFails State.requestEffect
  if checked && w.result ≠ 0 then { w with state := State.noteChecks s w.state } else w

/-- A state request in the width of its own row. -/
def State.requestRow (s : State) (src : Source) (v : Nat) : State :=
  (s.request src (naturalSize src Key.stateRequest) (BitVec.ofNat 64 v)).state

/-- STATE_REQUEST_RUN (01 R24; 02 R495). -/
def execStateRequestRun (src : Source) (s : State) : Host.Outcome State Fault Refusal := .next (s.requestRow src 4)

/-- STATE_REQUEST_READY (01 R24, R28); `pfailHigh` is the level of PFAIL_N at the request. -/
def execStateRequestReady (src : Source) (pfailHigh : Bool) (s : State) : Host.Outcome State Fault Refusal :=
  .next ((s.modPins fun p => { p with pfailN := pfailHigh }).requestRow src 3)

/-- STATE_REQUEST_SAFE (01 R24). -/
def execStateRequestSafe (src : Source) (s : State) : Host.Outcome State Fault Refusal := .next (s.requestRow src 6)

end Sys2Proof.Machine
end

