-- ==== Sys2Proof/Machine/Read.lean ====
section
/-! DEFINITION. What a source reads from an entry (00 R2, R13; 02 R31, R38, R46–R50, R55, R56). -/

namespace Sys2Proof.Machine

open Sys2Proof

/-! ## Identity (02 R62, R493) -/

/-- The number of instances in the index map (02 R493). -/
def entryCount : Nat :=
  let rows := (List.range 24).flatMap rowsOf
  sumNat (rows.map fun r => r.count * r.subs) + ((List.range 0x8000).filter fun i => 1 < highestSub (0x1000 + i)).length

/-- What range 0 reads (02 R62, R493). -/
def State.readIdentity (s : State) (sub : Nat) (stored : Nat) : Nat :=
  let big : Bool := s.part.variant = .rl6416
  match sub with
  | 0x03 => 0x1F3C
  | 0x04 => if big then 0x6416 else 0x3208
  | 0x05 => 0xB1
  | 0x06 => s.part.grade
  | 0x07 => s.part.serial
  | 0x09 => s.part.bootRom
  | 0x0B => s.pipeCount
  | 0x0C => s.portCount
  | 0x0D => s.laneCount
  | 0x0E => entryCount
  | _ => stored

/-! ## State and per-source copies (02 R46, R54–R56, R62) -/

/-- The word a per-source copy of an entry holds. -/
def ReadCopy.word (c : ReadCopy) (j : Nat) : Nat := fieldAt c.bytes (8 * j) 8

/-- What a read pointer's index reads of a source's copy: pointer, words and result. -/
def ReadCopy.read (c : ReadCopy) (pointer sub : Nat) : Nat :=
  if sub = pointer then c.index else if sub ≤ pointer + 4 then c.word (sub - pointer - 1) else c.result

/-- The window entries of a source (02 R53, R54). -/
def SourceState.window (x : SourceState) (sub : Nat) : Nat :=
  match sub with
  | 1 => x.segTarget
  | 2 => x.segMode
  | 3 => x.segLength
  | 4 => x.segCrc
  | 6 => x.segOffset
  | 7 => x.segStatus
  | 8 => x.segResult
  | _ => 0

/-- The source code of a range's owner; 0xFF where none owns it (02 R55). -/
def State.ownerCode (s : State) (r : Nat) : Nat :=
  match s.owner r with
  | some o => o.source
  | none => 0xFF

/-- What range 1 reads (02 R44, R46, R55, R62). -/
def State.readStatus (s : State) (src : Source) (i sub stored : Nat) : Nat :=
  let x := s.source src
  if i = 0x1100 && sub = 2 then s.life.state.code
  else if i = 0x1101 && sub = 2 then s.cause.nextLine
  else if i = 0x1103 && sub = 1 then x.effTarget
  else if i = 0x1104 && sub = 3 then s.pendingCount
  else if i = 0x1110 && sub = 4 then s.tokenOf src
  else if i = 0x1111 then s.ownerCode (sub - 1)
  else stored

/-- What ranges 2 and 3 read (02 R54, R58–R62, R69). -/
def State.readJournal (s : State) (src : Source) (i sub stored : Nat) : Nat :=
  let x := s.source src
  let m := s.mram
  if i = 0x1200 then
    match sub with
    | 1 => s.dict.nextSeq - 1
    | 2 => s.dict.nextSeq - 65536
    | 9 => m.epoch
    | _ => x.journal.read 3 sub
  else if i = 0x1300 then
    match sub with
    | 4 => m.imageA.gen
    | 5 => m.imageB.gen
    | 6 => bit m.imageA.valid + 2 * bit m.imageB.valid
    | 7 => (match s.newestImage with | some g => g.bytes | none => 0)
    | _ => stored
  else if i = 0x1301 && sub < 9 then x.window sub
  else if i = 0x1302 then (tblGet x.segData 0 sub).toNat
  else stored

/-! ## Ports, pipelines, world, grid (04 R137, R138; 05 R165; 06 R199; 07 R228, R229; 08 R249) -/

/-- The code of a lane's state (04 R137). -/
def LaneState.code : LaneState → Nat
  | .off => 0 | .cdr => 1 | .block => 2 | .marker => 3 | .locked => 4

/-- What the entries of port n read (04 R137, R138). -/
def State.readPort (s : State) (src : Source) (n block sub stored : Nat) : Nat :=
  let p := s.port n
  let lanes := List.range 4
  match block, sub with
  | 1, 1 => p.state
  | 1, 2 => sumNat (lanes.map fun i => (s.lane (4 * n + i)).state.code * pow2 (4 * i))
  | 1, 3 => sumNat (lanes.map fun i => (s.lane (4 * n + i)).logical % 4 * pow2 (2 * i))
  | 2, 1 => p.limit
  | 2, 2 => p.consumed
  | 2, 3 => p.fill
  | 6, _ => if 8 ≤ sub && sub ≤ 13 then (tblGet (s.source src).ledger {} n).read 8 sub else stored
  | _, _ => stored

/-- The ports placed on pipeline p in effect. -/
def State.placedNow (s : State) (p : Nat) : List Nat := (List.range s.portCount).filter fun n => s.num (Key.portPlacement n) = p

/-- What the entries of pipeline p read (05 R159, R165). -/
def State.readPipe (s : State) (p sub stored : Nat) : Nat :=
  let placed := s.placedNow p
  let enabled := placed.filter fun n => s.flag (Key.portEnable n)
  match sub with
  | 3 => channelMask placed
  | 4 => s.shareRate enabled / 1000000
  | 5 => s.corrBytes enabled
  | _ => stored

/-- `PortGapState` (06 R184). -/
def State.gapState (s : State) (n : Nat) : Nat :=
  if !s.inRun then 0 else if !(s.geo n).spans.isEmpty then 2 else bit (s.flag (Key.portEnable n) && s.awaited n)

/-- `PieceIdNow`: the newest piece whose window Reef has not passed (07 R228). -/
def State.pieceNow (s : State) : Nat :=
  match s.pieces.getLast? with
  | some p => if s.inRun && s.reef.nextLine < p.stop then p.id else 0
  | none => 0

/-! ## Streams, schedule, motion, time (09 R253, R278; 03 R82; 10 R303; 11 R313) -/

/-- What the entries of domain d read (11 R313, R346). -/
def State.readDomain (s : State) (d sub stored : Nat) : Nat :=
  let x := s.domain d
  match sub with
  | 1 => toTwos 64 (x.offset / (pow2 16 : Int))
  | 2 => (x.offset % (pow2 16 : Int)).toNat
  | 3 => toTwos 64 x.rate
  | 4 => x.anchor
  | 5 => x.ns s.now
  | _ => stored

/-! ## Field network, Harbourmaster, power (11 R339, R346, R347; 13 R392, R401, R404, R409) -/

/-- What the entries of session i read (11 R339, R346). -/
def State.readSession (s : State) (i sub stored : Nat) : Nat :=
  let x := s.session i
  match x.peer, sub with
  | none, 5 => 0xFF
  | none, 4 => stored
  | none, _ => if sub < 4 then 0 else stored
  | some _, 1 => 1
  | some p, 2 => p.ip
  | some p, 3 => p.udp
  | some _, 5 => if x.auth then x.authSlot else 0xFF
  | some _, _ => stored

/-- `HmHostState` of source n (13 R392). -/
def State.hostState (s : State) (n : Nat) : Nat :=
  let x := s.hmSource true n
  if x.service then (if x.pending || x.again then 3 else 2) else bit x.pending

/-- What the entries of target t read (13 R394, R400). -/
def State.readTarget (s : State) (t sub stored : Nat) : Nat :=
  let x := s.hmTarget t
  match sub with
  | 1 => x.running
  | 2 => x.stack.length
  | 4 => bit (s.hmAwake t)
  | _ => stored

/-- Whether pipeline p is gated (00 R1, 13 R404). -/
def State.pipeGated (s : State) (p : Nat) : Bool :=
  s.pipeCount ≤ p || (s.flag Key.gateUnused && ((s.placedNow p).isEmpty || !s.flag (Key.pipelineInService p)))

/-- Whether compression engine e is gated (13 R404). -/
def State.engineGated (s : State) (e : Nat) : Bool :=
  let routed := (List.range 8).any fun st => bitAt (s.num (Key.route st)) 1 && s.num (Key.compEngine st) = e
  s.flag Key.gateUnused && !routed && s.num (Key.jobProducer e) = s.num (Key.jobConsumer e)

/-- `GatedMask` (13 R404). -/
def State.gatedMask (s : State) : Nat :=
  let on := s.flag Key.gateUnused
  channelMask ((List.range 8).filter s.pipeGated) + 256 * channelMask ((List.range 8).filter s.engineGated)
    + 65536 * bit (on && !s.flag Key.atollEnable) + 131072 * bit (on && !s.flag Key.reefEnable)

/-- `ThermState` (13 R409). -/
def State.thermState (s : State) : Nat :=
  if !s.pins.thermN then 3 else if s.sched.thermLimit then 2 else bit s.power.warnOn

/-! ## Logs (15 R440, R446, R447) -/

/-- What range 23 reads. -/
def State.readLogs (s : State) (src : Source) (i sub stored : Nat) : Nat :=
  let x := s.source src
  let m := s.mram
  match i, sub with
  | 0x8C00, 1 => s.logs.nextTl - 1
  | 0x8C00, 2 => s.logs.nextTl - 16384
  | 0x8C00, _ => if 3 ≤ sub && sub ≤ 8 then x.trouble.read 3 sub else stored
  | 0x8C10, 1 => m.recHead
  | 0x8C10, 0x0A => s.logs.staged.length
  | 0x8C10, 0x0D => m.retired.length
  | 0x8C10, _ => if 3 ≤ sub && sub ≤ 8 then x.recorder.read 3 sub else stored
  | 0x8C20, 1 => s.opSecondsNow
  | 0x8C20, 2 => m.powerCycles
  | 0x8C20, 3 => m.resets
  | 0x8C20, 4 => m.pfails
  | 0x8C20, 5 => m.antiRollback
  | 0x8C20, 7 => s.life.bootCause
  | 0x8C20, 8 => s.life.bootMode
  | 0x8C30, 3 => bit (s.lrefOn false) + 2 * bit (s.lrefOn true)
  | _, _ => stored

/-! ## Any entry -/

/-- What an entry below 0x4000 reads beyond what is stored for it. -/
def State.readLow (s : State) (src : Source) (i sub stored : Nat) : Nat :=
  if i = 0x1000 then s.readIdentity sub stored
  else if i < 0x1200 then s.readStatus src i sub stored
  else if i < 0x2000 then s.readJournal src i sub stored
  else if i < 0x3000 then s.readPort src ((i - 0x2000) / 256) (i % 256) sub stored
  else if i < 0x3800 then (if i % 256 = 0 then s.readPipe ((i - 0x3000) / 256) sub stored else stored)
  else stored

/-- What an entry from 0x4000 to 0x6BFF reads beyond what is stored for it. -/
def State.readMiddle (s : State) (i sub stored : Nat) : Nat :=
  if i = 0x4000 && sub = 0x0C then s.geomBytes
  else if 0x4100 ≤ i && i < 0x4110 && sub = 0x0E then s.gapState (i - 0x4100)
  else if i = 0x4430 && sub = 0x0B then s.pieceNow
  else if i = 0x4440 && sub = 1 then s.reef.regions.length
  else if i = 0x5001 && sub = 9 then s.cellBytes
  else if i = 0x5400 && sub = 9 then s.slotCount
  else if i = 0x5400 && sub = 0x0A then s.slotBytes
  else if 0x5810 ≤ i && i < 0x5818 && sub = 0x12 then (s.engine (i - 0x5810)).state
  else if 0x5810 ≤ i && i < 0x5818 && sub = 0x18 then s.engineHeld (i - 0x5810)
  else if i = 0x6002 && sub = 4 then s.opLimit
  else if 0x6900 ≤ i && i < 0x6A00 && sub = 7 then (s.holder (i - 0x6900)).getD 0xFFFF
  else stored

/-- What an entry from 0x6C00 on reads beyond what is stored for it. -/
def State.readHigh (s : State) (src : Source) (i sub stored : Nat) : Nat :=
  if i = 0x6C00 && sub = 1 then s.now
  else if i = 0x6C00 && sub = 2 then s.wNow
  else if 0x6C10 ≤ i && i < 0x6C14 then s.readDomain (i - 0x6C10) sub stored
  else if 0x7000 ≤ i && i < 0x7004 && sub = 2 then s.part.macs.getD (i - 0x7000) 0
  else if 0x7020 ≤ i && i < 0x7030 then s.readSession (i - 0x7020) sub stored
  else if i = 0x7040 && sub = 2 then channelMask ((List.range 32).filter s.hasKey)
  else if i = 0x7100 && sub = 9 then s.net.marks.length
  else if i = 0x7300 && sub = 3 then ((List.range 1024).filter fun k => s.num (Key.nodeState k) = 2).length
  else if i = 0x7800 && sub = 1 then (if s.part.dense16 then 16 else 8)
  else if 0x8000 ≤ i && i < 0x8300 && sub = 6 then s.hostState (i - 0x8000)
  else if 0x8000 ≤ i && i < 0x8300 && sub = 9 then bit (hmLevelSource (i - 0x8000))
  else if i = 0x8300 && sub = 2 then s.hmWindowOf false + 4 * s.hmWindowOf true
  else if 0x8310 ≤ i && i < 0x8316 then s.readTarget (i - 0x8310) sub stored
  else if i = 0x8420 && sub = 2 then s.thermState
  else if i = 0x8460 && sub = 2 then s.gatedMask
  else if 0x8C00 ≤ i then s.readLogs src i sub stored
  else stored

/-- Entries that report what the model leaves out, times at the memory ports and on the way to Causeway and a core's load: free
values. -/
def unmodelledKey (k : Nat) : Bool :=
  let i := k / 256
  let sub := k % 256
  (0x3000 ≤ i && i < 0x3800 && i % 256 = 0 && sub = 6) || (0x7830 ≤ i && i < 0x7840 && (sub = 2 || sub = 3)) || i = 0x8470

/-- The bytes of a STR or DOMAIN entry as read: the value last accepted (00 R13; 02 R50, R52; 15 R446). -/
def State.readBlob (s : State) (k : Nat) : List Byte :=
  let i := k / 256
  let sub := k % 256
  match keyRow k with
  | none => []
  | some r =>
    if r.access = .wo then []
    else if s.absent k then s.blobDefault k
    else if i = 0x8C11 then (List.range 2048).flatMap fun j => s.recorderSlot (2048 * (sub - 1) + j)
    else if i = 0x4480 && (tblFind s.dict.pendBlobs k).isNone then s.columnBytes (sub - 1)
    else s.lastBlob k

/-- The stored value that a read of an entry starts from: the value last accepted (00 R13), the length of a block (02 R50). -/
def State.readStored (s : State) (k : Nat) (r : EntryRow) : Slot :=
  if r.access = .wo then 0
  else if r.ty.block then BitVec.ofNat 64 (s.readBlob k).length
  else s.lastVal k

/-- The value a source reads from an entry other than `EffectiveValue` and `EffectivePending`, in its 8-byte slot (02 R47). Where
the entry is unknown it reads 0 (02 R38), where it is absent its default (00 R2). -/
def State.readPlain (s : State) (src : Source) (k : Nat) : Slot :=
  let i := k / 256
  let sub := k % 256
  match keyRow k with
  | none => if countEntry k then BitVec.ofNat 64 (highestSub i) else 0
  | some r =>
    if s.absent k then (if r.ty.block then BitVec.ofNat 64 (s.blobDefault k).length else keyDefault k)
    else if r.access = .wo || r.ty.block then s.readStored k r
    else if unmodelledKey k then BitVec.ofNat 64 (s.free % (if i = 0x8470 then 101 else pow2 (keyBits k)))
    else
      let stored := s.readStored k r
      let n := stored.toNat
      BitVec.ofNat 64 (if i < 0x4000 then s.readLow src i sub n else if i < 0x6C00 then s.readMiddle i sub n
        else s.readHigh src i sub n)

/-- The value in effect of an entry as a source sees it, and whether another is pending (02 R46). -/
def State.effective (s : State) (src : Source) (k : Nat) : Slot × Bool :=
  if keyAccess k = .rwt && !s.absent k then (s.val k, (tblFind s.dict.pend k).isSome) else (s.readPlain src k, false)

/-- Whether what a read gives is open: entries the model has no value for, also through `EffectiveValue`, and `EffectiveValue` of
itself, which every value satisfies (02 R46). -/
def State.readOpen (s : State) (src : Source) (k : Nat) : Bool :=
  let q := (s.source src).effTarget
  unmodelledKey k || (k = Key.effectiveValue && (q = k || unmodelledKey q))

/-- The value a source reads from an entry (02 R46, R47): `EffectiveValue` and `EffectivePending` tell of the entry that the source's
query names, as it is now. -/
def State.readValue (s : State) (src : Source) (k : Nat) : Slot :=
  let q := (s.source src).effTarget
  if k = Key.effectiveValue then (if q = k then BitVec.ofNat 64 s.free else (s.effective src q).1)
  else if k = Key.effectivePending then BitVec.ofNat 64 (bit (s.effective src q).2)
  else s.readPlain src k

/-! ## Reads that change the state (00 R13; 04 R125; 12 R383; 13 R409) -/

/-- Times that are still being counted are brought up to the read. -/
def State.settleRead (s : State) (k : Nat) : State :=
  let i := k / 256
  if k = Key.thermLimitTime then s.accrueLimit
  else if 0x2000 ≤ i && i < 0x3000 && k = Key.creditStallTime ((i - 0x2000) / 256) then s.settleStall ((i - 0x2000) / 256)
  else if 0x7C40 ≤ i && i < 0x7C48 && k = Key.hostRingFullTime (i - 0x7C40) && s.ferryState (i - 0x7C40) = fsWaitRing then
    (s.add k (s.now - (s.ferryChan (i - 0x7C40)).waitSince)).modFerry (i - 0x7C40) fun c => { c with waitSince := s.now }
  else s

/-- A source reads an entry: its value, and the state after, in which an RC entry is 0 (00 R13). -/
def State.readEntry (s : State) (src : Source) (k : Nat) : Slot × State :=
  let s := s.settleRead (if k = Key.effectiveValue then (s.source src).effTarget else k)
  let v := s.readValue src k
  let s := if s.readOpen src k then s.stepFree else s
  (v, if keyAccess k = .rc && !s.absent k then s.setVal k 0 else s)

/-- Whether a read of a slot has one of the permitted forms: 8 bytes, or 4 bytes of either half (02 R48). -/
def readFormOk (size ofs : Nat) : Bool := (size = 8 && ofs = 0) || (size = 4 && (ofs = 0 || ofs = 4))

/-- RC_READ (00 R13; 02 R48; 14 R424): a read of an RC entry. The host's reads return the bytes asked for; in any other form 0,
counted. -/
def execRcRead (src : Source) (index : BitVec 16) (sub : BitVec 8) (size ofs : Nat) (s : State) :
    Host.Outcome State Fault Refusal :=
  let k := index.toNat * 256 + sub.toNat
  let answer := fun (s : State) (v : Nat) =>
    if src = .host then s.send (.completion true) (leBytes size v) else s
  if s.life.state = .off then .next s
  else if src = .host && !readFormOk size ofs then .next (answer s.badAccess 0)
  else if !s.life.dictServed then .next (answer s 0)
  else
    let r := s.readEntry src k
    .next (answer r.2 (r.1.toNat / pow2 (8 * ofs)))

end Sys2Proof.Machine
end

