-- ==== Sys2Proof/Machine/Claims.lean ====
section
/-! DEFINITION. Ownership of ranges and the closing of sessions (02 R55–R57; 11 R339). -/

namespace Sys2Proof.Machine

open Sys2Proof

/-! ## Owners (02 R55) -/

/-- The owner of range n replaced. -/
def State.setOwner (s : State) (n : Nat) (o : Owner) : State :=
  { s with dict := { s.dict with owners := tblSet s.dict.owners n o } }

/-- Range n owned by no source. -/
def State.clearOwner (s : State) (n : Nat) : State := { s with dict := { s.dict with owners := tblDel s.dict.owners n } }

/-- The token of a source's next claim: the one it has, else a free nonzero value (02 R55). -/
def State.claimToken (s : State) (src : Source) : Nat × State :=
  let t := s.tokenOf src
  if t = 0 then (s.free % (pow2 32 - 1) + 1, s.stepFree) else (t, s)

/-! ## The four commands (02 R55, R57) -/

/-- The check of a claim or of a release of range n: another source owns it. -/
def State.ownedFails (s : State) (src : Source) (n : Nat) : List Nat := failIf (s.ownedByOther n src) resNotOwner

/-- An accepted claim of range n. -/
def State.claimEffect (s : State) (src : Source) (n : Nat) : State :=
  if s.ownedBy n src then s
  else
    let t := s.claimToken src
    (t.2.setOwner n { source := Source.code src, token := t.1 }).journalEvent (0x400 + n) (Source.code src)

/-- An accepted release of range n. -/
def State.releaseEffect (s : State) (n : Nat) : State :=
  match s.owner n with
  | none => s
  | some o => (s.clearOwner n).journalEvent (0x500 + n) o.source

/-- A break of range n: ownership ends at once, with a warning. -/
def State.breakEffect (s : State) (n : Nat) : State :=
  match s.owner n with
  | none => s
  | some o => ((s.clearOwner n).journalEvent (0x600 + n) o.source).trouble 0x0005 n 1 o.source

/-- The check of a token: a range is held under it. -/
def State.reclaimFails (s : State) (token : Nat) : List Nat := failIf (!(s.dict.owners.any fun e => e.2.token = token)) resRange

/-- A token reclaimed: its ranges become the source's, and all the source's ranges carry it. -/
def State.reclaimEffect (s : State) (src : Source) (token : Nat) : State :=
  if s.tokenOf src = token then s
  else
    let code := Source.code src
    let move := fun (s : State) (e : Nat × Owner) =>
      if e.2.token = token then
        (s.setOwner e.1 { source := code, token := token }).journalEvent (0x700 + e.1) e.2.source
      else if e.2.source = code && e.2.lapse.isNone then s.setOwner e.1 { e.2 with token := token }
      else s
    s.dict.owners.foldl move s

/-- The checks of a write to 0x1110. -/
def State.claimFails (s : State) (src : Source) (sub n : Nat) : List Nat :=
  if sub = 1 || sub = 2 then s.ownedFails src n else if sub = 5 then s.reclaimFails n else []

/-- The effect of a write to 0x1110:01, 02, 03 or 05. -/
def State.claimWrite (s : State) (src : Source) (sub n : Nat) : State :=
  match sub with
  | 1 => s.claimEffect src n
  | 2 => s.releaseEffect n
  | 3 => s.breakEffect n
  | _ => s.reclaimEffect src n

/-- A write to 0x1110:sub in the width of its own row. -/
def State.claimRow (s : State) (src : Source) (sub n : Nat) : State :=
  s.command src (0x1110 * 256 + sub) (BitVec.ofNat 64 n) (fun v => s.claimFails src sub v.toNat) fun v s => s.claimWrite src sub v.toNat

/-- CLAIM_RANGE (02 R55). -/
def execClaimRange (src : Source) (n : BitVec 8) (s : State) : Host.Outcome State Fault Refusal := .next (s.claimRow src 1 n.toNat)

/-- RELEASE_RANGE (02 R57). -/
def execReleaseRange (src : Source) (n : BitVec 8) (s : State) : Host.Outcome State Fault Refusal := .next (s.claimRow src 2 n.toNat)

/-- BREAK_RANGE (02 R57). -/
def execBreakRange (src : Source) (n : BitVec 8) (s : State) : Host.Outcome State Fault Refusal := .next (s.claimRow src 3 n.toNat)

/-- RECLAIM_TOKEN (02 R57). -/
def execReclaimToken (src : Source) (token : BitVec 32) (s : State) : Host.Outcome State Fault Refusal :=
  .next (s.claimRow src 5 token.toNat)

/-! ## The close of a session (02 R57, R68; 11 R339) -/

/-- The code of session i as a source. -/
def sessionCode (i : Nat) : Nat := 0x10 + i

/-- The claims of session i begin to lapse. -/
def State.lapseClaims (s : State) (i : Nat) : State :=
  let at_ := s.now + s.num Key.claimHoldTime * 1000000
  let lapse := fun (e : Nat × Owner) =>
    if e.2.source = sessionCode i && e.2.lapse.isNone then (e.1, { e.2 with lapse := some at_ }) else e
  { s with dict := { s.dict with owners := s.dict.owners.map lapse } }

/-- Session i closes: its transfer and its copies end, and its claims begin to lapse. -/
def State.closeSession (s : State) (i : Nat) : State :=
  match (s.session i).peer with
  | none => s
  | some _ =>
    let s := { s with dict := { s.dict with sources := tblPut s.dict.sources {} (sessionCode i) {} } }
    ((s.modSession i fun _ => {}).lapseClaims i).journalEvent (0x900 + i) 0

/-- The check of a `SessionClose`: a session closes only itself. -/
def closeFails (src : Source) (i : Nat) : List Nat :=
  match src with
  | .session n => failIf (n.val ≠ i) resNotOwner
  | _ => []

/-- SESSION_CLOSE (11 R339). -/
def execSessionClose (src : Source) (value : Slot) (s : State) : Host.Outcome State Fault Refusal :=
  .next (s.command src Key.sessionClose value (fun v => closeFails src v.toNat) fun v s => s.closeSession v.toNat)

/-- Whether session n is open and silent for `SessionTimeout`. -/
def State.sessionSilent (s : State) (n : Nat) : Bool :=
  (s.session n).peer.isSome && (s.session n).lastTime + s.num Key.sessionTimeout * 1000000 ≤ s.now

/-- SESSION_TIMEOUT (11 R339). -/
def execSessionTimeout (n : Fin 16) (s : State) : Host.Outcome State Fault Refusal :=
  .next (if s.sessionSilent n.val then s.closeSession n.val else s)

/-- Whether a claim has lapsed. -/
def State.lapsed (s : State) (n : Nat) (o : Owner) : Bool :=
  o.source = sessionCode n && (match o.lapse with | some t => t ≤ s.now | none => false)

/-- CLAIM_HOLD_EXPIRY (02 R57): the claims of closed session n lapse. -/
def execClaimHoldExpiry (n : Fin 16) (s : State) : Host.Outcome State Fault Refusal :=
  .next { s with dict := { s.dict with owners := s.dict.owners.filter fun e => !s.lapsed n.val e.2 } }

end Sys2Proof.Machine
end

