-- ==== Sys2Proof/Machine/Segments.lean ====
section
/-! DEFINITION. Byte blocks written whole, and the segmented transfers that move them (02 R50–R54; 15 R446). -/

namespace Sys2Proof.Machine

open Sys2Proof

/-! ## A whole block as one write (02 R51) -/

/-- What an accepted block does, beyond being journalled. -/
def State.blockEffect (k : Nat) (b : List Byte) (s : State) : State :=
  let i := k / 256
  if k = Key.keyLoad then s.keyLoadEffect b
  else if k = Key.refStoreWriteData then s.refStoreEffect b
  else if 0x2000 ≤ i && i < 0x3000 then s.tunnelEffect ((i - 0x2000) / 256) b
  else if 0x7400 ≤ i && i < 0x7800 && k % 256 = 0x10 then s.nodeCmdEffect (i - 0x7400) b
  else if keyAccess k = .rwt then s.writeRwtBlob k b
  else s.putBlob k b

/-- A write of a whole STR or DOMAIN value. -/
def State.writeBlock (s : State) (src : Source) (k : Nat) (b : List Byte) : Written :=
  s.attemptBlock src k b (s.settled.blobTies k b) (State.blockEffect k b)

/-! ## A source's transfer (02 R52, R53) -/

/-- The checks of a start: the target, its owner for a download, one transfer a source (02 R53, R54, R56). -/
def State.startFails (s : State) (src : Source) (target : Nat) (download : Bool) : List Nat :=
  let busy := failIf (s.source src).transfer.isSome resBusy
  match keyRow target with
  | none => (if countEntry target then [resSize] else [resUnknown]) ++ busy
  | some r =>
    failIf (!r.ty.block) resSize
      ++ failIf (download && src ≠ .processor && !ownershipExempt target && s.ownedByOther ((rangeOf (target / 256)).getD 0) src)
        resNotOwner
      ++ busy

/-- A transfer ends: done (2) or failed (3), with its result; Harbourmaster source 73 signals the host's (13 R392). -/
def State.endTransfer (s : State) (src : Source) (result : Nat) : State :=
  let s := s.modSource src fun x =>
    { x with transfer := none, segStatus := if result = 0 then 2 else 3, segResult := result }
  if src = .host then s.raiseHm 73 else s

/-- A source's transfer is given up. -/
def State.abortTransfer (s : State) (src : Source) : State :=
  if (s.source src).transfer.isSome then s.endTransfer src resSegAbort else s

/-- Whether a segment of n bytes fits a transfer: not past its end, and in a download a multiple of 8 unless it is the last
(02 R54). -/
def Transfer.takes (t : Transfer) (n : Nat) : Bool :=
  t.offset + n ≤ t.length && (!t.download || n % 8 = 0 || t.offset + n = t.length)

/-- A transfer has moved on to an offset. -/
def State.moveTransfer (s : State) (src : Source) (t : Transfer) (offset : Nat) (data : List Byte) : State :=
  s.modSource src fun x =>
    { x with transfer := some { t with offset := offset, data := data, lastTime := s.now }, segOffset := offset }

/-- A download that is whole: its CRC decides first, then its value is checked and applied as one write (02 R51, R54, R494);
the result and the journal SEQ of the write. -/
def State.applyDownload (s : State) (src : Source) (t : Transfer) (data : List Byte) : Written :=
  if crc32 data ≠ t.crc then ⟨s.endTransfer src resSegCrc, resSegCrc, 0⟩
  else
    let w := s.writeBlock src t.target data
    { w with state := w.state.endTransfer src w.result }

/-- A transfer starts; an upload takes its snapshot (02 R51, R52). One of no bytes is whole at once (log entry 100). -/
def State.startTransfer (s : State) (src : Source) (target : Nat) (download : Bool) (length crc : Nat) : State :=
  let data := if download then [] else s.readBlob target
  let n := if download then length else data.length
  let c := if download then crc else crc32 data
  let t : Transfer := { target := target, download := download, length := n, crc := c, data := data, lastTime := s.now }
  let s := s.modSource src fun x =>
    { x with transfer := some t, segOffset := 0, segStatus := 1, segResult := 0, segLength := n, segCrc := c }
  if n ≠ 0 then s else if download then (s.applyDownload src t []).state else s.endTransfer src 0

/-- The next segment of a download. -/
def State.downloadSegment (s : State) (src : Source) (t : Transfer) (bytes : List Byte) : Written :=
  let data := t.data ++ bytes
  let s := s.moveTransfer src t data.length data
  if data.length < t.length then ⟨s, 0, 0⟩ else s.applyDownload src t data

/-- The next segment of an upload has been given: n bytes from an offset on. -/
def State.uploadSegment (s : State) (src : Source) (t : Transfer) (offset n : Nat) : State :=
  let s := s.moveTransfer src t (offset + n) t.data
  if offset + n < t.length then s else s.endTransfer src 0

/-! ## The window (02 R54) -/

/-- The bytes of a source's data slots. -/
def SourceState.slotBytes (x : SourceState) : List Byte :=
  (List.range 255).flatMap fun j => leBytes 8 (tblGet x.segData 0 (j + 1)).toNat

/-- A source's data slots with bytes put in from the first on. -/
def SourceState.fillSlots (x : SourceState) (bytes : List Byte) : SourceState :=
  let all := bytes ++ x.slotBytes.drop bytes.length
  let slots := (List.range ((bytes.length + 7) / 8)).foldl
    (fun t j => tblPut t 0 (j + 1) (BitVec.ofNat 64 (fieldAt all (8 * j) 8))) x.segData
  { x with segData := slots }

/-- The checks of a `SegStep` of n bytes. -/
def State.stepFails (s : State) (src : Source) (n : Nat) : List Nat :=
  match (s.source src).transfer with
  | none => [resSegAbort]
  | some t => failIf (!t.takes n) resSize

/-- An accepted `SegStep` of n bytes. -/
def State.stepEffect (s : State) (src : Source) (n : Nat) : State :=
  let x := s.source src
  match x.transfer with
  | none => s
  | some t =>
    if t.download then (s.downloadSegment src t (x.slotBytes.take n)).state
    else (s.modSource src fun x => x.fillSlots (bytesAt t.data t.offset n)).uploadSegment src t t.offset n

/-- The checks of a write to 0x1301. -/
def State.windowFails (s : State) (src : Source) (sub v : Nat) : List Nat :=
  let x := s.source src
  if sub = 5 then (if v = 1 then s.startFails src x.segTarget (x.segMode = 1) else [])
  else if sub = 0x0A then s.stepFails src v
  else []

/-- The effect of a write to 0x1301:01 to 05 or 0A. -/
def State.windowWrite (s : State) (src : Source) (sub v : Nat) : State :=
  let x := s.source src
  match sub with
  | 1 => s.modSource src fun x => { x with segTarget := v }
  | 2 => s.modSource src fun x => { x with segMode := v }
  | 3 => s.modSource src fun x => { x with segLength := v }
  | 4 => s.modSource src fun x => { x with segCrc := v }
  | 5 => if v = 1 then s.startTransfer src x.segTarget (x.segMode = 1) x.segLength x.segCrc else s.abortTransfer src
  | _ => s.stepEffect src v

/-- A write to 0x1301:sub in the width of its own row. -/
def State.windowRow (s : State) (src : Source) (sub n : Nat) : State :=
  s.command src (0x1301 * 256 + sub) (BitVec.ofNat 64 n) (fun v => s.windowFails src sub v.toNat) fun v s =>
    s.windowWrite src sub v.toNat

/-- SEG_START (02 R53, R54). -/
def execSegStart (src : Source) (s : State) : Host.Outcome State Fault Refusal := .next (s.windowRow src 5 1)

/-- SEG_ABORT (02 R53). -/
def execSegAbort (src : Source) (s : State) : Host.Outcome State Fault Refusal := .next (s.windowRow src 5 2)

/-- SEG_STEP_DOWNLOAD (02 R54). -/
def execSegStepDownload (src : Source) (n : BitVec 16) (s : State) : Host.Outcome State Fault Refusal :=
  .next (s.windowRow src 0x0A n.toNat)

/-- SEG_STEP_UPLOAD (02 R54). -/
def execSegStepUpload (src : Source) (n : BitVec 16) (s : State) : Host.Outcome State Fault Refusal :=
  .next (s.windowRow src 0x0A n.toNat)

/-- Whether a source's transfer has had no segment for `SegTimeout` (02 R53); T0 keeps the time. -/
def State.transferLate (s : State) (src : Source) : Bool :=
  match (s.source src).transfer with
  | none => false
  | some t => s.life.dictServed && t.lastTime + s.num Key.segTimeout * 1000000 ≤ s.now

/-- SEG_TIMEOUT (02 R53). -/
def execSegTimeout (src : Source) (s : State) : Host.Outcome State Fault Refusal :=
  .next (if s.transferLate src then s.endTransfer src resSegAbort else s)

end Sys2Proof.Machine
end

