-- ==== Sys2Proof/Machine/Write.lean ====
section
/-! DEFINITION. A write to any entry: the checks and effects of commands and per-source copies, and values (02 R34, R35, R44,
R46, R48). -/

namespace Sys2Proof.Machine

open Sys2Proof

/-! ## `ShadowHold` (02 R35, R44) -/

/-- `ShadowHold` written: released outside RUN, every pending value takes effect at once; in RUN, at the next tick. -/
def State.shadowEffect (s : State) (v : Slot) : State :=
  let s := { s with dict := { s.dict with holdTicks := if v = 1 && s.flag Key.shadowHold then s.dict.holdTicks else 0 } }
  let s := s.setVal Key.shadowHold v
  if v = 0 && !s.inRun then s.applyPending else s

/-! ## `EffectiveQuery` (02 R46) -/

/-- The checks of a query: the entry exists and is no wider than 8 bytes. -/
def queryFails (k : Nat) : List Nat :=
  match keyRow k with
  | none => failIf (!countEntry k) resUnknown
  | some r => failIf r.ty.block resSize

/-- An accepted query. -/
def State.queryEffect (s : State) (src : Source) (k : Nat) : State :=
  s.modSource src fun x => { x with effTarget := k }

/-! ## Commands by their entry -/

/-- A calibration request without measurements of its own: what the reference checks find is free (15 R450). -/
def State.calFree (s : State) (v : Slot) : State :=
  let ppb := Config.freeInt s.freeCount
  let vrefOk : Bool := Config.freeNat (s.freeCount + 1) % 2 = 0
  s.stepFree.stepFree.calEffect v ppb vrefOk

/-- The checks of the commands below 0x5000 (02 R55–R61; 04 R108; 07 R226). -/
def State.lowCommandFails (s : State) (src : Source) (k : Nat) (v : Slot) : List Nat :=
  let i := k / 256
  let sub := k % 256
  if k = Key.effectiveQuery then queryFails v.toNat
  else if i = 0x1110 then s.claimFails src sub v.toNat
  else if i = 0x1301 then s.windowFails src sub v.toNat
  else if k = Key.saveCommand then s.saveFails v
  else if k = Key.restoreCommand then s.restoreFails v
  else if 0x2000 ≤ i && i < 0x3000 && k = Key.portPowerRequest ((i - 0x2000) / 256) then s.portPowerFails ((i - 0x2000) / 256) v
  else if k = Key.colModelClear then failIf s.inRun resWrongState
  else []

/-- The checks of the commands from 0x5000 on (10 R306; 11 R339; 12 R382, R383; 15 R450, R452). -/
def State.highCommandFails (s : State) (src : Source) (k : Nat) (v : Slot) : List Nat :=
  let i := k / 256
  if k = Key.inject then s.injectFails v
  else if k = Key.sessionClose then closeFails src v.toNat
  else if 0x7C10 ≤ i && i < 0x7C30 && k = Key.ferryCommand (i - 0x7C10) then s.ferryFails src (i - 0x7C10) v
  else if 0x7C40 ≤ i && i < 0x7C48 && k = Key.hostRingConsumer (i - 0x7C40) then
    failIf (s.num (Key.hostRingProducer (i - 0x7C40)) < v.toNat) resConflict
  else if k = Key.calRequest then s.calFails v
  else if k = Key.calRestoreFactory then failIf (s.life.state ≠ .ready) resWrongState
  else if k = Key.selfTestRequest then s.testFails v
  else []

/-- The effect of a command below 0x5000, or of a write to a per-source copy; `none` for any other entry. -/
def State.lowCommand (s : State) (src : Source) (k : Nat) (v : Slot) : Option State :=
  let i := k / 256
  let sub := k % 256
  let n := v.toNat
  if k = Key.shadowHold then some (s.shadowEffect v)
  else if k = Key.effectiveQuery then some (s.queryEffect src n)
  else if i = 0x1110 && sub ≤ 5 then some (s.claimWrite src sub n)
  else if k = Key.journalReadSeq then
    some (s.modSource src fun x => { x with journal := ⟨n, s.journalSlot n, ringResult s.dict.nextSeq 65536 n⟩ })
  else if k = Key.saveCommand then some s.saveEffect
  else if k = Key.restoreCommand then some (s.restoreEffect v)
  else if i = 0x1301 && sub ≠ 9 then some (s.windowWrite src sub n)
  else if i = 0x1302 then some (s.modSource src fun x => { x with segData := tblPut x.segData 0 sub v })
  else if 0x2000 ≤ i && i < 0x3000 && k = Key.portPowerRequest ((i - 0x2000) / 256) then
    some ((s.setVal k v).portSettle ((i - 0x2000) / 256))
  else if 0x2000 ≤ i && i < 0x3000 && k = Key.ledgerReadSeq ((i - 0x2000) / 256) then
    some (s.ledgerReadEffect src ((i - 0x2000) / 256) n)
  else if k = Key.colModelClear then some s.clearColumns
  else none

/-- The effect of a command from 0x5000 on, or of a write to a per-source copy; `none` for any other entry. -/
def State.highCommand (s : State) (src : Source) (k : Nat) (v : Slot) : Option State :=
  let i := k / 256
  let sub := k % 256
  let n := v.toNat
  if 0x5810 ≤ i && i < 0x5818 && (sub = 8 || sub = 0x0D || sub = 0x10) then
    some ((s.setVal k v).indexWritten (i - 0x5810) (if sub = 8 then 0 else if sub = 0x0D then 1 else 2))
  else if 0x6440 ≤ i && i < 0x6470 && sub = 0x0C then some (s.arm (i - 0x6440) (s.now + 2))
  else if k = Key.inject then some (s.putWire (chanWire n) s.now true)
  else if k = Key.sessionClose then some (s.closeSession n)
  else if k = Key.keyErase then some (s.keyEraseEffect v)
  else if 0x7C10 ≤ i && i < 0x7C30 && sub = 2 then some (s.ferryCommand (i - 0x7C10) v)
  else if 0x7C40 ≤ i && i < 0x7C48 && sub = 5 then some ((s.setVal k v).serveRing (i - 0x7C40))
  else if k = Key.calRequest then some (s.calFree v)
  else if k = Key.calRestoreFactory then some s.factoryTrims
  else if k = Key.selfTestRequest then some (s.testEffect v)
  else if k = Key.troubleReadSeq then
    some (s.modSource src fun x => { x with trouble := ⟨n, s.troubleSlot n, ringResult s.logs.nextTl 16384 n⟩ })
  else if k = Key.recReadIndex then
    some (s.modSource src fun x => { x with recorder := ⟨n, s.recorderSlot n, s.recorderResult n⟩ })
  else if k = Key.recFlush then some s.startFlush
  else none

/-! ## Any entry (02 R34) -/

/-- The checks of a write beyond those every write meets: rules that tie entries together, and a command's own. -/
def State.writeFails (s : State) (src : Source) (k : Nat) (v : Slot) : List Nat :=
  s.tieFails k v ++ (if k < 0x500000 then s.lowCommandFails src k v else s.highCommandFails src k v)

/-- The effect of an accepted write. -/
def State.writeEffect (src : Source) (k : Nat) (v : Slot) (s : State) : State :=
  match (if k < 0x500000 then s.lowCommand src k v else s.highCommand src k v) with
  | some s => s
  | none => if keyAccess k = .rwt then s.writeRwt k v else s.putVal k v

/-- A write of `size` bytes to an entry. -/
def State.write (s : State) (src : Source) (k size : Nat) (v : Slot) : Written :=
  if k = Key.stateRequest then s.request src size v
  else s.attempt src k size v (s.writeFails src k) (State.writeEffect src k)

/-- DICT_WRITE (02 R34, R35, R48; 14 R424). -/
def execDictWrite (src : Source) (index : BitVec 16) (sub : BitVec 8) (size : Nat) (value : Slot) (s : State) :
    Host.Outcome State Fault Refusal :=
  .next (s.write src (index.toNat * 256 + sub.toNat) size value).state

/-- SHADOW_HOLD (02 R44). -/
def execShadowHold (src : Source) (value : Slot) (s : State) : Host.Outcome State Fault Refusal :=
  .next (s.command src Key.shadowHold value (fun _ => []) fun v s => s.shadowEffect v)

/-- EFFECTIVE_QUERY (02 R46). -/
def execEffectiveQuery (src : Source) (target : BitVec 32) (s : State) : Host.Outcome State Fault Refusal :=
  .next (s.command src Key.effectiveQuery (target.setWidth 64) (fun v => queryFails v.toNat) fun v s => s.queryEffect src v.toNat)

end Sys2Proof.Machine
end

