-- ==== Sys2Proof/Machine/Sessions.lean ====
section
/-! DEFINITION. Supervisor sessions over JFP, and the writes that waited for the dictionary (11 R329–R333, R338–R340; 13 R390;
14 R424). -/

namespace Sys2Proof.Machine

open Sys2Proof

/-! ## Form of a datagram's body (11 R329–R333) -/

/-- Whether a list of COUNT items of n bytes is sound. -/
def listOk (b : List Byte) (n : Nat) : Bool :=
  let count := fieldAt b 0 2
  1 ≤ count && count ≤ 32 && fieldAt b 2 2 = 0 && b.length = 4 + n * count

/-- The items of a list. -/
def listItems (b : List Byte) (n : Nat) : List (List Byte) := (chunks n (b.drop 4)).take (fieldAt b 0 2)

/-- Whether a SEG_DATA body is sound: its data only where it is no request. -/
def segDataOk (b : List Byte) : Bool :=
  let n := fieldAt b 8 2
  let flags := fieldAt b 10 1
  12 ≤ b.length && n ≤ 1024 && flags < 2 && fieldAt b 11 1 = 0 && b.length = 12 + (if flags = 1 then 0 else n)

/-- Whether the body of a supervisor's datagram has its type's form, with no reserved bit set. -/
def bodyOk (msg : Nat) (b : List Byte) : Bool :=
  match msg with
  | 0x01 => listOk b 4
  | 0x02 => listOk b 16 && (listItems b 16).all fun x => fieldAt x 5 3 = 0
  | 0x04 => b.length = 16 && fieldAt b 5 3 = 0
  | 0x05 => segDataOk b
  | _ => false

/-! ## Answers (11 R332, R333, R340) -/

/-- One item of a DICT_RESP. -/
structure RespItem where
  target : Nat
  result : Nat
  len    : Nat := 0
  value  : Nat := 0
  jseq   : Nat := 0

/-- The 24 bytes of an item. -/
def RespItem.bytes (x : RespItem) : List Byte :=
  leBytes 4 x.target ++ leBytes 1 x.result ++ leBytes 1 x.len ++ zeros 2 ++ leBytes 8 x.value ++ leBytes 8 x.jseq

/-- The body of a DICT_RESP. -/
def respBody (reqSeq reqType refused : Nat) (items : List RespItem) : List Byte :=
  leBytes 4 reqSeq ++ leBytes 2 items.length ++ leBytes 1 reqType ++ zeros 1 ++ leBytes 4 refused ++ zeros 4
    ++ items.flatMap RespItem.bytes

/-- A datagram to the peer of session i as it stands in `x`, on class 2 (11 R325); a DICT_RESP is kept for a retransmission. -/
def State.reply (s : State) (i : Nat) (x : Session) (msg : Nat) (body : List Byte) : State :=
  match x.peer with
  | none => s
  | some p =>
    let key := if x.auth && x.authSlot < 32 then some (s.keySlot x.authSlot).key else none
    let d := jfpDatagram msg i x.outSeq 0xFFFF body key
    let keep := fun (y : Session) =>
      if y.peer = x.peer then { y with outSeq := (x.outSeq + 1) % pow2 32, answer := if msg = 0x03 then d else y.answer } else y
    (s.modSession i keep).sendField p.port.val 2 { cls := 2, ip := p.ip, udp := p.udp, bytes := d } (countQueueDrop p.port.val)

/-- A DICT_RESP of session i, whose entry before its request was handled is `x`. -/
def State.respond (s : State) (i : Nat) (x : Session) (j : Jfp) (items : List RespItem) : State :=
  let y := s.session i
  let refused := if y.peer = x.peer then y.refused else x.refused
  s.reply i x 0x03 (respBody j.seq j.msgType refused items)

/-- The last DICT_RESP again, unchanged (11 R340). -/
def State.resend (s : State) (x : Session) : State :=
  match x.peer with
  | none => s
  | some p => s.sendField p.port.val 2 { cls := 2, ip := p.ip, udp := p.udp, bytes := x.answer } (countQueueDrop p.port.val)

/-! ## Requests (11 R330–R333) -/

/-- `LEN` of an entry; 0 for STR, DOMAIN and an unknown one (11 R332). -/
def entryLen (k : Nat) : Nat :=
  match keyRow k with
  | none => bit (countEntry k)
  | some r => r.ty.size

/-- One entry of a DICT_READ. -/
def State.readItem (s : State) (src : Source) (k : Nat) : RespItem × State :=
  if (keyRow k).isNone && !countEntry k then ({ target := k, result := resUnknown }, s)
  else
    let r := s.readEntry src k
    ({ target := k, result := 0, len := entryLen k, value := r.1.toNat }, r.2)

/-- One item of a DICT_WRITE. -/
def State.writeItem (s : State) (src : Source) (b : List Byte) : RespItem × State :=
  let k := fieldAt b 0 4
  let w := s.write src k (fieldAt b 4 1) (BitVec.ofNat 64 (fieldAt b 8 8))
  ({ target := k, result := w.result, len := entryLen k, jseq := w.seq }, w.state)

/-- Items handled in order, with the answers to them. -/
def State.eachItem {α : Type} (f : State → α → RespItem × State) : State → List α → List RespItem × State
  | s, [] => ([], s)
  | s, x :: rest =>
    let r := f s x
    let rs := State.eachItem f r.2 rest
    (r.1 :: rs.1, rs.2)

/-- A SEG_INIT of a session: start or abort of its transfer (11 R333). -/
def State.segInit (s : State) (src : Source) (b : List Byte) : RespItem × State :=
  let k := fieldAt b 0 4
  let mode := fieldAt b 4 1
  let length := fieldAt b 8 4
  let bad : Bool := mode = 0 || 3 < mode || (mode = 1 && (length = 0 || 65536 < length))
  if mode = 3 then ({ target := k, result := 0 }, s.abortTransfer src)
  else
    let code := firstCode ((if mode = 1 || mode = 2 then s.startFails src k (mode = 1) else []) ++ failIf bad resRange)
    if code ≠ 0 then ({ target := k, result := code }, s)
    else
      let s := s.modSource src fun x => { x with segTarget := k, segMode := mode }
      let s := s.startTransfer src k (mode = 1) length (fieldAt b 12 4)
      let x := s.source src
      ({ target := k, result := 0, value := if mode = 2 then x.segLength + x.segCrc * pow2 32 else 0 }, s)

/-- The body of a SEG_DATA of the processor's (11 R333). -/
def segDataBody (target offset : Nat) (data : List Byte) : List Byte :=
  leBytes 4 target ++ leBytes 4 offset ++ leBytes 2 data.length ++ zeros 2 ++ data

/-- A SEG_DATA of a session, refused with a code. -/
def State.refuseSegment (s : State) (i : Nat) (j : Jfp) (k code value : Nat) : State :=
  s.respond i (s.session i) j [{ target := k, result := code, value := value }]

/-- A segment of a session's download (11 R333). -/
def State.segDown (s : State) (i : Nat) (j : Jfp) (src : Source) (t : Transfer) : State :=
  let b := j.body
  let data := b.drop 12
  if fieldAt b 0 4 ≠ t.target || fieldAt b 10 1 = 1 || fieldAt b 4 4 ≠ t.offset || !t.takes data.length then
    s.refuseSegment i j (fieldAt b 0 4) resSize t.offset
  else
    let x := s.session i
    let w := s.downloadSegment src t data
    w.state.respond i x j [{ target := t.target, result := w.result, value := t.offset + data.length, jseq := w.seq }]

/-- A request for bytes of a session's upload (11 R333). -/
def State.segUp (s : State) (i : Nat) (j : Jfp) (src : Source) (t : Transfer) : State :=
  let b := j.body
  let ofs := fieldAt b 4 4
  let n := fieldAt b 8 2
  if fieldAt b 0 4 ≠ t.target || fieldAt b 10 1 = 0 || t.length < ofs + n then s.refuseSegment i j (fieldAt b 0 4) resSize 0
  else
    let x := s.session i
    (s.uploadSegment src t ofs n).reply i x 0x05 (segDataBody t.target ofs (bytesAt t.data ofs n))

/-- A request of session i that is accepted, applied and answered. -/
def State.serveRequest (s : State) (i : Fin 16) (j : Jfp) : State :=
  let src := Source.session i
  let x := s.session i.val
  match j.msgType with
  | 0x01 =>
    let r := State.eachItem (fun s b => s.readItem src (ofLe b)) s (listItems j.body 4)
    r.2.respond i.val x j r.1
  | 0x02 =>
    let r := State.eachItem (fun s b => s.writeItem src b) s (listItems j.body 16)
    r.2.respond i.val x j r.1
  | 0x04 =>
    let r := s.segInit src j.body
    r.2.respond i.val x j [r.1]
  | _ =>
    match (s.source src).transfer with
    | none => s.refuseSegment i.val j (fieldAt j.body 0 4) resSegAbort 0
    | some t => if t.download then s.segDown i.val j src t else s.segUp i.val j src t

/-! ## Sessions (11 R338–R340) -/

/-- The key slot whose peer address is ip; 0xFF where there is none (11 R338). -/
def State.slotOf (s : State) (ip : Nat) : Nat :=
  ((List.range 32).find? fun i => s.hasKey i && (s.keySlot i).ip = ip).getD 0xFF

/-- A datagram failed authentication (11 R338). -/
def State.authFailure (s : State) : State := s.bump Key.authFailures

/-- A datagram of an open session whose peer and authentication are right, by its `SEQ` (11 R340). -/
def State.sequenced (s : State) (i : Fin 16) (j : Jfp) : State :=
  let x := s.session i.val
  let d := seqDiff j.seq x.lastSeq
  if d < 0 then s.bump Key.replayDiscards
  else
    let s := s.modSession i.val fun y => { y with lastTime := s.now }
    if d = 0 then s.resend x
    else (s.modSession i.val fun y => { y with lastSeq := j.seq }).serveRequest i j

/-- The session that a peer holds. -/
def State.sessionOf (s : State) (p : Peer) : Option Nat := (List.range 16).find? fun i => (s.session i).peer = some p

/-- The lowest free session. -/
def State.freeSession (s : State) : Option Nat := (List.range 16).find? fun i => (s.session i).peer.isNone

/-- Session i opens for a peer; its opening is journalled (02 R68; 11 R339). -/
def State.beginSession (s : State) (i : Nat) (p : Peer) (auth : Bool) (slot : Nat) : State :=
  (s.modSession i fun _ => { peer := some p, auth := auth, authSlot := slot }).journalEvent (0x800 + i) (p.udp + p.ip * pow2 16)

/-- A DICT_READ with `SESSION` 0xFF: a session opens, or the peer gets the one it holds (11 R339). -/
def State.openSession (s : State) (p : Peer) (j : Jfp) (slot : Nat) : State :=
  match s.sessionOf p with
  | some i =>
    let x := s.session i
    if j.seq = x.lastSeq && !x.answer.isEmpty then (s.modSession i fun y => { y with lastTime := s.now }).resend x
    else
      let s := s.modSession i fun y => { y with lastTime := s.now, lastSeq := j.seq }
      s.serveRequest (Fin.ofNat 16 i) j
  | none =>
    match s.freeSession with
    | none => s.bump Key.sessionRefused
    | some i =>
      let s := s.beginSession i p j.auth slot
      let s := s.modSession i fun y => { y with lastTime := s.now, lastSeq := j.seq }
      s.serveRequest (Fin.ofNat 16 i) j

/-- A supervisor's datagram that T0 takes (11 R329, R338–R340). -/
def State.takeSupervisor (s : State) (p : Peer) (d : List Byte) : State :=
  match parseJfp d with
  | none => s.jfpDiscard
  | some j =>
    let opening : Bool := j.session = 0xFF && j.msgType = 0x01
    let known : Bool := j.session < 16 && (s.session j.session).peer = some p
    if !bodyOk j.msgType j.body || !(opening || known) then s.jfpDiscard
    else
      let slot := if opening then s.slotOf p.ip else (s.session j.session).authSlot
      if !s.authOk j slot then s.authFailure
      else if opening then s.openSession p j slot
      else s.sequenced (Fin.ofNat 16 j.session) j

/-- Whether firmware takes datagrams from field port p: its link is up (11 R323). -/
def State.fieldServed (s : State) (p : Nat) : Bool := s.firmwareRuns && s.flag (Key.fldLinkUp p)

/-- A supervisor's datagram arrives: it waits while T0 restarts, and behind one that waits (13 R390). -/
def State.supervisor (s : State) (p : Peer) (d : List Byte) : State :=
  if !s.fieldServed p.port.val then s
  else if !s.life.dictServed || !s.dict.held.isEmpty || !s.net.waiting.isEmpty then
    { s with net := { s.net with waiting := s.net.waiting ++ [(p, d)] } }
  else s.takeSupervisor p d

/-- SESSION_OPEN (11 R339). -/
def execSessionOpen (peer : Peer) (datagram : List Byte) (s : State) : Host.Outcome State Fault Refusal := .next (s.supervisor peer datagram)

/-- DICT_READ (11 R330, R332). -/
def execDictRead (peer : Peer) (datagram : List Byte) (s : State) : Host.Outcome State Fault Refusal := .next (s.supervisor peer datagram)

/-- DICT_WRITE over JFP (11 R331, R332). -/
def execDictWriteJfp (peer : Peer) (datagram : List Byte) (s : State) : Host.Outcome State Fault Refusal := .next (s.supervisor peer datagram)

/-- RETRANSMISSION (11 R340). -/
def execRetransmission (peer : Peer) (datagram : List Byte) (s : State) : Host.Outcome State Fault Refusal := .next (s.supervisor peer datagram)

/-- SEG_INIT, mode 1 (11 R333). -/
def execSegInitDownload (peer : Peer) (datagram : List Byte) (s : State) : Host.Outcome State Fault Refusal := .next (s.supervisor peer datagram)

/-- SEG_INIT, mode 2 (11 R333). -/
def execSegInitUpload (peer : Peer) (datagram : List Byte) (s : State) : Host.Outcome State Fault Refusal := .next (s.supervisor peer datagram)

/-- SEG_INIT, mode 3 (11 R333). -/
def execSegInitAbort (peer : Peer) (datagram : List Byte) (s : State) : Host.Outcome State Fault Refusal := .next (s.supervisor peer datagram)

/-- SEG_DATA of a download (11 R333). -/
def execSegDataDownload (peer : Peer) (datagram : List Byte) (s : State) : Host.Outcome State Fault Refusal := .next (s.supervisor peer datagram)

/-- SEG_DATA with `REQUEST` (11 R333). -/
def execSegDataRequest (peer : Peer) (datagram : List Byte) (s : State) : Host.Outcome State Fault Refusal := .next (s.supervisor peer datagram)

/-! ## HELD_WRITES_APPLY (13 R390; 14 R424) -/

/-- A write that waited is checked and applied now. -/
def State.applyHeld (s : State) (w : HeldWrite) : State :=
  (s.write w.src (w.index.toNat * 256 + w.sub.toNat) w.size w.value).state

/-- HELD_WRITES_APPLY: once the dictionary is served, the writes that waited are applied in order, and then the supervisors'
datagrams that waited. -/
def execHeldWritesApply (s : State) : Host.Outcome State Fault Refusal :=
  if !s.life.dictServed then .next s
  else
    let ws := s.dict.held
    let ds := s.net.waiting
    let s := { s with dict := { s.dict with held := [] }, net := { s.net with waiting := [] } }
    let s := ws.foldl State.applyHeld s
    .next (ds.foldl (fun s d => s.takeSupervisor d.1 d.2) s)

end Sys2Proof.Machine
end

