-- ==== Sys2Proof/Machine/Dispatch.lean ====
section
/-! DEFINITION. The dispatch: one arm per command, each a call of the command's meaning. -/

namespace Sys2Proof.Machine

open Sys2Proof

/-- The effect of a command on everything but the queue. -/
def exec (i : Instr) (s : State) : Host.Outcome State Fault Refusal :=
  match i with
  | .suppliesValid resetHigh bootMode => Sys2Proof.Machine.execSuppliesValid resetHigh bootMode s
  | .supplyLoss => Sys2Proof.Machine.execSupplyLoss s
  | .sysResetAssert => Sys2Proof.Machine.execSysResetAssert s
  | .sysResetRelease bootMode => Sys2Proof.Machine.execSysResetRelease bootMode s
  | .slotVerifyComplete readError header body => Sys2Proof.Machine.execSlotVerifyComplete readError header body s
  | .initComplete => Sys2Proof.Machine.execInitComplete s
  | .initFail unit step device => Sys2Proof.Machine.execInitFail unit step device s
  | .stateRequestRun src => Sys2Proof.Machine.execStateRequestRun src s
  | .stateRequestReady src pfailHigh => Sys2Proof.Machine.execStateRequestReady src pfailHigh s
  | .stateRequestSafe src => Sys2Proof.Machine.execStateRequestSafe src s
  | .runDrainComplete => Sys2Proof.Machine.execRunDrainComplete s
  | .faultEntry cause unit => Sys2Proof.Machine.execFaultEntry cause unit s
  | .autoResume => Sys2Proof.Machine.execAutoResume s
  | .pfail => Sys2Proof.Machine.execPfail s
  | .saveCommand src value => Sys2Proof.Machine.execSaveCommand src value s
  | .saveComplete writeOk at_ => Sys2Proof.Machine.execSaveComplete writeOk at_ s
  | .restoreImage src => Sys2Proof.Machine.execRestoreImage src s
  | .restoreDefaults src => Sys2Proof.Machine.execRestoreDefaults src s
  | .dictWrite src index sub size value => Sys2Proof.Machine.execDictWrite src index sub size value s
  | .rcRead src index sub size ofs => Sys2Proof.Machine.execRcRead src index sub size ofs s
  | .shadowHold src value => Sys2Proof.Machine.execShadowHold src value s
  | .shadowHoldLimit => Sys2Proof.Machine.execShadowHoldLimit s
  | .effectiveQuery src target => Sys2Proof.Machine.execEffectiveQuery src target s
  | .claimRange src n => Sys2Proof.Machine.execClaimRange src n s
  | .releaseRange src n => Sys2Proof.Machine.execReleaseRange src n s
  | .breakRange src n => Sys2Proof.Machine.execBreakRange src n s
  | .reclaimToken src token => Sys2Proof.Machine.execReclaimToken src token s
  | .claimHoldExpiry n => Sys2Proof.Machine.execClaimHoldExpiry n s
  | .journalReadSeq src seq => Sys2Proof.Machine.execJournalReadSeq src seq s
  | .segStart src => Sys2Proof.Machine.execSegStart src s
  | .segAbort src => Sys2Proof.Machine.execSegAbort src s
  | .segStepDownload src n => Sys2Proof.Machine.execSegStepDownload src n s
  | .segStepUpload src n => Sys2Proof.Machine.execSegStepUpload src n s
  | .segTimeout src => Sys2Proof.Machine.execSegTimeout src s
  | .stripTick => Sys2Proof.Machine.execStripTick s
  | .forcedTick => Sys2Proof.Machine.execForcedTick s
  | .deferredTick => Sys2Proof.Machine.execDeferredTick s
  | .opChangeComplete => Sys2Proof.Machine.execOpChangeComplete s
  | .pmbSettle => Sys2Proof.Machine.execPmbSettle s
  | .stripComplete => Sys2Proof.Machine.execStripComplete s
  | .pipelineCheck p crcOk => Sys2Proof.Machine.execPipelineCheck p crcOk s
  | .tableLoadComplete port => Sys2Proof.Machine.execTableLoadComplete port s
  | .laneCdrLock lane => Sys2Proof.Machine.execLaneCdrLock lane s
  | .laneNoSignal lane => Sys2Proof.Machine.execLaneNoSignal lane s
  | .blockLock lane => Sys2Proof.Machine.execBlockLock lane s
  | .blockSlip lane => Sys2Proof.Machine.execBlockSlip lane s
  | .alignmentMarker lane block bip => Sys2Proof.Machine.execAlignmentMarker lane block bip s
  | .markerTimeout lane => Sys2Proof.Machine.execMarkerTimeout lane s
  | .laneLost lane byHeaders => Sys2Proof.Machine.execLaneLost lane byHeaders s
  | .portDeskew port skewNs => Sys2Proof.Machine.execPortDeskew port skewNs s
  | .deskewRetry port => Sys2Proof.Machine.execDeskewRetry port s
  | .camSilentTimeout port => Sys2Proof.Machine.execCamSilentTimeout port s
  | .portPowerL0 src port => Sys2Proof.Machine.execPortPowerL0 src port s
  | .portPowerL1 src port => Sys2Proof.Machine.execPortPowerL1 src port s
  | .portPowerL2 src port => Sys2Proof.Machine.execPortPowerL2 src port s
  | .portPowerUpComplete port => Sys2Proof.Machine.execPortPowerUpComplete port s
  | .packetStart port length => Sys2Proof.Machine.execPacketStart port length s
  | .linePacketHeader port header => Sys2Proof.Machine.execLinePacketHeader port header s
  | .linePacketEnd port payload payCrc framingOk => Sys2Proof.Machine.execLinePacketEnd port payload payCrc framingOk s
  | .statusPacket port packet => Sys2Proof.Machine.execStatusPacket port packet s
  | .tunnelRequest src port payload => Sys2Proof.Machine.execTunnelRequest src port payload s
  | .tunnelResponse port packet => Sys2Proof.Machine.execTunnelResponse port packet s
  | .tunnelTimeout port => Sys2Proof.Machine.execTunnelTimeout port s
  | .creditPacket port => Sys2Proof.Machine.execCreditPacket port s
  | .creditPacketPeriodic port => Sys2Proof.Machine.execCreditPacketPeriodic port s
  | .timeBeacon port => Sys2Proof.Machine.execTimeBeacon port s
  | .lineTrigger port => Sys2Proof.Machine.execLineTrigger port s
  | .ledgerEntryTimeout port seq => Sys2Proof.Machine.execLedgerEntryTimeout port seq s
  | .ledgerReadSeq src port seq => Sys2Proof.Machine.execLedgerReadSeq src port seq s
  | .planeProcess p => Sys2Proof.Machine.execPlaneProcess p s
  | .planeMissingTimeout port => Sys2Proof.Machine.execPlaneMissingTimeout port s
  | .cameraLineArrival port => Sys2Proof.Machine.execCameraLineArrival port s
  | .missingLineReport port => Sys2Proof.Machine.execMissingLineReport port s
  | .portWaitExpired port => Sys2Proof.Machine.execPortWaitExpired port s
  | .worldLineForm => Sys2Proof.Machine.execWorldLineForm s
  | .reefLine => Sys2Proof.Machine.execReefLine s
  | .reefResume => Sys2Proof.Machine.execReefResume s
  | .colModelClear src value => Sys2Proof.Machine.execColModelClear src value s
  | .refStoreWriteData src data => Sys2Proof.Machine.execRefStoreWriteData src data s
  | .pieceStart => Sys2Proof.Machine.execPieceStart s
  | .pieceEndEvent => Sys2Proof.Machine.execPieceEndEvent s
  | .atollLine => Sys2Proof.Machine.execAtollLine s
  | .atollResume => Sys2Proof.Machine.execAtollResume s
  | .chipCut => Sys2Proof.Machine.execChipCut s
  | .stagingUnit stream toEngine => Sys2Proof.Machine.execStagingUnit stream toEngine s
  | .recordBatchSend emitter => Sys2Proof.Machine.execRecordBatchSend emitter s
  | .recordBatchTimeout emitter => Sys2Proof.Machine.execRecordBatchTimeout emitter s
  | .compressionUnitStart e desc hostSrc => Sys2Proof.Machine.execCompressionUnitStart e desc hostSrc s
  | .compressionBufferFull e desc => Sys2Proof.Machine.execCompressionBufferFull e desc s
  | .bufProducer src e value => Sys2Proof.Machine.execBufProducer src e value s
  | .jobProducer src e value => Sys2Proof.Machine.execJobProducer src e value s
  | .chainDeadline e => Sys2Proof.Machine.execChainDeadline e s
  | .compressionUnitEnd e => Sys2Proof.Machine.execCompressionUnitEnd e s
  | .fallbackComplete e => Sys2Proof.Machine.execFallbackComplete e s
  | .fallbackDeadline e => Sys2Proof.Machine.execFallbackDeadline e s
  | .compressionBusError e => Sys2Proof.Machine.execCompressionBusError e s
  | .encoderEdge c a b => Sys2Proof.Machine.execEncoderEdge c a b s
  | .encoderIndex c => Sys2Proof.Machine.execEncoderIndex c s
  | .compareTimeFire u => Sys2Proof.Machine.execCompareTimeFire u s
  | .cmpArm src u value => Sys2Proof.Machine.execCmpArm src u value s
  | .cmpArmEvent u => Sys2Proof.Machine.execCmpArmEvent u s
  | .triggerOutputEvent o => Sys2Proof.Machine.execTriggerOutputEvent o s
  | .triggerPulseStart o => Sys2Proof.Machine.execTriggerPulseStart o s
  | .triggerPulseEnd o => Sys2Proof.Machine.execTriggerPulseEnd o s
  | .eventInputEdge input level => Sys2Proof.Machine.execEventInputEdge input level s
  | .narrowsHop k => Sys2Proof.Machine.execNarrowsHop k s
  | .narrowsGuardInterval => Sys2Proof.Machine.execNarrowsGuardInterval s
  | .encIllegalInterval => Sys2Proof.Machine.execEncIllegalInterval s
  | .inject src k => Sys2Proof.Machine.execInject src k s
  | .motionRawSample c => Sys2Proof.Machine.execMotionRawSample c s
  | .motionOutput c => Sys2Proof.Machine.execMotionOutput c s
  | .wUpdate => Sys2Proof.Machine.execWUpdate s
  | .wSelect src value => Sys2Proof.Machine.execWSelect src value s
  | .domOffset src d value => Sys2Proof.Machine.execDomOffset src d value s
  | .domRate src d value => Sys2Proof.Machine.execDomRate src d value s
  | .ptpSync inst port masterTime => Sys2Proof.Machine.execPtpSync inst port masterTime s
  | .ptpAnnounce inst port msg => Sys2Proof.Machine.execPtpAnnounce inst port msg s
  | .ptpSyncTimeout inst => Sys2Proof.Machine.execPtpSyncTimeout inst s
  | .ptpSyncTransmit inst => Sys2Proof.Machine.execPtpSyncTransmit inst s
  | .ptpPdelay port delayNs capable => Sys2Proof.Machine.execPtpPdelay port delayNs capable s
  | .fieldLinkChange port up => Sys2Proof.Machine.execFieldLinkChange port up s
  | .preemptVerify port => Sys2Proof.Machine.execPreemptVerify port s
  | .arpRequest port senderMac senderIp targetIp => Sys2Proof.Machine.execArpRequest port senderMac senderIp targetIp s
  | .icmpEcho peer targetIp body => Sys2Proof.Machine.execIcmpEcho peer targetIp body s
  | .frameDiscard port => Sys2Proof.Machine.execFrameDiscard port s
  | .sessionOpen peer datagram => Sys2Proof.Machine.execSessionOpen peer datagram s
  | .dictRead peer datagram => Sys2Proof.Machine.execDictRead peer datagram s
  | .dictWriteJfp peer datagram => Sys2Proof.Machine.execDictWriteJfp peer datagram s
  | .retransmission peer datagram => Sys2Proof.Machine.execRetransmission peer datagram s
  | .segInitDownload peer datagram => Sys2Proof.Machine.execSegInitDownload peer datagram s
  | .segInitUpload peer datagram => Sys2Proof.Machine.execSegInitUpload peer datagram s
  | .segInitAbort peer datagram => Sys2Proof.Machine.execSegInitAbort peer datagram s
  | .segDataDownload peer datagram => Sys2Proof.Machine.execSegDataDownload peer datagram s
  | .segDataRequest peer datagram => Sys2Proof.Machine.execSegDataRequest peer datagram s
  | .sessionTimeout n => Sys2Proof.Machine.execSessionTimeout n s
  | .sessionClose src value => Sys2Proof.Machine.execSessionClose src value s
  | .cyclicOut k => Sys2Proof.Machine.execCyclicOut k s
  | .nodeProbe k => Sys2Proof.Machine.execNodeProbe k s
  | .cyclicIn peer datagram => Sys2Proof.Machine.execCyclicIn peer datagram s
  | .nodeAck peer datagram => Sys2Proof.Machine.execNodeAck peer datagram s
  | .nodeAckDeadline k cmdId => Sys2Proof.Machine.execNodeAckDeadline k cmdId s
  | .eventNotify peer datagram => Sys2Proof.Machine.execEventNotify peer datagram s
  | .class7Launch port => Sys2Proof.Machine.execClass7Launch port s
  | .markRepredict => Sys2Proof.Machine.execMarkRepredict s
  | .markCommit k cmdId => Sys2Proof.Machine.execMarkCommit k cmdId s
  | .markHoldTimeout k cmdId => Sys2Proof.Machine.execMarkHoldTimeout k cmdId s
  | .nodeCmdWrite src k data => Sys2Proof.Machine.execNodeCmdWrite src k data s
  | .keyLoad src data => Sys2Proof.Machine.execKeyLoad src data s
  | .keyErase src value => Sys2Proof.Machine.execKeyErase src value s
  | .g6Access port unit write bank row edcFails ecc => Sys2Proof.Machine.execG6Access port unit write bank row edcFails ecc s
  | .g6TempRead j celsius answered => Sys2Proof.Machine.execG6TempRead j celsius answered s
  | .refreshInterval ch idle => Sys2Proof.Machine.execRefreshInterval ch idle s
  | .refreshWindowEnd ch => Sys2Proof.Machine.execRefreshWindowEnd ch s
  | .rowIdleClose ch bank => Sys2Proof.Machine.execRowIdleClose ch bank s
  | .ferryStart src ch => Sys2Proof.Machine.execFerryStart src ch s
  | .ferryAbort src ch => Sys2Proof.Machine.execFerryAbort src ch s
  | .ferryFetchComplete ch hostBytes failed => Sys2Proof.Machine.execFerryFetchComplete ch hostBytes failed s
  | .ferryBurstIssue => Sys2Proof.Machine.execFerryBurstIssue s
  | .ferryBurstComplete ch srcHost dstHost => Sys2Proof.Machine.execFerryBurstComplete ch srcHost dstHost s
  | .ferryDescriptorEnd ch => Sys2Proof.Machine.execFerryDescriptorEnd ch s
  | .ferryGrant ch => Sys2Proof.Machine.execFerryGrant ch s
  | .ferryCompletionTimeout ch => Sys2Proof.Machine.execFerryCompletionTimeout ch s
  | .hostRingConsumer src st value => Sys2Proof.Machine.execHostRingConsumer src st value s
  | .hmSourceEvent n => Sys2Proof.Machine.execHmSourceEvent n s
  | .hmModExpiry t => Sys2Proof.Machine.execHmModExpiry t s
  | .hbClaim t => Sys2Proof.Machine.execHbClaim t s
  | .hbEoi t value => Sys2Proof.Machine.execHbEoi t value s
  | .hmHostAttach src value => Sys2Proof.Machine.execHmHostAttach src value s
  | .msixUnmask vector => Sys2Proof.Machine.execMsixUnmask vector s
  | .perst kind => Sys2Proof.Machine.execPerst kind s
  | .flr => Sys2Proof.Machine.execFlr s
  | .d3hotEntry pmeEn => Sys2Proof.Machine.execD3hotEntry pmeEn s
  | .d0Return => Sys2Proof.Machine.execD0Return s
  | .pcieLinkUp width speed => Sys2Proof.Machine.execPcieLinkUp width speed s
  | .hbBar2Base value => Sys2Proof.Machine.execHbBar2Base value s
  | .bar2Read offset length starved => Sys2Proof.Machine.execBar2Read offset length starved s
  | .bar2Write offset data => Sys2Proof.Machine.execBar2Write offset data s
  | .hbRingCons st value => Sys2Proof.Machine.execHbRingCons st value s
  | .hbCompIdx e reg value => Sys2Proof.Machine.execHbCompIdx e reg value s
  | .hbFerryDbStart ch addr => Sys2Proof.Machine.execHbFerryDbStart ch addr s
  | .hbFerryDbAbort ch => Sys2Proof.Machine.execHbFerryDbAbort ch s
  | .hbBadAccess => Sys2Proof.Machine.execHbBadAccess s
  | .heldWritesApply => Sys2Proof.Machine.execHeldWritesApply s
  | .coreHeartbeatMiss core => Sys2Proof.Machine.execCoreHeartbeatMiss core s
  | .coreRestartComplete core => Sys2Proof.Machine.execCoreRestartComplete core s
  | .thermConversion temps => Sys2Proof.Machine.execThermConversion temps s
  | .regulatorPoll readings => Sys2Proof.Machine.execRegulatorPoll readings s
  | .pmbAlert r status => Sys2Proof.Machine.execPmbAlert r status s
  | .avsTrimUpdate mv => Sys2Proof.Machine.execAvsTrimUpdate mv s
  | .energySample mw => Sys2Proof.Machine.execEnergySample mw s
  | .recFlush src value => Sys2Proof.Machine.execRecFlush src value s
  | .recorderFlushTimer => Sys2Proof.Machine.execRecorderFlushTimer s
  | .recorderFlushComplete failed => Sys2Proof.Machine.execRecorderFlushComplete failed s
  | .recReadIndex src index => Sys2Proof.Machine.execRecReadIndex src index s
  | .troubleReadSeq src seq => Sys2Proof.Machine.execTroubleReadSeq src seq s
  | .operatingSecondsSave => Sys2Proof.Machine.execOperatingSecondsSave s
  | .calRequest src banks refclkPpb vrefOk => Sys2Proof.Machine.execCalRequest src banks refclkPpb vrefOk s
  | .calBankComplete trims => Sys2Proof.Machine.execCalBankComplete trims s
  | .trimApply o => Sys2Proof.Machine.execTrimApply o s
  | .calRestoreFactory src value => Sys2Proof.Machine.execCalRestoreFactory src value s
  | .selftestMemoryBist src devmask => Sys2Proof.Machine.execSelftestMemoryBist src devmask s
  | .selftestLaneLoopback src unit => Sys2Proof.Machine.execSelftestLaneLoopback src unit s
  | .selftestGoldenVectors src unit => Sys2Proof.Machine.execSelftestGoldenVectors src unit s
  | .selftestComplete pass detail => Sys2Proof.Machine.execSelftestComplete pass detail s
  | .lrefLoss b => Sys2Proof.Machine.execLrefLoss b s
  | .lrefSwitchComplete => Sys2Proof.Machine.execLrefSwitchComplete s
  | .lrefBothLost => Sys2Proof.Machine.execLrefBothLost s
  | .ptpAnnounceTimeout inst => Sys2Proof.Machine.execPtpAnnounceTimeout inst s
  | .hmLevelFall n => Sys2Proof.Machine.execHmLevelFall n s
  | .busMasterEnableWrite value => Sys2Proof.Machine.execBusMasterEnableWrite value s
  | .lrefReturn b => Sys2Proof.Machine.execLrefReturn b s

end Sys2Proof.Machine
end

