-- ==== Sys2Proof/Safety.lean ====
section
/-! DEFINITION. The terms in which statements speak of safe runs: the machine's invariant, when the dictionary takes a write,
and what an accepted write leaves behind. -/

namespace Sys2Proof.Machine

open Sys2Proof

/-- The invariant: the memory is in its canonical form (12 R349). -/
def State.Inv (s : State) : Prop := Memory.wf s.g6.mem = true

/-- The dictionary takes a write at once: the processor is not in OFF, the dictionary is served and no write waits before it
(02 R40, R42). -/
def State.takesWrites (s : State) : Prop := s.life.state ≠ .off ∧ s.life.dictServed = true ∧ s.dict.held = []

/-- A write to the entry of a command's own row passes the checks that every write meets (02 R34). -/
def State.admits (s : State) (src : Source) (k : Nat) (v : Slot) : Prop :=
  s.takesWrites ∧ s.commonFails src k (naturalSize src k) v = []

/-- What an accepted write leaves behind beside its effect: its journal entry (02 R64–R66), and for the host its last result,
target and SEQ (02 R49). -/
def State.accepted (s t : State) (src : Source) (k : Nat) (v : Slot) : Prop :=
  (s.life.logsOn = true → t.dict.nextSeq = s.dict.nextSeq + 1 ∧ ∃ e : JournalEntry, t.dict.journal.head? = some e
    ∧ e.seq = s.dict.nextSeq ∧ e.time = s.wNow ∧ e.source = Source.code src ∧ e.target = k ∧ e.value = v.toNat ∧ e.result = 0)
  ∧ (src = .host → t.num Key.hostLastResult = 0 ∧ t.num Key.hostLastTarget = k
    ∧ t.val Key.hostLastSeq = BitVec.ofNat 64 s.dict.nextSeq)

end Sys2Proof.Machine
end

