-- ==== Sys2Proof/WellFormed.lean ====
section
/-! DEFINITION. Which commands are well formed: what their operands must be for an event to be possible at the chip's
interfaces. The machine gives every command its meaning, well formed or not. -/

namespace Sys2Proof

/-- Whether a peer's address and port have the widths of IPv4 and UDP (11 R324). -/
def Peer.wf (p : Peer) : Bool := p.ip < pow2 32 && p.udp < pow2 16

/-- Whether the fields of an Announce message have their widths (11 R320). -/
def Announce.wf (a : Announce) : Bool :=
  a.priority1 < 256 && a.clockQuality < pow2 32 && a.priority2 < 256 && a.gmIdentity < pow2 64 && a.stepsRemoved < pow2 16

/-- Whether a reading has the widths of `RegVout`, `RegIout`, `RegStatusWord` and `RegTemp` (13 R413). -/
def RegReading.wf (r : RegReading) : Bool :=
  r.vout < pow2 16 && r.iout < pow2 32 && r.status < pow2 16 && -32768 ≤ r.temp && r.temp < 32768

/-- Whether a UDP datagram fits a frame of the field network (11 R323, R329). -/
def datagramWf (d : List Byte) : Bool := d.length ≤ 1472

/-- Whether a byte block has a length a DOMAIN value can have (02 R32). -/
def blockWf (b : List Byte) : Bool := 1 ≤ b.length && b.length ≤ 65536

/-- Whether an access is at most a slot wide and lies in it (02 R47, R48). -/
def accessWf (size ofs : Nat) : Bool := 1 ≤ size && ofs + size ≤ 8

/-- Whether a command is well formed. -/
def Instr.wf (i : Instr) : Bool :=
  match i with
  | .slotVerifyComplete readError header body => readError || (header.length = 256 && body.length ≤ 2096896)
  | .initFail unit step _ => unit < pow2 16 && step < pow2 32
  | .saveComplete _ at_ => at_ < 8388608
  | .dictWrite _ _ _ size _ => accessWf size 0
  | .rcRead _ _ _ size ofs => accessWf size ofs
  | .alignmentMarker _ block _ => block.length = 8
  | .packetStart _ length => 1 ≤ length && length ≤ 65572
  | .linePacketHeader _ header => header.length = 32
  | .linePacketEnd _ payload _ _ => payload.length + 36 ≤ 65572
  | .statusPacket _ packet => packet.length ≤ 65572
  | .tunnelResponse _ packet => packet.length ≤ 65572
  | .tunnelRequest _ _ payload => blockWf payload
  | .refStoreWriteData _ data => blockWf data
  | .nodeCmdWrite _ _ data => blockWf data
  | .keyLoad _ data => blockWf data
  | .compressionUnitStart _ desc _ => desc.isEmpty || desc.length = 64
  | .compressionBufferFull _ desc => desc.isEmpty || desc.length = 16
  | .ferryFetchComplete _ hostBytes failed => failed || hostBytes.isEmpty || hostBytes.length = 64
  | .ptpAnnounce _ _ msg => msg.wf
  | .arpRequest _ mac sip tip => mac < pow2 48 && sip < pow2 32 && tip < pow2 32
  | .icmpEcho peer tip body => peer.wf && tip < pow2 32 && body.length ≤ 1480
  | .sessionOpen peer d | .dictRead peer d | .dictWriteJfp peer d | .retransmission peer d | .segInitDownload peer d
  | .segInitUpload peer d | .segInitAbort peer d | .segDataDownload peer d | .segDataRequest peer d | .cyclicIn peer d
  | .nodeAck peer d | .eventNotify peer d => peer.wf && datagramWf d
  | .g6Access _ unit write _ _ _ _ =>
    unit < pow2 34 && (match write with | none => true | some w => 1 ≤ w.2.length && w.1 + w.2.length ≤ 64)
  | .hmSourceEvent n | .hmLevelFall n => 1 ≤ n.val
  | .bar2Read offset length _ => offset + length ≤ pow2 32
  | .bar2Write offset data => offset + data.length ≤ pow2 32
  | .thermConversion temps => temps.length = 16 && temps.all fun t => -32768 ≤ t && t < 32768
  | .regulatorPoll rs => rs.length = 8 && rs.all fun r => match r with | none => true | some x => x.wf
  | .energySample mw => mw.length = 4
  | .recorderFlushComplete failed => failed.all fun k => k < 65536
  | .calBankComplete trims => trims.length ≤ 8
  | .selftestLaneLoopback _ _ | .selftestGoldenVectors _ _ | .selftestMemoryBist _ _ | .selftestComplete _ _ => true
  | .suppliesValid _ _ | .supplyLoss | .sysResetAssert | .sysResetRelease _ | .initComplete | .stateRequestRun _
  | .stateRequestReady _ _ | .stateRequestSafe _ | .runDrainComplete | .faultEntry _ _ | .autoResume | .pfail
  | .saveCommand _ _ | .restoreImage _ | .restoreDefaults _ | .shadowHold _ _ | .shadowHoldLimit | .effectiveQuery _ _
  | .claimRange _ _ | .releaseRange _ _ | .breakRange _ _ | .reclaimToken _ _ | .claimHoldExpiry _ | .journalReadSeq _ _
  | .segStart _ | .segAbort _ | .segStepDownload _ _ | .segStepUpload _ _ | .segTimeout _ => true
  | .stripTick | .forcedTick | .deferredTick | .opChangeComplete | .pmbSettle | .stripComplete | .pipelineCheck _ _
  | .tableLoadComplete _ | .laneCdrLock _ | .laneNoSignal _ | .blockLock _ | .blockSlip _ | .markerTimeout _
  | .laneLost _ _ | .portDeskew _ _ | .deskewRetry _ | .camSilentTimeout _ | .portPowerL0 _ _ | .portPowerL1 _ _
  | .portPowerL2 _ _ | .portPowerUpComplete _ | .tunnelTimeout _ | .creditPacket _ | .creditPacketPeriodic _
  | .timeBeacon _ | .lineTrigger _ | .ledgerEntryTimeout _ _ | .ledgerReadSeq _ _ _ | .planeProcess _
  | .planeMissingTimeout _ | .cameraLineArrival _ | .missingLineReport _ | .portWaitExpired _ => true
  | .worldLineForm | .reefLine | .reefResume | .colModelClear _ _ | .pieceStart | .pieceEndEvent | .atollLine
  | .atollResume | .chipCut | .stagingUnit _ _ | .recordBatchSend _ | .recordBatchTimeout _ | .bufProducer _ _ _
  | .jobProducer _ _ _ | .chainDeadline _ | .compressionUnitEnd _ | .fallbackComplete _ | .fallbackDeadline _
  | .compressionBusError _ | .encoderEdge _ _ _ | .encoderIndex _ | .compareTimeFire _ | .cmpArm _ _ _ | .cmpArmEvent _
  | .triggerOutputEvent _ | .triggerPulseStart _ | .triggerPulseEnd _ | .eventInputEdge _ _ | .narrowsHop _
  | .narrowsGuardInterval | .encIllegalInterval | .inject _ _ | .motionRawSample _ | .motionOutput _ => true
  | .wUpdate | .wSelect _ _ | .domOffset _ _ _ | .domRate _ _ _ | .ptpSync _ _ _ | .ptpSyncTimeout _ | .ptpSyncTransmit _
  | .ptpPdelay _ _ _ | .fieldLinkChange _ _ | .preemptVerify _ | .frameDiscard _ | .sessionTimeout _ | .sessionClose _ _
  | .cyclicOut _ | .nodeProbe _ | .nodeAckDeadline _ _ | .class7Launch _ | .markRepredict | .markCommit _ _
  | .markHoldTimeout _ _ | .keyErase _ _ | .g6TempRead _ _ _ | .refreshInterval _ _ | .refreshWindowEnd _
  | .rowIdleClose _ _ | .ferryStart _ _ | .ferryAbort _ _ | .ferryBurstIssue | .ferryBurstComplete _ _ _
  | .ferryDescriptorEnd _ | .ferryGrant _ | .ferryCompletionTimeout _ | .hostRingConsumer _ _ _ => true
  | .hmModExpiry _ | .hbClaim _ | .hbEoi _ _ | .hmHostAttach _ _ | .msixUnmask _ | .perst _ | .flr | .d3hotEntry _ | .d0Return
  | .pcieLinkUp _ _ | .hbBar2Base _ | .hbRingCons _ _ | .hbCompIdx _ _ _ | .hbFerryDbStart _ _ | .hbFerryDbAbort _
  | .hbBadAccess | .heldWritesApply | .coreHeartbeatMiss _ | .coreRestartComplete _ | .pmbAlert _ _ | .avsTrimUpdate _
  | .recFlush _ _ | .recorderFlushTimer | .recReadIndex _ _ | .troubleReadSeq _ _ | .operatingSecondsSave
  | .calRequest _ _ _ _ | .trimApply _ | .calRestoreFactory _ _ | .lrefLoss _ | .lrefSwitchComplete | .lrefBothLost
  | .ptpAnnounceTimeout _ | .busMasterEnableWrite _ | .lrefReturn _ => true

end Sys2Proof
end

