-- ==== Sys2Proof/Certificates/Slice0/Obligations.lean ====
section
/-! DEFINITION. The statements for the provers. -/

open Sys2Proof Sys2Proof.Machine

/-- A step takes the command at the front of the queue and answers what exec answers on the state with the queue's rest. -/
def Obligations.StepRunsTheFrontCommand : Prop :=
  ∀ (c : Instr) (q : List Instr) (s : State),
    (s.pending = c :: q → step s = exec c { s with pending := q })
    ∧ step { s with pending := c :: q } = exec c { s with pending := q }

/-- With no command waiting, time passes and nothing else happens (the model's choice, log entry 5). -/
def Obligations.IdleStepLetsTimePass : Prop :=
  ∀ s : State, s.pending = [] → ∃ t, step s = .next t ∧ t.now = s.now + 1 ∧ t = { s with now := t.now }

/-- Every command answers a next state in every state, but for an access to an address that does not exist (12 R352). -/
def Obligations.OnlyMissingAddressesFault : Prop :=
  (∀ (c : Instr) (s : State), (∃ t, exec c s = .next t)
    ∨ (exec c s = .fault .noSuchLocalAddress ∧ s.g6On = true ∧ ∃ port unit write bank row edc ecc,
        c = .g6Access port unit write bank row edc ecc ∧ port ≠ 7 ∧ s.num Key.g6LocalTop < 64 * unit + 63))
  ∧ (∀ s : State, (∃ t, step s = .next t) ∨ step s = .fault .noSuchLocalAddress)

/-- The memory's canonical form is kept by every command and every step. -/
def Obligations.StepKeepsMemoryCanonical : Prop :=
  (∀ (c : Instr) (s t : State), s.Inv → exec c s = .next t → t.Inv)
  ∧ (∀ s t : State, s.Inv → step s = .next t → t.Inv)

/-- The machine after reset; a byte of memory reads 0 by the model's choice (log entry 1). -/
def Obligations.ResetLeavesTheStatedMachine : Prop :=
  State.reset.life.state = .off ∧ State.reset.pins.suppliesValid = false ∧ State.reset.pending = []
  ∧ State.reset.life.dictServed = false ∧ State.reset.Inv
  ∧ (∀ k, State.reset.val k = keyDefault k) ∧ (∀ a, memByte State.reset.g6.mem a = 0)
  ∧ State.reset.pins.faultN = true ∧ State.reset.pins.thermN = true
  ∧ (∀ o, o < 16 → State.reset.trgLevel o = some false) ∧ (∀ o, 16 ≤ o → State.reset.trgLevel o = none)
  ∧ State.reset.now = 0 ∧ State.reset.dict.journal = [] ∧ State.reset.logs.trouble = []

/-- What no command changes: the queue, the part, the outputs already sent, and, but for a reset, the time counter. -/
def Obligations.CommandsLeaveQueueAndTrace : Prop :=
  ∀ (c : Instr) (s t : State), exec c s = .next t →
    t.pending = s.pending ∧ t.part = s.part ∧ s.sent <+: t.sent
    ∧ (c ≠ .supplyLoss → c ≠ .sysResetAssert → t.now = s.now)

/-- The arcs of the table of 01 R24, with the entry to FAULT from READY that 12 R366 and 13 R408 give. -/
def stateArc : DevState → DevState → Bool
  | _, .off => true
  | .off, .boot => true
  | .boot, .init | .boot, .fault => true
  | .init, .ready | .init, .run | .init, .fault | .init, .safe => true
  | .ready, .run | .ready, .fault | .ready, .safe => true
  | .run, .ready | .run, .fault | .run, .safe => true
  | .fault, .init | .fault, .safe => true
  | .safe, .init => true
  | _, _ => false

/-- The device state moves only along those arcs. -/
def Obligations.DeviceStatesMoveByTheTable : Prop :=
  ∀ (c : Instr) (s t : State), c ≠ .heldWritesApply → exec c s = .next t → t.life.state = s.life.state ∨ stateArc s.life.state t.life.state = true

/-- A row of an entry table: index, subindex, type, access, default, persist flag, and which values its range takes. -/
def entryIs (i sub : Nat) (ty : EntryType) (access : Access) (dflt : Slot) (persist : Bool) (inRange : Nat → Prop) : Prop :=
  ∃ r, entryRow i sub = some r ∧ r.ty = ty ∧ r.access = access ∧ r.persist = persist ∧ keyDefault (i * 256 + sub) = dflt
    ∧ ∀ n : Nat, n < 2 ^ (8 * ty.size) → (r.range.ok (n : Int) = true ↔ inRange n)

/-- 10 R311: the entries of Narrows. -/
def Obligations.NarrowsEntriesMatchTheirTable : Prop :=
  (∀ k, k < 256 →
    entryIs (0x6900 + k) 1 .u16 .rwt 0xFFFF true (fun n => n < 0xB3 ∨ n = 0xFFFF)
    ∧ entryIs (0x6900 + k) 2 .u8 .rwt 0 true (fun n => n ≤ 15)
    ∧ entryIs (0x6900 + k) 3 .bool .rc 0 false (fun _ => True)
    ∧ entryIs (0x6900 + k) 4 .u16 .rc 0 false (fun _ => True)
    ∧ entryIs (0x6900 + k) 5 .u16 .rwt 65535 true (fun n => 1 ≤ n)
    ∧ entryIs (0x6900 + k) 6 .bool .ro 0 false (fun _ => True)
    ∧ entryIs (0x6900 + k) 7 .u16 .ro 0xFFFF false (fun _ => True)
    ∧ entryIs (0x6900 + k) 8 .u16 .rc 0 false (fun _ => True)
    ∧ Key.chanProducer k = (0x6900 + k) * 256 + 1 ∧ Key.chanHoldOff k = (0x6900 + k) * 256 + 2
    ∧ Key.chanSeen k = (0x6900 + k) * 256 + 3 ∧ Key.chanCount k = (0x6900 + k) * 256 + 4
    ∧ Key.chanGuardMax k = (0x6900 + k) * 256 + 5 ∧ Key.chanGuardTripped k = (0x6900 + k) * 256 + 6
    ∧ Key.chanConsumer k = (0x6900 + k) * 256 + 7 ∧ Key.chanInjectMerge k = (0x6900 + k) * 256 + 8)
  ∧ entryIs 0x6800 1 .u8 .wo 0 false (fun n => n ≤ 255) ∧ entryIs 0x6800 2 .u32 .rc 0 false (fun _ => True)
  ∧ Key.inject = 0x680001 ∧ Key.guardTripCount = 0x680002

/-- BOOT entered from s with a sampled mode: what R433 does with it, and the boot counted in MRAM (15 R436, R437). -/
def booted (s t : State) (mode : Nat) : Prop :=
  t.life.state = .boot ∧ t.life.bootMode = mode ∧ t.life.slotB = decide (mode = 1)
  ∧ t.life.programming = decide (mode = 3) ∧ (mode = 3 → t.pins.faultN = false ∧ t.pins.qspiHighZ = true)
  ∧ t.mram.epoch = s.mram.epoch + 1 ∧ t.mram.powerCycles + t.mram.resets = s.mram.powerCycles + s.mram.resets + 1
  ∧ t.mram.imageA = s.mram.imageA ∧ t.mram.imageB = s.mram.imageB ∧ t.mram.recorder = s.mram.recorder
  ∧ t.mram.antiRollback = s.mram.antiRollback ∧ t.mram.opSeconds = s.mram.opSeconds
  ∧ t = { s with pins := t.pins, life := t.life, mram := t.mram }

/-- 01 R24; 15 R433, R437: supplies and SYS_RESET_N. -/
def Obligations.SuppliesAndResetBoot : Prop :=
  (∀ (mode : BitVec 3) (s : State), s.pins.suppliesValid = false → s.life.state = .off →
    ∃ t, exec (.suppliesValid true mode) s = .next t ∧ booted s t mode.toNat ∧ t.pins.suppliesValid = true
      ∧ t.mram.powerCycles = s.mram.powerCycles + 1)
  ∧ (∀ (high : Bool) (mode : BitVec 3) (s : State),
    (s.pins.suppliesValid = true → exec (.suppliesValid high mode) s = .next s)
    ∧ (s.pins.suppliesValid = false → high = false ∨ s.life.state ≠ .off →
      ∃ t, exec (.suppliesValid high mode) s = .next t ∧ t.pins.suppliesValid = true ∧ t.pins.sysResetN = high
        ∧ t = { s with pins := t.pins }))
  ∧ (∀ (mode : BitVec 3) (s : State),
    (s.life.state ≠ .off → exec (.sysResetRelease mode) s = .next s)
    ∧ (s.life.state = .off → ∃ t, exec (.sysResetRelease mode) s = .next t ∧ t.pins.sysResetN = true
        ∧ (s.pins.suppliesValid = false → t = { s with pins := t.pins })
        ∧ (s.pins.suppliesValid = true → booted s t mode.toNat
            ∧ t.mram.powerCycles = s.mram.powerCycles + (if s.pins.powerOnFlag then 1 else 0))))
  ∧ (∀ s : State, ∃ t, exec .supplyLoss s = .next t ∧ t.pins.suppliesValid = false ∧ t.life.state = .off
      ∧ t.mram = s.mram ∧ t.part = s.part ∧ t.pending = s.pending ∧ t.sent = s.sent
      ∧ t = { State.reset with
          pending := t.pending, part := t.part, mram := t.mram, sent := t.sent, freeCount := t.freeCount, pins := t.pins })
  ∧ (∀ s : State, ∃ t, exec .sysResetAssert s = .next t ∧ t.pins.sysResetN = false ∧ t.life.state = .off
      ∧ t.pins.suppliesValid = s.pins.suppliesValid
      ∧ t.mram = s.mram ∧ t.part = s.part ∧ t.pending = s.pending ∧ t.sent = s.sent
      ∧ t = { State.reset with
          pending := t.pending, part := t.part, mram := t.mram, sent := t.sent, freeCount := t.freeCount, pins := t.pins })

/-- 15 R433, R434; 01 R24, R25; 12 R368: boot slots and the end of INIT. -/
def Obligations.SlotsVerifyAndInitEnds : Prop :=
  (∀ (err : Bool) (header body : List Byte) (s : State),
    (s.life.state ≠ .boot ∨ s.life.programming = true → exec (.slotVerifyComplete err header body) s = .next s)
    ∧ (s.life.state = .boot → s.life.programming = false →
      ∃ t, exec (.slotVerifyComplete err header body) s = .next t
        ∧ (if s.slotCause err header body = 0 then
            t.life.state = .init ∧ t.life.logsOn = true ∧ t.life.imgVersion = fieldAt header 4 4
            ∧ t.num Key.firmwareVersion = fieldAt header 4 4
          else if s.life.slotTried = 0 then
            t.life.state = .boot ∧ t.life.slotTried = 1 ∧ t.life.slotB = !s.life.slotB ∧ t = { s with life := t.life }
          else
            t.life.state = .fault ∧ t.life.bootFault = true ∧ t.life.bootCause = s.slotCause err header body
            ∧ t.pins.faultN = false ∧ (∃ b, t.sent = s.sent ++ [⟨.console, s.now, [b]⟩])
            ∧ t = { s with life := t.life, pins := t.pins, sent := t.sent })))
  ∧ (∀ (header body : List Byte) (s : State),
    let length := fieldAt header 12 4
    let signed := Config.signatureOk (header.take 48) (bytesAt header 48 64)
    s.slotCause true header body = 4
    ∧ (fieldAt header 0 4 ≠ 0x52504C31 ∨ 2096896 < length → s.slotCause false header body = 1)
    ∧ (fieldAt header 0 4 = 0x52504C31 → length ≤ 2096896 → length ≤ body.length →
        (sha256 (body.take length) ≠ bytesAt header 16 32 → s.slotCause false header body = 2)
        ∧ (sha256 (body.take length) = bytesAt header 16 32 → s.slotCause false header body =
            if signed = false then 2 else if fieldAt header 8 4 < s.mram.antiRollback then 3 else 0)))
  ∧ (∀ s : State,
    (s.life.state ≠ .init → exec .initComplete s = .next s)
    ∧ (s.life.state = .init →
      let ready := (if s.life.resumePending then s else s.restoreInit).initBlocks
      ∃ t, exec .initComplete s = .next t
        ∧ (ready.num Key.g6ExcludeMask = 0 → t.life.state = if s.life.resumePending then .run else .ready)
        ∧ t.life.state ∈ [DevState.ready, .run, .fault]
        ∧ (ready.num Key.g6ExcludeMask = 0 → ∀ a, memByte t.g6.mem a = 0)))
  ∧ (∀ (unit step : Nat) (device : Option (Fin 12)) (s : State),
    (s.life.state ≠ .init → exec (.initFail unit step device) s = .next s)
    ∧ (s.life.state = .init → ∃ t, exec (.initFail unit step device) s = .next t
        ∧ t.life.state = .fault ∧ t.life.bootCause = 5 ∧ t.pins.faultN = false ∧ t.mram = s.mram))

/-- A state request that passes the checks every write meets. -/
def requests (s : State) (src : Source) (v : Nat) : Prop := s.admits src Key.stateRequest (BitVec.ofNat 64 v)

/-- A request refused with WRONG_STATE. -/
def wrongState (s t : State) (src : Source) : Prop :=
  t.life = s.life ∧ (src = .host → t.num Key.hostLastResult = 3 ∧ t.num Key.hostLastTarget = Key.stateRequest)
  ∧ (s.life.logsOn = true → ∃ e, t.dict.journal.head? = some e ∧ e.target = Key.stateRequest ∧ e.result = 3)

/-- 01 R24, R26–R28; 02 R495: state requests. -/
def Obligations.StateRequestsMoveTheDevice : Prop :=
  (∀ (src : Source) (s : State), requests s src 4 →
    ∃ t, exec (.stateRequestRun src) s = .next t
      ∧ (s.changing = false → s.life.state = .ready → s.checkResult = none →
          t.life.state = .run ∧ t.sched.strips.map (·.index) = [0] ∧ t.pieces = [] ∧ t.cause.formed = []
          ∧ t.streams.frameSeq = 0 ∧ t.sched.history = [] ∧ t.g6 = s.g6)
      ∧ (∀ k r, s.changing = false → s.life.state = .ready → s.checkResult = some (k, r) → r ≠ 0 → r ∈ checkOrder → k < 2 ^ 24 →
          t.life = s.life ∧ t.num Key.checkFailEntry = k ∧ t.num Key.checkFailResult = r)
      ∧ (s.changing = true ∨ s.life.state ≠ .ready → wrongState s t src))
  ∧ (∀ (src : Source) (high : Bool) (s : State), requests s src 3 →
    let p := { s with pins := { s.pins with pfailN := high } }
    ∃ t, exec (.stateRequestReady src high) s = .next t ∧ t.pins.pfailN = high
      ∧ (s.changing = false → s.life.state = .run → t.life.state = .run ∧ t.life.readyRequested = true)
      ∧ (s.changing = false → s.life.state = .safe → p.mayLeaveSafe = true → t.life.state = .init)
      ∧ (s.changing = false → s.life.state = .fault → s.life.bootFault = false → s.life.lostDevice = none → t.life.state = .init)
      ∧ (s.changing = true ∨ s.life.state ∈ [DevState.init, .ready] ∨ (s.life.state = .fault ∧ s.life.bootFault = true)
            ∨ (s.life.state = .safe ∧ p.mayLeaveSafe = false) → wrongState s t src))
  ∧ (∀ (src : Source) (s : State), requests s src 6 →
    ∃ t, exec (.stateRequestSafe src) s = .next t
      ∧ (s.changing = false → s.life.state ∈ [DevState.init, .ready, .run, .fault] → t.life.state = .safe)
      ∧ (s.changing = true ∨ s.life.state = .safe → wrongState s t src))

/-- 01 R24, R28; 12 R367; 15 R448: the end of a drain, FAULT, resumption and power failure. -/
def Obligations.DrainsFaultsAndPowerFailure : Prop :=
  (∀ s : State,
    (s.drainedStrip = none → exec .runDrainComplete s = .next s)
    ∧ (∀ x, s.drainedStrip = some x → ∃ t, exec .runDrainComplete s = .next t
        ∧ t.life.state = .ready ∧ t.life.draining = false ∧ t.sched.strips = [] ∧ t.g6 = s.g6))
  ∧ (∀ (cause unit : BitVec 16) (s : State),
    (s.life.state ∉ [DevState.init, .ready, .run] → exec (.faultEntry cause unit) s = .next s)
    ∧ (s.life.state ∈ [DevState.init, .ready, .run] → ∃ t, exec (.faultEntry cause unit) s = .next t
        ∧ t.life.state = .fault ∧ t.pins.faultN = false ∧ t.life.faultFromRun = s.inRun ∧ t.life.resumePending = false
        ∧ (cause = 0x31 → unit.toNat < 12 → t.life.recoverable = true ∧ t.life.lostDevice = some unit.toNat)
        ∧ (cause ≠ 0x31 → t.life.recoverable = false ∧ t.life.lostDevice = s.life.lostDevice)
        ∧ t.mram = s.mram))
  ∧ (∀ s : State,
    (s.resumeWaits = false → exec .autoResume s = .next s)
    ∧ (∀ j, s.resumeWaits = true → s.life.lostDevice = some j →
        22 ≤ (activeChannels (setBit (s.num Key.g6ExcludeMask) j true)).length →
        ∃ t, exec .autoResume s = .next t
          ∧ t.life.state = .init ∧ t.life.resumePending = s.life.faultFromRun ∧ t.life.lostDevice = none
          ∧ t.num Key.g6ExcludeMask = setBit (s.num Key.g6ExcludeMask) j true % 2 ^ 64 ∧ t.pins.faultN = true))
  ∧ (∀ s : State,
    (s.firmwareRuns = false → ∃ t, exec .pfail s = .next t ∧ t.pins.pfailN = false
        ∧ t = { s with pins := { s.pins with pfailN := t.pins.pfailN } })
    ∧ (s.firmwareRuns = true → ∃ t, exec .pfail s = .next t
        ∧ t.life.state = .safe ∧ t.pins.pfailN = false ∧ t.mram.pfails = s.mram.pfails + 1
        ∧ t.life.lanesStopped = true ∧ t.life.g6Stopped = true
        ∧ (s.logs.stopped = false → t.logs.flushing.isSome = true) ∧ t.g6 = s.g6))

/-- A counter rises by 1, where its type still holds that. -/
def counted (s t : State) (k : Nat) : Prop := s.num k + 1 < 2 ^ keyBits k → t.num k = s.num k + 1

/-- An entry stands newest in the trouble log, unless records wait for T3 or no log runs yet (15 R440). -/
def warned (s t : State) (code unit severity detail : Nat) : Prop :=
  s.life.logsOn = true → s.recordsWait = false → t.logs.nextTl = s.logs.nextTl + 1
    ∧ ∃ e, t.logs.trouble.head? = some e ∧ e.code = code ∧ e.unit = unit ∧ e.severity = severity ∧ e.detail = detail
      ∧ e.seq = s.logs.nextTl ∧ e.time = s.wNow

/-- The host's report of a refused write: its code and target. -/
def hostTold (t : State) (src : Source) (k code : Nat) : Prop :=
  src = .host → t.num Key.hostLastResult = code ∧ t.num Key.hostLastTarget = k

/-- Every persistent number, but for those of an image, at its default, and nothing persistent pending. -/
def atDefaults (t : State) (image : List SavedEntry) : Prop :=
  (∀ k, keyPersists k = true → (∀ e ∈ image, e.key ≠ k) → t.val k = keyDefault k)
  ∧ (∀ e ∈ t.dict.pend, keyPersists e.1 = false) ∧ ∀ e ∈ t.dict.pendBlobs, keyPersists e.1 = false

/-- 02 R59–R61: saves and restores. -/
def Obligations.SavesAndRestores : Prop :=
  (∀ (src : Source) (v : Slot) (s : State), s.admits src Key.saveCommand v →
    ∃ t, exec (.saveCommand src v) s = .next t
      ∧ (s.dict.saving = none → if areaBytes s.snapshot ≤ areaLimit then
          t.num Key.saveStatus = 1 ∧ (∃ gen, t.dict.saving = some (s.snapshot, gen)
            ∧ gen = ((s.newestImage.map (·.gen)).getD 0 + 1) % 2 ^ 32)
          ∧ (s.savesB = true → t.mram.imageB.valid = false ∧ t.mram.imageA = s.mram.imageA)
          ∧ (s.savesB = false → t.mram.imageA.valid = false ∧ t.mram.imageB = s.mram.imageB)
        else hostTold t src Key.saveCommand 0x0B ∧ t.mram = s.mram ∧ t.dict.saving = none)
      ∧ (s.dict.saving.isSome = true → hostTold t src Key.saveCommand 8 ∧ t.mram = s.mram ∧ t.dict.saving = s.dict.saving)
      ∧ t = { s with freeCount := t.freeCount, mram := t.mram, dict := t.dict, net := t.net })
  ∧ (∀ (ok : Bool) (off : Nat) (s : State),
    (s.dict.saving = none → exec (.saveComplete ok off) s = .next s)
    ∧ ∀ es gen, s.dict.saving = some (es, gen) →
      ∃ t, exec (.saveComplete ok off) s = .next t ∧ t.dict.saving = none
        ∧ t.num Key.saveStatus = (if ok then 2 else 3)
        ∧ (ok = true → (if s.savesB then t.mram.imageB else t.mram.imageA).entries = es
            ∧ (if s.savesB then t.mram.imageB else t.mram.imageA).gen = gen
            ∧ (if s.savesB then t.mram.imageB else t.mram.imageA).valid = true)
        ∧ (if s.savesB then t.mram.imageA = s.mram.imageA else t.mram.imageB = s.mram.imageB)
        ∧ (ok = false → t.mram.imageA = s.mram.imageA ∧ t.mram.imageB = s.mram.imageB)
        ∧ (s.life.logsOn = true → ∃ e, t.dict.journal.head? = some e ∧ e.target = 0xA00 ∧ e.result = (if ok then 0 else 0x0E))
        ∧ tblGet t.harbour.req 0 74 = tblGet s.harbour.req 0 74 + 1
        ∧ t = { s with
            freeCount := t.freeCount, mram := t.mram, dict := t.dict, logs := t.logs, net := t.net,
            harbour := t.harbour, sent := t.sent })
  ∧ (∀ (src : Source) (s : State), s.admits src Key.restoreCommand 2 →
    ∃ t, exec (.restoreDefaults src) s = .next t ∧ t.mram = s.mram ∧ t.g6 = s.g6 ∧ t.life = s.life
      ∧ (s.life.state = .ready → s.dict.saving = none → atDefaults t []
          ∧ (s.life.logsOn = true → ∃ e, t.dict.journal.head? = some e ∧ e.target = 0xA02))
      ∧ (s.life.state ≠ .ready → hostTold t src Key.restoreCommand 3 ∧ t.dict.pend = s.dict.pend)
      ∧ (s.life.state = .ready → s.dict.saving.isSome = true → hostTold t src Key.restoreCommand 8 ∧ t.dict.pend = s.dict.pend))
  ∧ (∀ (src : Source) (s : State), s.admits src Key.restoreCommand 1 →
    ∃ t, exec (.restoreImage src) s = .next t ∧ t.mram = s.mram ∧ t.g6 = s.g6 ∧ t.life = s.life
      ∧ (s.life.state = .ready → s.dict.saving = none → s.newestImage = none → atDefaults t []
          ∧ (s.life.logsOn = true → ∃ e, t.dict.journal.head? = some e ∧ e.target = 0xA02))
      ∧ (∀ i, s.life.state = .ready → s.dict.saving = none → s.newestImage = some i → atDefaults t i.entries
          ∧ (s.life.logsOn = true → ∃ e, t.dict.journal.head? = some e ∧ e.target = 0xA01 ∧ e.value = (BitVec.ofNat 64 i.gen).toNat)
          ∧ ∀ e ∈ i.entries, ∀ r, (∀ e' ∈ i.entries, e'.key = e.key → e' = e) → keyRow e.key = some r → r.persist = true →
              r.ty.block = false → r.ty.signed = false → e.bytes.length = r.ty.size → s.absent e.key = false →
              t.val e.key = BitVec.ofNat 64 (ofLe e.bytes))
      ∧ (s.life.state ≠ .ready → hostTold t src Key.restoreCommand 3 ∧ t.dict.pend = s.dict.pend)
      ∧ (s.life.state = .ready → s.dict.saving.isSome = true → hostTold t src Key.restoreCommand 8 ∧ t.dict.pend = s.dict.pend))

/-- The four entries that tell the host how its last write went. -/
def hostReportKeys : List Nat := [Key.hostLastResult, Key.hostLastTarget, Key.hostLastSeq, Key.hostRefusedCount]

/-- 02 R34, R35, R43: a write to an entry. -/
def Obligations.DictionaryWrites : Prop :=
  ∀ (src : Source) (index : BitVec 16) (sub : BitVec 8) (size : Nat) (v : Slot) (s : State),
    let k := index.toNat * 256 + sub.toNat
    k ≠ Key.stateRequest →
    (s.life.state = .off → exec (.dictWrite src index sub size v) s = .next s)
    ∧ (s.life.state ≠ .off → (s.life.dictServed = false ∨ s.dict.held ≠ []) →
        exec (.dictWrite src index sub size v) s
          = .next { s with dict := { s.dict with held := s.dict.held ++ [⟨src, index, sub, size, v⟩] } })
    ∧ (s.takesWrites →
        let w := writeValue src k size v
        let code := firstCode (s.commonFails src k size v ++ s.writeFails src k w)
        ∃ t, exec (.dictWrite src index sub size v) s = .next t
          ∧ (code ≠ 0 →
              (∀ j, j ∉ hostReportKeys → t.val j = s.val j) ∧ t.dict.pend = s.dict.pend ∧ t.dict.blobs = s.dict.blobs
              ∧ (src = .host → t.num Key.hostLastResult = code ∧ t.num Key.hostLastTarget = k
                  ∧ (s.num Key.hostRefusedCount + 1 < 2 ^ 32 → t.num Key.hostRefusedCount = s.num Key.hostRefusedCount + 1))
              ∧ t = { s with freeCount := t.freeCount, dict := t.dict, net := t.net })
          ∧ (code = 0 → (if k < 0x500000 then s.lowCommand src k w else s.highCommand src k w) = none →
              (keyAccess k = .rwt → s.shadowed = true →
                t.lastVal k = w ∧ t.val k = s.val k ∧ s.accepted t src k w
                ∧ (s.life.logsOn = true → s.inRun = true → ∃ e, t.dict.journal.head? = some e ∧ e.inRun = true
                    ∧ e.stripLo = (s.num Key.stripIndex + 1) % 2 ^ 24)
                ∧ t = { s with freeCount := t.freeCount, dict := t.dict })
              ∧ (keyAccess k = .rwt → s.shadowed = false → t.val k = w ∧ (s.dict.pend = [] → t.lastVal k = w))
              ∧ (keyAccess k ≠ .rwt → t.val k = w)))

/-- 02 R44–R46, 00 R13: holds, queries and reads that clear. -/
def Obligations.HoldsQueriesAndReads : Prop :=
  (∀ (src : Source) (v : Slot) (s : State), s.admits src Key.shadowHold v →
    let w := writeValue src Key.shadowHold (naturalSize src Key.shadowHold) v
    ∃ t, exec (.shadowHold src v) s = .next t
      ∧ (w ≠ 0 ∨ s.inRun = true → t.val Key.shadowHold = w ∧ t.dict.pend = s.dict.pend ∧ t.dict.pendBlobs = s.dict.pendBlobs
          ∧ s.accepted t src Key.shadowHold w ∧ t = { s with dict := t.dict })
      ∧ (w = 0 → s.inRun = false → t.dict.pend = [] ∧ t.dict.pendBlobs = [])
      ∧ t.life = s.life ∧ t.g6 = s.g6 ∧ t.mram = s.mram)
  ∧ (∀ s : State,
    (s.inRun = true → s.holdExpired = true →
      ∃ t, exec .shadowHoldLimit s = .next t ∧ t.dict.pend = [] ∧ t.dict.pendBlobs = [] ∧ t.dict.holdTicks = 0
        ∧ (s.life.logsOn = true → ∃ e ∈ t.dict.journal, e.seq = s.dict.nextSeq ∧ e.target = 0xB00 ∧ e.result = 0x0F
            ∧ e.value = (BitVec.ofNat 64 (s.dict.pend.length + s.dict.pendBlobs.length)).toNat)
        ∧ t.life = s.life ∧ t.g6 = s.g6)
    ∧ (s.inRun = false ∨ s.holdExpired = false → exec .shadowHoldLimit s = .next s))
  ∧ (∀ (src : Source) (target : BitVec 32) (s : State), s.admits src Key.effectiveQuery (target.setWidth 64) →
    let q := target.toNat
    ∃ t, exec (.effectiveQuery src target) s = .next t
      ∧ (∀ r, keyRow q = some r → r.ty.block = false →
          (t.source src).effTarget = q
          ∧ (keyAccess q = .rwt → s.absent q = false →
              t.readValue src Key.effectiveValue = t.val q
              ∧ t.readValue src Key.effectivePending = BitVec.ofNat 64 (bit (tblFind t.dict.pend q).isSome))
          ∧ (keyAccess q ≠ .rwt ∨ s.absent q = true → t.readValue src Key.effectivePending = 0)
          ∧ ∀ other, Source.code other ≠ Source.code src → t.source other = s.source other)
      ∧ (∀ r, keyRow q = some r → r.ty.block = true → hostTold t src Key.effectiveQuery 5 ∧ t.dict.sources = s.dict.sources)
      ∧ (keyRow q = none → countEntry q = false → hostTold t src Key.effectiveQuery 1 ∧ t.dict.sources = s.dict.sources)
      ∧ t = { s with freeCount := t.freeCount, dict := t.dict, net := t.net })
  ∧ (∀ (src : Source) (index : BitVec 16) (sub : BitVec 8) (size ofs : Nat) (s : State),
    let k := index.toNat * 256 + sub.toNat
    (s.life.state = .off → exec (.rcRead src index sub size ofs) s = .next s)
    ∧ (s.life.state ≠ .off → (src = .host → readFormOk size ofs = true) →
      ∃ t, exec (.rcRead src index sub size ofs) s = .next t
        ∧ (s.life.dictServed = false → t.dict = s.dict ∧ (src = .host → ∃ x, t.sent = s.sent ++ [x] ∧ x.data = leBytes size 0))
        ∧ (s.life.dictServed = true → keyAccess k = .rc → s.absent k = false →
            t.val k = 0 ∧ (src = .host → ∃ x pre, t.sent = pre ++ [x] ∧ x.dest = .completion true
              ∧ x.data = leBytes size ((s.readEntry .host k).1.toNat / 2 ^ (8 * ofs))))
        ∧ t.life = s.life ∧ t.mram = s.mram ∧ t.g6 = s.g6 ∧ t.logs = s.logs))
  ∧ (∀ s : State,
    (s.life.dictServed = false → exec .heldWritesApply s = .next s)
    ∧ (s.life.dictServed = true →
      (s.dict.held = [] → s.net.waiting = [] → exec .heldWritesApply s = .next s)
      ∧ ∀ w, s.dict.held = [w] → s.net.waiting = [] →
          ∃ t, exec .heldWritesApply s = .next t
            ∧ exec (.dictWrite w.src w.index w.sub w.size w.value) { s with dict := { s.dict with held := [] } } = .next t))

/-- The newest journal entry is an event with this target and value. -/
def eventJournalled (s t : State) (target value : Nat) : Prop :=
  s.life.logsOn = true → ∃ e, t.dict.journal.head? = some e ∧ e.target = target ∧ e.source = 0
    ∧ e.value = (BitVec.ofNat 64 value).toNat ∧ e.seq = s.dict.nextSeq + 1

/-- 02 R55–R57: the ownership of ranges. -/
def Obligations.OwnershipOfRanges : Prop :=
  (∀ (src : Source) (n : BitVec 8) (s : State), s.admits src Key.claimRange (n.setWidth 64) →
    ∃ t, exec (.claimRange src n) s = .next t
      ∧ (s.owner n.toNat = none → ∃ o, t.owner n.toNat = some o ∧ o.source = Source.code src ∧ o.lapse = none
          ∧ o.token ≠ 0 ∧ (s.tokenOf src ≠ 0 → o.token = s.tokenOf src)
          ∧ (∀ m, m ≠ n.toNat → t.owner m = s.owner m) ∧ eventJournalled s t (0x400 + n.toNat) (Source.code src))
      ∧ (s.ownedBy n.toNat src = true → t.dict.owners = s.dict.owners ∧ s.accepted t src Key.claimRange (n.setWidth 64))
      ∧ (s.ownedByOther n.toNat src = true → t.dict.owners = s.dict.owners ∧ hostTold t src Key.claimRange 6)
      ∧ t = { s with
          freeCount := t.freeCount, dict := t.dict, logs := t.logs, net := t.net, harbour := t.harbour,
          sent := t.sent })
  ∧ (∀ (src : Source) (n : BitVec 8) (s : State), s.admits src Key.releaseRange (n.setWidth 64) →
    ∃ t, exec (.releaseRange src n) s = .next t
      ∧ (∀ o, s.owner n.toNat = some o → s.ownedByOther n.toNat src = false →
          t.owner n.toNat = none ∧ (∀ m, m ≠ n.toNat → t.owner m = s.owner m) ∧ eventJournalled s t (0x500 + n.toNat) o.source)
      ∧ (s.ownedByOther n.toNat src = true → t.dict.owners = s.dict.owners ∧ hostTold t src Key.releaseRange 6)
      ∧ (s.owner n.toNat = none → t.dict.owners = s.dict.owners ∧ s.accepted t src Key.releaseRange (n.setWidth 64))
      ∧ t = { s with
          freeCount := t.freeCount, dict := t.dict, logs := t.logs, net := t.net, harbour := t.harbour,
          sent := t.sent })
  ∧ (∀ (src : Source) (n : BitVec 8) (s : State), s.admits src Key.breakRange (n.setWidth 64) →
    ∃ t, exec (.breakRange src n) s = .next t
      ∧ (∀ o, s.owner n.toNat = some o →
          t.owner n.toNat = none ∧ (∀ m, m ≠ n.toNat → t.owner m = s.owner m) ∧ eventJournalled s t (0x600 + n.toNat) o.source)
      ∧ (s.owner n.toNat = none → t.dict.owners = s.dict.owners ∧ s.accepted t src Key.breakRange (n.setWidth 64))
      ∧ t = { s with
          freeCount := t.freeCount, dict := t.dict, logs := t.logs, net := t.net, harbour := t.harbour,
          sent := t.sent })
  ∧ (∀ (src : Source) (token : BitVec 32) (s : State), s.admits src Key.reclaimToken (token.setWidth 64) →
    ∃ t, exec (.reclaimToken src token) s = .next t
      ∧ ((∃ e ∈ s.dict.owners, e.2.token = token.toNat) → s.tokenOf src ≠ token.toNat →
          ∀ m o, s.owner m = some o → o.token = token.toNat →
            ∃ o', t.owner m = some o' ∧ o'.source = Source.code src ∧ o'.token = token.toNat ∧ o'.lapse = none)
      ∧ ((∃ e ∈ s.dict.owners, e.2.token = token.toNat) → s.tokenOf src = token.toNat → t.dict.owners = s.dict.owners)
      ∧ ((∀ e ∈ s.dict.owners, e.2.token ≠ token.toNat) → t.dict.owners = s.dict.owners ∧ hostTold t src Key.reclaimToken 4)
      ∧ t = { s with
          freeCount := t.freeCount, dict := t.dict, logs := t.logs, net := t.net, harbour := t.harbour,
          sent := t.sent })
  ∧ (∀ (n : Fin 16) (s : State),
    ∃ t, exec (.claimHoldExpiry n) s = .next t
      ∧ (∀ e, e ∈ t.dict.owners ↔ e ∈ s.dict.owners ∧ s.lapsed n.val e.2 = false)
      ∧ t = { s with dict := { s.dict with owners := t.dict.owners } })

/-- Only this source's own copies change. -/
def onlyCopies (s t : State) (src : Source) : Prop :=
  ∀ other, Source.code other ≠ Source.code src → t.source other = s.source other

/-- 02 R69; 15 R440, R444, R446, R447: the logs' readers and the recorder's flush. -/
def Obligations.LogReadPointers : Prop :=
  (∀ (src : Source) (q : Slot) (s : State), s.admits src Key.journalReadSeq q →
    let n := (writeValue src Key.journalReadSeq (naturalSize src Key.journalReadSeq) q).toNat
    ∃ t, exec (.journalReadSeq src q) s = .next t
      ∧ (t.source src).journal.index = n
      ∧ (s.life.logsOn = false → (t.source src).journal.bytes = s.journalSlot n
          ∧ (t.source src).journal.result = ringResult s.dict.nextSeq 65536 n)
      ∧ (s.life.logsOn = true → (t.source src).journal.result = ringResult (s.dict.nextSeq + 1) 65536 n)
      ∧ onlyCopies s t src ∧ s.accepted t src Key.journalReadSeq (BitVec.ofNat 64 n) ∧ t = { s with dict := t.dict })
  ∧ (∀ (src : Source) (q : Slot) (s : State), s.admits src Key.troubleReadSeq q →
    let n := (writeValue src Key.troubleReadSeq (naturalSize src Key.troubleReadSeq) q).toNat
    ∃ t, exec (.troubleReadSeq src q) s = .next t
      ∧ (t.source src).trouble = ⟨n, s.troubleSlot n, ringResult s.logs.nextTl 16384 n⟩
      ∧ onlyCopies s t src ∧ s.accepted t src Key.troubleReadSeq (BitVec.ofNat 64 n) ∧ t = { s with dict := t.dict })
  ∧ (∀ (src : Source) (i : BitVec 32) (s : State), s.admits src Key.recReadIndex (i.setWidth 64) →
    ∃ t, exec (.recReadIndex src i) s = .next t
      ∧ (t.source src).recorder = ⟨i.toNat, s.recorderSlot i.toNat, s.recorderResult i.toNat⟩
      ∧ onlyCopies s t src ∧ s.accepted t src Key.recReadIndex (i.setWidth 64) ∧ t = { s with dict := t.dict })
  ∧ (∀ (src : Source) (port : Fin 16) (q : BitVec 32) (s : State),
    s.admits src (Key.ledgerReadSeq port.val) (q.setWidth 64) →
    ∃ t, exec (.ledgerReadSeq src port q) s = .next t
      ∧ (let p := s.port port.val
         let e := p.entry (ledgerSlot q.toNat)
         ∃ r, tblGet (t.source src).ledger {} port.val = ⟨q.toNat, e.bytes, r⟩
           ∧ (p.issued = false → r = 2)
           ∧ (p.issued = true → (p.nextSeq + 2 ^ 32 - 1 - q.toNat) % 2 ^ 32 < 2 ^ 31 →
               r = if e.valid = true ∧ e.seq = q.toNat then 0 else 1))
      ∧ onlyCopies s t src ∧ s.accepted t src (Key.ledgerReadSeq port.val) (q.setWidth 64) ∧ t = { s with
          dict := t.dict })
  ∧ (∀ (src : Source) (v : Slot) (s : State), s.admits src Key.recFlush v →
    s.num Key.recGeneration + 1 < 2 ^ 32 →
    ∃ t, exec (.recFlush src v) s = .next t
      ∧ (s.logs.stopped = true → t.logs = s.logs)
      ∧ (s.logs.stopped = false → s.logs.flushing.isSome = true → t.logs = { s.logs with flushAgain := true })
      ∧ (s.logs.stopped = false → s.logs.flushing = none → s.logs.droppedSince = 0 →
          t.logs = { s.logs with flushing := some (s.logs.staged.length, s.now) }
          ∧ t.num Key.recGeneration = s.num Key.recGeneration + 1)
      ∧ t = { s with dict := t.dict, logs := t.logs })
  ∧ (∀ s : State, s.num Key.recGeneration + 1 < 2 ^ 32 →
    ∃ t, exec .recorderFlushTimer s = .next t
      ∧ (s.logs.stopped = false → s.logs.droppedSince = 0 → s.logs.lastFlush + 10000000000 ≤ s.now → s.logs.staged ≠ [] → s.logs.flushing = none →
          t.logs = { s.logs with flushing := some (s.logs.staged.length, s.now) })
      ∧ (s.now < s.logs.lastFlush + 10000000000 ∨ s.logs.staged = [] ∨ s.logs.flushing.isSome = true → t = s)
      ∧ t = { s with dict := t.dict, logs := t.logs })
  ∧ (∀ s : State,
    (s.logs.flushing = none → exec (.recorderFlushComplete []) s = .next s)
    ∧ ∀ n start, s.logs.flushing = some (n, start) → s.mram.retired = [] → s.logs.stopped = false →
      s.mram.recHead < 2 ^ 32 → n ≤ s.logs.staged.length → n ≤ 2048 →
      ∃ t, exec (.recorderFlushComplete []) s = .next t
        ∧ (s.logs.flushAgain = false → t.logs.staged = s.logs.staged.drop n ∧ t.logs.flushing = none)
        ∧ t.mram.recHead = (s.mram.recHead + n) % 2 ^ 32
        ∧ (∀ j r, (s.logs.staged.take n)[j]? = some r →
            tblFind t.mram.recorder ((s.mram.recHead + j) % 2 ^ 32 % 65536) = some { r with
                index := (s.mram.recHead + j) % 2 ^ 32 })
        ∧ t = { s with
            freeCount := t.freeCount, mram := t.mram, dict := t.dict, logs := t.logs, net := t.net,
            harbour := t.harbour, sent := t.sent })
  ∧ (∀ s : State,
    (s.logs.lastSecondSave + 60000000000 ≤ s.now →
      exec .operatingSecondsSave s = .next { s with mram := { s.mram with opSeconds := s.opSecondsNow }
                                                    logs := { s.logs with lastSecondSave := s.now } })
    ∧ (s.now < s.logs.lastSecondSave + 60000000000 → exec .operatingSecondsSave s = .next s))

/-- A source's transfer has ended with a result. -/
def transferEnded (t : State) (src : Source) (result : Nat) : Prop :=
  (t.source src).transfer = none ∧ (t.source src).segResult = result ∧ (t.source src).segStatus = if result = 0 then 2 else 3

/-- 02 R51–R54: segmented transfers. A download of no bytes, which `SegLength`'s range excludes, is log entry 100's choice. -/
def Obligations.SegmentedTransfers : Prop :=
  (∀ (src : Source) (s : State), s.admits src Key.segStart 1 →
    let x := s.source src
    ∃ t, exec (.segStart src) s = .next t
      ∧ (∀ r, x.transfer = none → keyRow x.segTarget = some r → r.ty.block = true →
          s.ownedByOther ((rangeOf (x.segTarget / 256)).getD 0) src = false →
          (x.segMode = 1 → x.segLength ≠ 0 → ∃ tr, (t.source src).transfer = some tr ∧ tr.target = x.segTarget ∧ tr.download = true
              ∧ tr.length = x.segLength ∧ tr.crc = x.segCrc ∧ tr.data = [] ∧ tr.offset = 0 ∧ (t.source src).segStatus = 1)
          ∧ (x.segMode ≠ 1 → s.readBlob x.segTarget ≠ [] →
              ∃ tr, (t.source src).transfer = some tr ∧ tr.download = false ∧ tr.data = s.readBlob x.segTarget
                ∧ (t.source src).segLength = tr.data.length ∧ (t.source src).segCrc = crc32 tr.data ∧ (t.source src).segStatus = 1))
      ∧ (∀ r, x.transfer.isSome = true → keyRow x.segTarget = some r → r.ty.block = true →
          s.ownedByOther ((rangeOf (x.segTarget / 256)).getD 0) src = false →
          hostTold t src Key.segStart 8 ∧ t.dict.sources = s.dict.sources)
      ∧ (keyRow x.segTarget = none → countEntry x.segTarget = false →
          hostTold t src Key.segStart 1 ∧ t.dict.sources = s.dict.sources)
      ∧ ((x.segMode = 1 → x.segLength ≠ 0) →
          t = { s with
              freeCount := t.freeCount, dict := t.dict, logs := t.logs, net := t.net, harbour := t.harbour,
              sent := t.sent }))
  ∧ (∀ (src : Source) (s : State), s.admits src Key.segStart 2 →
    ∃ t, exec (.segAbort src) s = .next t
      ∧ ((s.source src).transfer.isSome = true → transferEnded t src 0x0D)
      ∧ ((s.source src).transfer = none → t.dict.sources = s.dict.sources)
      ∧ t = { s with
          freeCount := t.freeCount, dict := t.dict, logs := t.logs, net := t.net, harbour := t.harbour,
          sent := t.sent })
  ∧ (∀ (src : Source) (n : BitVec 16) (s : State), s.admits src Key.segStep (n.setWidth 64) →
    ∃ t, exec (.segStepDownload src n) s = .next t
      ∧ ((s.source src).transfer = none → hostTold t src Key.segStep 0x0D ∧ t.dict.sources = s.dict.sources)
      ∧ (∀ tr, (s.source src).transfer = some tr → tr.takes n.toNat = false →
          hostTold t src Key.segStep 5 ∧ (t.source src).transfer = some tr)
      ∧ (∀ tr, (s.source src).transfer = some tr → tr.takes n.toNat = true → tr.download = true →
          let data := tr.data ++ (s.source src).slotBytes.take n.toNat
          (data.length < tr.length →
            (t.source src).transfer = some { tr with offset := data.length, data := data, lastTime := s.now }
            ∧ (t.source src).segOffset = data.length ∧ t = { s with dict := t.dict })
          ∧ (tr.length ≤ data.length → crc32 data ≠ tr.crc → transferEnded t src 0x0C ∧ t.dict.blobs = s.dict.blobs
            ∧ t.dict.pendBlobs = s.dict.pendBlobs)
          ∧ (tr.length ≤ data.length → crc32 data = tr.crc → keyAccess tr.target = .rwt → s.shadowed = true →
              firstCode (s.blockFails src tr.target data ++ s.settled.blobTies tr.target data) = 0 →
              ¬ (0x2000 ≤ tr.target / 256 ∧ tr.target / 256 < 0x3000) →
              ¬ (0x7400 ≤ tr.target / 256 ∧ tr.target / 256 < 0x7800) →
              transferEnded t src 0 ∧ t.lastBlob tr.target = data)))
  ∧ (∀ (src : Source) (n : BitVec 16) (s : State), s.admits src Key.segStep (n.setWidth 64) →
    ∃ t, exec (.segStepUpload src n) s = .next t
      ∧ ((s.source src).transfer = none → hostTold t src Key.segStep 0x0D ∧ t.dict.sources = s.dict.sources)
      ∧ (∀ tr, (s.source src).transfer = some tr → tr.takes n.toNat = true → tr.download = false →
          tr.data.length = tr.length → n.toNat ≤ 2040 →
          (t.source src).slotBytes.take n.toNat = bytesAt tr.data tr.offset n.toNat
          ∧ (tr.offset + n.toNat < tr.length →
              (t.source src).transfer = some { tr with offset := tr.offset + n.toNat, lastTime := s.now })
          ∧ (tr.length ≤ tr.offset + n.toNat → transferEnded t src 0)))
  ∧ (∀ (src : Source) (s : State),
    (s.transferLate src = true → ∃ t, exec (.segTimeout src) s = .next t ∧ transferEnded t src 0x0D
      ∧ (src = .host → tblGet t.harbour.req 0 73 = tblGet s.harbour.req 0 73 + 1)
      ∧ t = { s with dict := t.dict, harbour := t.harbour })
    ∧ (s.transferLate src = false → exec (.segTimeout src) s = .next s))

/-- A tick was taken with the boundary at line e. -/
def tickTaken (s t : State) (e : Nat) : Prop :=
  let k := s.num Key.stripIndex
  let quiet := s.dict.pend = [] ∧ s.dict.pendBlobs = [] ∧ s.dict.forced = [] ∧ k + 1 < 2 ^ 32
  t.sched.lastTick = s.now ∧ t.sched.deferredAt = none ∧ t.life.state = s.life.state
  ∧ (s.life.readyRequested = true → t.life.draining = true ∧ t.life.readyRequested = false)
  ∧ (s.life.readyRequested = false → t.life = s.life
      ∧ ∃ x, t.sched.strips.getLast? = some x ∧ x.lineFirst = e ∧ x.openedAt = s.now ∧ x.lineEnd = none
        ∧ (quiet → x.index = k + 1 ∧ t.num Key.stripIndex = k + 1))
  ∧ (quiet → ∀ x ∈ t.sched.strips, x.index = k → x.lineEnd = some e ∧ x.closedAt = s.now)
  ∧ t.mram = s.mram ∧ t.pieceNext = s.pieceNext ∧ t.now = s.now ∧ t.pins = s.pins

/-- 03 R71–R75; 15 R453: ticks, completion, checks. -/
def Obligations.StripTicksAndCompletion : Prop :=
  (∀ s : State,
    let w := s.takeWire 0x0060
    let event : Bool := !(s.wire 0x0060).isEmpty
    let e := if s.num Key.tickSource = 1 then w.lineTarget else w.timeBoundary
    (s.ticking = true → s.sched.deferredAt = none → w.tickDue event = true → s.sched.lastTick + tickMin ≤ s.now →
      ∃ t, exec .stripTick s = .next t ∧ tickTaken s t e)
    ∧ (s.ticking = true → s.sched.deferredAt = none → w.tickDue event = true → s.now < s.sched.lastTick + tickMin →
      ∃ t, exec .stripTick s = .next t ∧ t.sched = { s.sched with deferredAt := some (s.sched.lastTick + 16000), deferredForced := false }
        ∧ (s.num Key.deferredTickCount + 1 < 2 ^ keyBits Key.deferredTickCount →
            t.num Key.deferredTickCount = s.num Key.deferredTickCount + 1)
        ∧ t = { s with freeCount := t.freeCount, dict := t.dict, sched := t.sched, motion := t.motion })
    ∧ (s.ticking = true → s.sched.deferredAt.isSome = true → event = true → s.num Key.tickSource = 3 →
      s.num Key.mergedTickEvents + 1 < 2 ^ keyBits Key.mergedTickEvents →
      exec .stripTick s = .next (w.setNum Key.mergedTickEvents (s.num Key.mergedTickEvents + 1)))
    ∧ (s.ticking = false ∨ (s.sched.deferredAt = none ∧ w.tickDue event = false) → exec .stripTick s = .next w))
  ∧ (∀ s : State,
    (s.ticking = true → s.sched.deferredAt = none → s.forcedDue = true → s.sched.lastTick + tickMin ≤ s.now →
      ∃ t, exec .forcedTick s = .next t ∧ tickTaken s t s.timeBoundary
        ∧ (s.dict.pend = [] → s.dict.pendBlobs = [] → s.dict.forced = [] →
            s.num Key.forcedTickCount + 1 < 2 ^ keyBits Key.forcedTickCount →
            t.num Key.forcedTickCount = s.num Key.forcedTickCount + 1))
    ∧ (s.ticking = true → s.sched.deferredAt = none → s.sched.lastTick + 16000000 ≤ s.now → s.forcedDue = true)
    ∧ (s.ticking = false ∨ s.sched.deferredAt.isSome = true ∨ s.forcedDue = false → exec .forcedTick s = .next s))
  ∧ (∀ s : State,
    (∀ d, s.sched.deferredAt = some d → s.ticking = true → d ≤ s.now →
      ∃ t, exec .deferredTick s = .next t ∧ tickTaken s t s.timeBoundary)
    ∧ (∀ d, s.sched.deferredAt = some d → s.ticking = false ∨ s.now < d → exec .deferredTick s = .next s)
    ∧ (s.sched.deferredAt = none → exec .deferredTick s = .next s))
  ∧ (∀ s : State,
    (∀ x, s.inRun = true → s.doneStrip = some x →
      ∃ t, exec .stripComplete s = .next t
        ∧ t.sched.strips.map (·.index) = (s.sched.strips.filter (·.index ≠ x.index)).map (·.index)
        ∧ (s.strayed x = true → s.num Key.lateStripCount + 1 < 2 ^ keyBits Key.lateStripCount →
            t.num Key.lateStripCount = s.num Key.lateStripCount + 1)
        ∧ (s.strayed x = false → t.num Key.lateStripCount = s.num Key.lateStripCount)
        ∧ t.life = s.life ∧ t.mram = s.mram ∧ t.g6 = s.g6 ∧ t.logs = s.logs)
    ∧ (s.inRun = false ∨ s.doneStrip = none → exec .stripComplete s = .next s))
  ∧ (∀ (p : Fin 8) (ok : Bool) (s : State),
    (∀ k, (s.check p.val).granted = some k → s.inRun = true → s.flag (Key.pipelineInService p.val) = true →
      ∃ t, exec (.pipelineCheck p ok) s = .next t
        ∧ (ok = true → t.check p.val = {} ∧ t.val (Key.checkLastPass p.val) = BitVec.ofNat 64 k
            ∧ t = { s with dict := t.dict, sched := t.sched })
        ∧ (ok = false → t.num (Key.pipelineInService p.val) = 0
            ∧ tblGet t.harbour.req 0 (57 + p.val) = tblGet s.harbour.req 0 (57 + p.val) + 1))
    ∧ ((s.check p.val).granted = none ∨ s.inRun = false ∨ s.flag (Key.pipelineInService p.val) = false →
      exec (.pipelineCheck p ok) s = .next s))

/-- A lane as it enters a state. -/
def laneIn (s : State) (l : Nat) (st : LaneState) : Lane := { s.lane l with state := st, markers := 0, missed := 0, since := s.now }

/-- Of the lanes, this one alone is replaced. -/
def laneBecomes (s t : State) (l : Nat) (x : Lane) : Prop := t.lane l = x ∧ ∀ m, m ≠ l → t.lane m = s.lane m

/-- A locked lane was lost: its active port is down. -/
def laneGone (s t : State) (l : Nat) : Prop :=
  laneBecomes s t l (laneIn s l .block)
  ∧ ((s.port (lanePort l)).state = 4 → (t.port (lanePort l)).state = 1 ∧ counted s t (Key.linkDownCount (lanePort l)))
  ∧ ((s.port (lanePort l)).state ≠ 4 → (t.port (lanePort l)).state = (s.port (lanePort l)).state)
  ∧ ∀ m, m ≠ lanePort l → t.port m = s.port m

/-- 04 R103–R110: the lanes. -/
def Obligations.LanesLock : Prop :=
  (∀ (lane : Fin 64) (s : State), let l := lane.val
    (s.laneBound l = true → (s.lane l).state = .cdr →
      ∃ t, exec (.laneCdrLock lane) s = .next t ∧ laneBecomes s t l { laneIn s l .block with noSignal := false }
        ∧ t = { s with lanes := t.lanes })
    ∧ (s.laneBound l = false ∨ (s.lane l).state ≠ .cdr → exec (.laneCdrLock lane) s = .next s))
  ∧ (∀ (lane : Fin 64) (s : State), let l := lane.val
    ((s.lane l).state = .cdr → (s.lane l).since + 1000000 ≤ s.now →
      ∃ t, exec (.laneNoSignal lane) s = .next t ∧ laneBecomes s t l { s.lane l with noSignal := true, since := s.now }
        ∧ ((s.lane l).noSignal = false → warned s t 0x0010 l 1 (lanePort l))
        ∧ ((s.lane l).noSignal = true → t = { s with lanes := t.lanes })
        ∧ t = { s with
            freeCount := t.freeCount, dict := t.dict, logs := t.logs, lanes := t.lanes, net := t.net,
            harbour := t.harbour, sent := t.sent })
    ∧ ((s.lane l).state ≠ .cdr ∨ s.now < (s.lane l).since + 1000000 → exec (.laneNoSignal lane) s = .next s))
  ∧ (∀ (lane : Fin 64) (s : State), let l := lane.val
    ((s.lane l).state = .block →
      (∃ t, exec (.blockLock lane) s = .next t ∧ laneBecomes s t l (laneIn s l .marker) ∧ t = { s with
          lanes := t.lanes })
      ∧ ∃ t, exec (.blockSlip lane) s = .next t
        ∧ (s.num (Key.headerErrors (lanePort l)) + 16 < 2 ^ keyBits (Key.headerErrors (lanePort l)) →
            t.num (Key.headerErrors (lanePort l)) = s.num (Key.headerErrors (lanePort l)) + 16)
        ∧ t = { s with freeCount := t.freeCount, dict := t.dict })
    ∧ ((s.lane l).state ≠ .block → exec (.blockLock lane) s = .next s ∧ exec (.blockSlip lane) s = .next s)
    ∧ ((s.lane l).state = .marker → ∃ t, exec (.markerTimeout lane) s = .next t ∧ laneBecomes s t l (laneIn s l .block)
        ∧ counted s t (Key.markerErrors (lanePort l)) ∧ t = { s with
            freeCount := t.freeCount, dict := t.dict, lanes := t.lanes })
    ∧ ((s.lane l).state ≠ .marker → exec (.markerTimeout lane) s = .next s))
  ∧ (∀ (lane : Fin 64) (block : List Byte) (bip : Byte) (s : State), let l := lane.val
    let n := lanePort l
    let logical := (block.getD 2 0).toNat
    let ok := markerValid block && logical < s.num (Key.laneCount n)
    ∃ t, exec (.alignmentMarker lane block bip) s = .next t
      ∧ ((s.lane l).state = .marker → ok = true → (s.lane l).markers = 1 → (s.lane l).logical = logical →
          laneBecomes s t l (laneIn s l .locked)
          ∧ ∀ m, t.lockedMap n = some m → (s.port n).state = 1 → (s.port n).deskewFail = none →
              (allDistinct m = true → (t.port n).state = 2) ∧ (allDistinct m = false → (t.port n).state = 1))
      ∧ ((s.lane l).state = .marker → ok = true → ((s.lane l).markers ≠ 1 ∨ (s.lane l).logical ≠ logical) →
          laneBecomes s t l { s.lane l with markers := 1, logical := logical } ∧ t.ports = s.ports)
      ∧ ((s.lane l).state = .marker → ok = false → laneBecomes s t l { s.lane l with markers := 0 } ∧ t.ports = s.ports)
      ∧ ((s.lane l).state = .locked → ok = true → logical = (s.lane l).logical →
          laneBecomes s t l { s.lane l with missed := 0 } ∧ t.ports = s.ports)
      ∧ ((s.lane l).state = .locked → (ok = false ∨ logical ≠ (s.lane l).logical) →
          ((s.lane l).missed + 1 < 4 → laneBecomes s t l { s.lane l with missed := (s.lane l).missed + 1 } ∧ t.ports = s.ports)
          ∧ (4 ≤ (s.lane l).missed + 1 → laneGone s t l ∧ counted s t (Key.markerErrors n)))
      ∧ (markerValid block = true → block.getD 3 0 ≠ bip → (s.lane l).state ∈ [LaneState.marker, .locked] → counted s t (Key.bipErrors n))
      ∧ ((s.lane l).state ∉ [LaneState.marker, .locked] → t = s)
      ∧ t.life = s.life ∧ t.g6 = s.g6 ∧ t.mram = s.mram ∧ t.pipes = s.pipes)
  ∧ (∀ (lane : Fin 64) (byHeaders : Bool) (s : State), let l := lane.val
    ((s.lane l).state = .locked → ∃ t, exec (.laneLost lane byHeaders) s = .next t ∧ laneGone s t l
      ∧ (byHeaders = false → counted s t (Key.markerErrors (lanePort l)))
      ∧ t = { s with
          freeCount := t.freeCount, dict := t.dict, lanes := t.lanes, ports := t.ports, harbour := t.harbour })
    ∧ ((s.lane l).state ≠ .locked → exec (.laneLost lane byHeaders) s = .next s))

/-- Of the ports, this one alone may change. -/
def onePort (s t : State) (n : Nat) : Prop := ∀ m, m ≠ n → t.port m = s.port m

/-- 04 R106–R110: the ports' links and power states. -/
def Obligations.PortsLinkAndPower : Prop :=
  (∀ (port : Fin 16) (skew : Nat) (s : State), let n := port.val
    ((s.port n).state = 2 → skew ≤ 180 →
      ∃ t, exec (.portDeskew port skew) s = .next t ∧ (t.port n).state = 3 ∧ (t.port n).consumed = 0 ∧ (t.port n).limit = 512
        ∧ (t.port n).lastValid = s.now ∧ (t.port n).creditDue = false ∧ t.num (Key.skew n) = skew
        ∧ (∃ a b, t.sent = s.sent ++ [a, b] ∧ a.dest = .downlink n ∧ a.data.take 1 = [0x11] ∧ fieldAt a.data 4 4 = 512
            ∧ b.dest = .downlink n ∧ b.data.take 1 = [0x13] ∧ fieldAt b.data 8 8 = s.wNow % 2 ^ 64)
        ∧ onePort s t n
        ∧ t = { s with
            freeCount := t.freeCount, dict := t.dict, ports := t.ports, harbour := t.harbour, sent := t.sent })
    ∧ ((s.port n).state = 2 → 180 < skew →
      ∃ t, exec (.portDeskew port skew) s = .next t ∧ (t.port n).state = 1 ∧ (t.port n).deskewFail = some s.now
        ∧ warned s t 0x0012 n 1 skew ∧ onePort s t n)
    ∧ ((s.port n).state ≠ 2 → exec (.portDeskew port skew) s = .next s))
  ∧ (∀ (port : Fin 16) (s : State), let n := port.val
    (∀ f, (s.port n).deskewFail = some f → f + 1000000 ≤ s.now →
      ∃ t, exec (.deskewRetry port) s = .next t ∧ (t.port n).deskewFail = none ∧ onePort s t n
        ∧ (∀ m, (s.port n).state = 1 → s.lockedMap n = some m → allDistinct m = true → (t.port n).state = 2)
        ∧ t = { s with
            freeCount := t.freeCount, dict := t.dict, logs := t.logs, ports := t.ports, net := t.net,
            harbour := t.harbour, sent := t.sent })
    ∧ (∀ f, (s.port n).deskewFail = some f → s.now < f + 1000000 → exec (.deskewRetry port) s = .next s)
    ∧ ((s.port n).deskewFail = none → exec (.deskewRetry port) s = .next s))
  ∧ (∀ (port : Fin 16) (s : State), let n := port.val
    let late := (s.port n).lastValid + 1000000 * s.num (Key.camSilentTimeout n) ≤ s.now
    ((s.port n).state = 3 ∨ (s.port n).state = 4 → late →
      ∃ t, exec (.camSilentTimeout port) s = .next t ∧ (t.port n).state = 5 ∧ onePort s t n ∧ warned s t 0x0013 n 1 (s.port n).state
        ∧ t = { s with
            freeCount := t.freeCount, dict := t.dict, logs := t.logs, ports := t.ports, net := t.net,
            harbour := t.harbour, sent := t.sent })
    ∧ (((s.port n).state ≠ 3 ∧ (s.port n).state ≠ 4) ∨ ¬ late → exec (.camSilentTimeout port) s = .next s))
  ∧ (∀ (src : Source) (port : Fin 16) (s : State), let n := port.val
    s.admits src (Key.portPowerRequest n) 0 →
    ∃ t, exec (.portPowerL0 src port) s = .next t ∧ t.num (Key.portPowerRequest n) = 0 ∧ onePort s t n
      ∧ (s.life.lanesStopped = false → s.flag (Key.portEnable n) = true →
          ((s.port n).state = 0 → (t.port n).state = 1 ∧ (t.port n).poweredAt = some s.now)
          ∧ ((s.port n).state = 6 → (t.port n).state = 4)
          ∧ ((s.port n).state ∉ [0, 6] → t.port n = s.port n))
      ∧ t.life = s.life ∧ t.g6 = s.g6 ∧ t.mram = s.mram ∧ t.logs = s.logs)
  ∧ (∀ (src : Source) (port : Fin 16) (s : State), let n := port.val
    s.admits src (Key.portPowerRequest n) 1 →
    ∃ t, exec (.portPowerL1 src port) s = .next t ∧ onePort s t n
      ∧ (s.inRun = true → s.flag (Key.portEnable n) = true → hostTold t src (Key.portPowerRequest n) 9 ∧ t.port n = s.port n)
      ∧ (s.inRun = false → t.num (Key.portPowerRequest n) = 1
          ∧ (s.life.lanesStopped = false → s.flag (Key.portEnable n) = true → (s.port n).state = 4 → (t.port n).state = 6))
      ∧ t.life = s.life ∧ t.g6 = s.g6 ∧ t.mram = s.mram ∧ t.logs = s.logs)
  ∧ (∀ (src : Source) (port : Fin 16) (s : State), let n := port.val
    s.admits src (Key.portPowerRequest n) 2 →
    ∃ t, exec (.portPowerL2 src port) s = .next t ∧ onePort s t n
      ∧ (s.inRun = true → s.flag (Key.portEnable n) = true → hostTold t src (Key.portPowerRequest n) 9 ∧ t.port n = s.port n)
      ∧ (s.inRun = false → t.num (Key.portPowerRequest n) = 2
          ∧ (s.life.lanesStopped = false → (s.port n).state ≠ 0 →
              (t.port n).state = 0 ∧ (t.port n).buffer = [] ∧ (t.port n).fill = 0 ∧ (t.port n).rx = none
              ∧ ∀ i, i < 4 → (t.lane (4 * n + i)).state = .off))
      ∧ t.life = s.life ∧ t.g6 = s.g6 ∧ t.mram = s.mram ∧ t.logs = s.logs)
  ∧ (∀ (port : Fin 16) (s : State), let n := port.val
    ((s.port n).state = 1 → (s.port n).poweredAt.isSome = true →
      ∃ t, exec (.portPowerUpComplete port) s = .next t ∧ t.port n = { s.port n with poweredAt := none } ∧ onePort s t n
        ∧ (∀ l, l ∈ s.boundLanes n → t.lane l = if (s.lane l).state = .off then laneIn s l .cdr else s.lane l)
        ∧ (∀ l, l ∉ s.boundLanes n → t.lane l = s.lane l) ∧ t = { s with lanes := t.lanes, ports := t.ports })
    ∧ ((s.port n).state ≠ 1 ∨ (s.port n).poweredAt = none → exec (.portPowerUpComplete port) s = .next s))

/-- The packet in reception is given up and its credits are freed. -/
def packetDropped (s t : State) (n : Nat) (r : RxPacket) : Prop :=
  (∃ r', (t.port n).rx = some r' ∧ r'.discard = true ∧ r'.length = r.length) ∧ (t.port n).limit = ((s.port n).limit + creditsOf r.length) % 2 ^ 32
  ∧ (t.port n).creditDue = true ∧ (t.port n).buffer = (s.port n).buffer

/-- 04 R111–R125: packets, credits, beacons. -/
def Obligations.PacketsAndCredits : Prop :=
  (∀ (port : Fin 16) (length : Nat) (s : State), let n := port.val
    let p := s.port n
    ∃ t, exec (.packetStart port length) s = .next t ∧ onePort s t n
      ∧ (s.decoding n = false → p.state ≠ 6 → t = s)
      ∧ (p.rx = none → s.decoding n = true → (creditsOf length : Int) ≤ p.credits → length ≤ 65572 →
          (t.port n).rx = some { length := length } ∧ (t.port n).consumed = (p.consumed + creditsOf length) % 2 ^ 32
          ∧ (t.port n).limit = p.limit ∧ (t.port n).fill = p.fill + 256 * creditsOf length)
      ∧ (p.rx = none → s.decoding n = true → p.credits < (creditsOf length : Int) →
          (t.port n).rx = some { length := length, discard := true } ∧ counted s t (Key.creditViolations n) ∧ (t.port n).violated = true
          ∧ (p.violated = false → warned s t 0x0018 n 1 ((creditsOf length : Int) - p.credits).toNat)
          ∧ (t.port n).limit = (p.limit + creditsOf length) % 2 ^ 32)
      ∧ (p.rx = none → s.decoding n = true → (creditsOf length : Int) ≤ p.credits → 65572 < length →
          (t.port n).rx = some { length := length, discard := true } ∧ counted s t (Key.framingErrors n))
      ∧ (∀ r, p.rx = some r → r.discard = false → s.decoding n = true → length ≤ 65572 →
          counted s t (Key.framingErrors n) ∧ (t.port n).consumed = (p.consumed + creditsOf length) % 2 ^ 32
          ∧ ∃ r', (t.port n).rx = some r' ∧ r'.length = length ∧ r'.matched = none)
      ∧ t = { s with
          freeCount := t.freeCount, dict := t.dict, logs := t.logs, ports := t.ports, net := t.net,
          harbour := t.harbour, sent := t.sent })
  ∧ (∀ (port : Fin 16) (header : List Byte) (s : State), let n := port.val
    ∃ t, exec (.linePacketHeader port header) s = .next t ∧ onePort s t n
      ∧ ((s.port n).rx = none → t = s)
      ∧ (∀ r, (s.port n).rx = some r →
          (r.discard = true ∨ r.matched.isSome = true → t = s)
          ∧ (r.discard = false → r.matched = none → fieldAt header 0 1 ≠ 1 → packetDropped s t n r ∧ counted s t (Key.framingErrors n))
          ∧ (r.discard = false → r.matched = none → fieldAt header 0 1 = 1 → s.headOk n header = false →
              packetDropped s t n r ∧ counted s t (Key.hdrCrcErrors n))
          ∧ (let h := parseHead header (s.num (Key.colourMode n))
             r.discard = false → r.matched = none → fieldAt header 0 1 = 1 → s.headOk n header = true →
              (r.length ≠ 36 + payloadBytes h.format h.pixels → packetDropped s t n r ∧ counted s t (Key.framingErrors n))
              ∧ (r.length = 36 + payloadBytes h.format h.pixels → s.inRun = false →
                  packetDropped s t n r ∧ counted s t (Key.linesOutsideRun n) ∧ counted s t (Key.linePackets n))
              ∧ (r.length = 36 + payloadBytes h.format h.pixels → s.inRun = true → h.triggered ≠ s.flag (Key.triggerMode n) →
                  packetDropped s t n r ∧ counted s t (Key.modeMismatchCount n))
              ∧ (let p := s.port n
                 let e := p.entry (ledgerSlot h.seq)
                 r.length = 36 + payloadBytes h.format h.pixels → s.inRun = true → h.triggered = true → s.flag (Key.triggerMode n) = true →
                  p.issued = true → (p.nextSeq + 2 ^ 32 - 1 - h.seq) % 2 ^ 32 < 2 ^ 31 → e.valid = true → e.seq = h.seq → e.lost = false →
                  bitAt e.planes h.plane = false → s.passedAt e.worldPos = false →
                  ∃ b, (t.port n).buffer = p.buffer ++ [b] ∧ b.length = r.length ∧ b.payload = none
                    ∧ b.head = { h with trigTime := e.trigTime, worldPos := e.worldPos, encoder := e.encoder }
                    ∧ (t.port n).rx = some { r with matched := some b.head, taken := true, headOk := true })))
      ∧ t = { s with freeCount := t.freeCount, dict := t.dict, ports := t.ports, atoll := t.atoll })
  ∧ (∀ (port : Fin 16) (payload : List Byte) (crc : BitVec 32) (framingOk : Bool) (s : State), let n := port.val
    ∃ t, exec (.linePacketEnd port payload crc framingOk) s = .next t ∧ onePort s t n ∧ (t.port n).rx = none
      ∧ (∀ r h b, (s.port n).rx = some r → r.discard = false → s.maint.switching = none → r.matched = some h → framingOk = true →
          payload.length + 36 = r.length → (s.port n).buffer.getLast? = some b →
          (∃ b', (t.port n).buffer.getLast? = some b' ∧ b'.payload = some payload ∧ b'.head = b.head
            ∧ (b'.crcOk = true ↔ crc32 payload = crc.toNat))
          ∧ (crc32 payload = crc.toNat → ((s.port n).state ≠ 3 → (t.port n).lastValid = s.now)
              ∧ (let e := (s.port n).entry (ledgerSlot h.seq)
                 h.triggered = true → e.valid = true → e.seq = h.seq → e.lost = false →
                  ((t.port n).entry (ledgerSlot h.seq)).planes = setBit e.planes h.plane true))
          ∧ (crc32 payload ≠ crc.toNat → counted s t (Key.payloadCrcErrors n) ∧ (t.port n).ledger = (s.port n).ledger))
      ∧ (∀ r, (s.port n).rx = some r → r.discard = false → s.maint.switching = none → r.matched = none → counted s t (Key.framingErrors n))
      ∧ t = { s with freeCount := t.freeCount, dict := t.dict, ports := t.ports, maint := t.maint })
  ∧ (∀ (port : Fin 16) (packet : List Byte) (s : State), let n := port.val
    ∃ t, exec (.statusPacket port packet) s = .next t ∧ onePort s t n ∧ (t.port n).rx = none
      ∧ (∀ r, (s.port n).rx = some r → r.discard = false →
          (packet.length ≠ 32 → counted s t (Key.framingErrors n))
          ∧ (packet.length = 32 → r.length = 32 → fieldAt packet 0 1 = 2 → fieldAt packet 28 4 ≠ crc32 (packet.take 28) →
              counted s t (Key.hdrCrcErrors n))
          ∧ (packet.length = 32 → r.length = 32 → fieldAt packet 0 1 = 2 → fieldAt packet 28 4 = crc32 (packet.take 28) →
              t.num (Key.camStatus n) = fieldAt packet 2 2 ∧ t.num (Key.camLinesHeld n) = fieldAt packet 4 4
              ∧ t.num (Key.camLinesDropped n) = fieldAt packet 8 4 ∧ (t.port n).lastValid = s.now
              ∧ (bitAt (fieldAt packet 2 2) 0 = true → (s.port n).state ∈ [3, 5] → (t.port n).state = 4)
              ∧ (bitAt (fieldAt packet 2 2) 0 = true → (s.port n).state = 3 → counted s t (Key.linkUpCount n))
              ∧ (bitAt (fieldAt packet 2 2) 0 = false → (t.port n).state = (s.port n).state)))
      ∧ t = { s with
          freeCount := t.freeCount, dict := t.dict, logs := t.logs, ports := t.ports, net := t.net,
          harbour := t.harbour, sent := t.sent })
  ∧ (∀ (port : Fin 16) (s : State), let n := port.val
    let credit (t : State) : Prop := ∃ x, t.sent = s.sent ++ [x] ∧ x.dest = .downlink n ∧ x.data.take 1 = [0x11]
      ∧ fieldAt x.data 4 4 = (s.port n).limit % 2 ^ 32 ∧ t.port n = { s.port n with creditDue := false, lastCredit := s.now }
      ∧ onePort s t n ∧ t = { s with ports := t.ports, sent := t.sent }
    (s.linked n = true → (s.port n).creditDue = true → (s.port n).lastCredit + 200 ≤ s.now →
      ∃ t, exec (.creditPacket port) s = .next t ∧ credit t)
    ∧ (s.linked n = false ∨ (s.port n).creditDue = false ∨ s.now < (s.port n).lastCredit + 200 → exec (.creditPacket port) s = .next s)
    ∧ (s.linked n = true → (s.port n).lastCredit + 100000 ≤ s.now → ∃ t, exec (.creditPacketPeriodic port) s = .next t ∧ credit t)
    ∧ (s.linked n = false ∨ s.now < (s.port n).lastCredit + 100000 → exec (.creditPacketPeriodic port) s = .next s)
    ∧ (s.linked n = true → (s.port n).lastBeacon + 1000 * s.num (Key.beaconPeriod n) ≤ s.now →
        ∃ t, exec (.timeBeacon port) s = .next t ∧ onePort s t n
          ∧ (∃ x, t.sent = s.sent ++ [x] ∧ x.dest = .downlink n ∧ x.data.take 1 = [0x13] ∧ fieldAt x.data 2 2 = (s.port n).beaconSeq % 65536
              ∧ fieldAt x.data 8 8 = s.wNow % 2 ^ 64)
          ∧ t.port n = { s.port n with beaconSeq := ((s.port n).beaconSeq + 1) % 65536, lastBeacon := s.now })
    ∧ (s.linked n = false ∨ s.now < (s.port n).lastBeacon + 1000 * s.num (Key.beaconPeriod n) → exec (.timeBeacon port) s = .next s))

/-- 04 R117–R132: the tunnel, and triggers. -/
def Obligations.TunnelAndTriggers : Prop :=
  (∀ (src : Source) (port : Fin 16) (payload : List Byte) (s : State), let n := port.val
    s.life.dictServed = true → s.blockFails src (Key.tunnelRequest n) payload = [] →
    ∃ t, exec (.tunnelRequest src port payload) s = .next t
      ∧ (s.num (Key.tunnelStatus n) ≠ 1 → s.linked n = true →
          t.num (Key.tunnelStatus n) = 1 ∧ (t.port n).tunTag = ((s.port n).tunTag + 1) % 256 ∧ (t.port n).tunSent = some s.now
          ∧ (∃ x, t.sent = s.sent ++ [x] ∧ x.dest = .downlink n ∧ x.data = tunnelBytes 0x14 (((s.port n).tunTag + 1) % 256) payload)
          ∧ t.blob (Key.tunnelRequest n) = payload)
      ∧ (s.num (Key.tunnelStatus n) ≠ 1 → s.linked n = false → t.num (Key.tunnelStatus n) = 4 ∧ t.sent = s.sent ∧ t.ports = s.ports)
      ∧ (s.num (Key.tunnelStatus n) = 1 → hostTold t src (Key.tunnelRequest n) 8 ∧ t.num (Key.tunnelStatus n) = 1
          ∧ t.ports = s.ports ∧ t.sent = s.sent)
      ∧ onePort s t n
      ∧ t = { s with freeCount := t.freeCount, dict := t.dict, ports := t.ports, net := t.net, sent := t.sent })
  ∧ (∀ (port : Fin 16) (packet : List Byte) (s : State), let n := port.val
    let len := fieldAt packet 2 2
    let size := 8 + (len + 3) / 4 * 4
    ∃ t, exec (.tunnelResponse port packet) s = .next t ∧ onePort s t n ∧ (t.port n).rx = none
      ∧ (∀ r, (s.port n).rx = some r → r.discard = false → fieldAt packet 0 1 = 4 → 0 < len → len ≤ 64 → packet.length = size + 4 →
          r.length = packet.length →
          (fieldAt packet size 4 ≠ crc32 (packet.take size) →
            counted s t (Key.hdrCrcErrors n) ∧ t.num (Key.tunnelStatus n) = s.num (Key.tunnelStatus n))
          ∧ (fieldAt packet size 4 = crc32 (packet.take size) → s.num (Key.tunnelStatus n) = 1 →
            (fieldAt packet 1 1 = (s.port n).tunTag → t.num (Key.tunnelStatus n) = 2
              ∧ t.blob (Key.tunnelResponse n) = bytesAt packet 8 len ∧ (t.port n).tunSent = none)
            ∧ (fieldAt packet 1 1 ≠ (s.port n).tunTag → t.num (Key.tunnelStatus n) = 1 ∧ (t.port n).tunSent = (s.port n).tunSent)))
      ∧ t = { s with freeCount := t.freeCount, dict := t.dict, ports := t.ports })
  ∧ (∀ (port : Fin 16) (s : State), let n := port.val
    (∀ f, (s.port n).tunSent = some f → s.num (Key.tunnelStatus n) = 1 → f + 1000000 * s.num (Key.tunnelTimeout n) ≤ s.now →
      ∃ t, exec (.tunnelTimeout port) s = .next t ∧ t.num (Key.tunnelStatus n) = 3 ∧ t.port n = { s.port n with tunSent := none }
        ∧ onePort s t n ∧ t = { s with dict := t.dict, ports := t.ports })
    ∧ (∀ f, (s.port n).tunSent = some f → s.num (Key.tunnelStatus n) ≠ 1 ∨ s.now < f + 1000000 * s.num (Key.tunnelTimeout n) →
      exec (.tunnelTimeout port) s = .next s)
    ∧ ((s.port n).tunSent = none → exec (.tunnelTimeout port) s = .next s))
  ∧ (∀ (port : Fin 16) (s : State), let n := port.val
    ∃ t, exec (.lineTrigger port) s = .next t ∧ onePort s t n
      ∧ (s.wire (0x20 + n) = [] → t = s)
      ∧ (s.inRun = false ∨ s.life.draining = true ∨ s.portCount ≤ n → t = { s with motion := t.motion })
      ∧ (∀ e w, s.wire (0x20 + n) = e :: w → s.inRun = true → s.life.draining = false → n < s.portCount →
          let tooSoon := ∃ l, (s.port n).lastTrig = some l ∧ e.1 < l + 100
          let q := (s.port n).nextSeq
          (tooSoon → counted s t (Key.triggerMergedCount n) ∧ t.ports = s.ports ∧ t.sent = s.sent)
          ∧ (¬ tooSoon →
              (t.port n).nextSeq = (q + 1) % 2 ^ 32 ∧ (t.port n).issued = true ∧ (t.port n).lastTrig = some e.1
              ∧ (let x := (t.port n).entry (ledgerSlot q)
                 x.seq = q ∧ x.valid = true ∧ x.matched = false ∧ x.lost = false ∧ x.planes = 0 ∧ x.trigTime = s.wAt e.1
                  ∧ x.encoder = s.num Key.webEncoder)
              ∧ t.val (Key.lastTrigSeq n) = BitVec.ofNat 64 q
              ∧ ((s.port n).state ≠ 0 → ∃ x, t.sent = s.sent ++ [x] ∧ x.dest = .downlink n ∧ x.data = triggerBlock q)
              ∧ ((s.port n).state = 0 → t.sent = s.sent)))
      ∧ t = { s with freeCount := t.freeCount, dict := t.dict, ports := t.ports, motion := t.motion, sent := t.sent })
  ∧ (∀ (port : Fin 16) (q : BitVec 32) (s : State), let n := port.val
    let e := (s.port n).entry (ledgerSlot q.toNat)
    let late := e.seq = q.toNat ∧ e.creditTime + 1000 * s.num (Key.trigLineTimeout n) ≤ s.creditTime n
    (late → e.valid = true → e.matched = false → e.lost = false →
      ∃ t, exec (.ledgerEntryTimeout port q) s = .next t ∧ ((t.port n).entry (ledgerSlot q.toNat)).lost = true
        ∧ counted s t (Key.linesLost n) ∧ onePort s t n ∧ t = { s with
            freeCount := t.freeCount, dict := t.dict, ports := t.ports })
    ∧ (¬ late ∨ e.valid = false ∨ e.matched = true ∨ e.lost = true → exec (.ledgerEntryTimeout port q) s = .next s))

/-- 04 R134; 05 R139–R156: the pipelines. -/
def Obligations.PipelinesTakePlanes : Prop :=
  (∀ (p : Fin 8) (s : State),
    (∀ n b rest d, s.flag (Key.pipelineInService p.val) = true → s.nextPort p.val = some n → (s.port n).buffer = b :: rest →
      b.payload = some d →
      ∃ t, exec (.planeProcess p) s = .next t ∧ onePort s t n ∧ (t.port n).buffer = rest
        ∧ (t.port n).limit = ((s.port n).limit + creditsOf b.length) % 2 ^ 32 ∧ (t.pipe p.val).lastPort = n
        ∧ t.sched.arrived = s.sched.arrived + s.num (Key.camLineLength n)
        ∧ t.num (Key.pipeSamples p.val) = (s.num (Key.pipeSamples p.val) + s.num (Key.camLineLength n)) % 2 ^ 64
        ∧ (s.planeLost n b = true → counted s t (Key.planesDiscarded p.val) ∧ (t.port n).output = (s.port n).output
            ∧ (t.port n).held = (s.port n).held)
        ∧ (s.planeLost n b = false → s.num (Key.colourMode n) = 0 → b.head.triggered = true →
            ∃ l, (t.port n).output = (s.port n).output ++ [l] ∧ l.head = b.head
              ∧ (let len := s.num (Key.camLineLength n)
                 let r := s.correct n b.head.plane b.head d
                 let pp := s.blob (Key.pixelParams n)
                 let luts := (List.range 3).map fun q => s.blob (Key.toneLut n q)
                 ∃ y, l.planes = [y] ∧ y.length = len ∧ ∀ c, c < len → y.getD c 0 =
                    if r.2.1.getD c 0 ≠ 0 then s.num (Key.camFillValue n) else (monoPixel pp luts (r.1.getD c 0)).y))
        ∧ t = { s with
            freeCount := t.freeCount, dict := t.dict, sched := t.sched, ports := t.ports, pipes := t.pipes })
    ∧ (s.flag (Key.pipelineInService p.val) = false ∨ s.nextPort p.val = none → exec (.planeProcess p) s = .next s))
  ∧ (∀ (port : Fin 16) (s : State), let n := port.val
    let late := (s.port n).held.filter fun x => !x.head.triggered && x.arrived + 1000 * s.num (Key.trigLineTimeout n) ≤ s.now
    let keys := (late.map (s.lineKey n)).eraseDups
    ∃ t, exec (.planeMissingTimeout port) s = .next t ∧ onePort s t n
      ∧ (∀ x, x ∈ (t.port n).held ↔ x ∈ (s.port n).held ∧ s.lineKey n x ∉ keys)
      ∧ (t.port n).missing.length = (s.port n).missing.length + keys.length
      ∧ (late = [] → t = s)
      ∧ t = { s with freeCount := t.freeCount, dict := t.dict, ports := t.ports })
  ∧ (∀ (port : Fin 16) (s : State), let n := port.val
    let time := min 50000 (s.now - (s.port n).loadStart)
    ((s.port n).loading = true →
      ∃ t, exec (.tableLoadComplete port) s = .next t ∧ t.port n = { s.port n with loading := false } ∧ onePort s t n
        ∧ (let p := s.num (Key.portPlacement n) % 8
           counted s t (Key.tableLoadCount p) ∧ t.num (Key.tableLoadLast p) = time
            ∧ (s.num (Key.tableLoadWait p) + time < 2 ^ keyBits (Key.tableLoadWait p) →
                t.num (Key.tableLoadWait p) = s.num (Key.tableLoadWait p) + time))
        ∧ t = { s with freeCount := t.freeCount, dict := t.dict, ports := t.ports })
    ∧ ((s.port n).loading = false → exec (.tableLoadComplete port) s = .next s))

/-- Of Causeway's ports, this one alone may change but for the waits. -/
def spanOpened (s t : State) (n cause : Nat) : Prop :=
  ∃ x, (t.geo n).spans = (s.geo n).spans ++ [x] ∧ x.cause = cause ∧ x.first = max s.cause.nextLine (s.firstUnready n) ∧ x.stop = none
    ∧ counted s t Key.spanCount

/-- 06 R169–R185: Causeway's lines. -/
def Obligations.CausewayFormsWorldLines : Prop :=
  (∀ (port : Fin 16) (s : State), let n := port.val
    (∀ x rest, (s.port n).output = x :: rest → (s.geo n).spillHold = false →
      let y := (s.linePosition n x.head).1 - s.int (Key.alongOffset n)
      ∃ t, exec (.cameraLineArrival port) s = .next t ∧ (t.port n).output = rest ∧ onePort s t n
        ∧ (y < 0 ∨ (∃ a, (s.geo n).lastY = some a ∧ y ≤ a) → counted s t Key.backwardLines ∧ (t.geo n).used = (s.geo n).used)
        ∧ (0 ≤ y → (∀ a, (s.geo n).lastY = some a → a < y) → (s.geo n).isOpen = false → y < 65536 * (s.geo n).resume →
            counted s t Key.lateLines ∧ (t.geo n).used = (s.geo n).used)
        ∧ (0 ≤ y → (∀ a, (s.geo n).lastY = some a → a < y) → (s.geo n).isOpen = true →
            let up := ((y + 65535) / 65536).toNat
            (t.geo n).isOpen = false ∧ (t.geo n).resume = max up s.cause.nextLine
            ∧ (up < s.cause.nextLine → counted s t Key.lateLines ∧ (t.geo n).used = (s.geo n).used)
            ∧ (s.cause.nextLine ≤ up → counted s t (Key.portLinesUsed n)))
        ∧ (0 ≤ y → 65536 * (s.geo n).resume ≤ y → (s.geo n).spans = [] →
            (s.geo n).lastY = none ∨ (∃ a, (s.geo n).lastY = some a ∧ a < y ∧ ∀ m ∈ (s.geo n).missing, ¬ (a < m ∧ m < y)) →
            counted s t (Key.portLinesUsed n) ∧ (t.geo n).lastY = some y
            ∧ ∃ u, (t.geo n).used = (s.geo n).used ++ [u] ∧ u.y = y ∧ u.gain = s.num (Key.portGainNow n))
        ∧ t = { s with freeCount := t.freeCount, dict := t.dict, ports := t.ports, cause := t.cause })
    ∧ ((s.port n).output = [] ∨ (s.geo n).spillHold = true → exec (.cameraLineArrival port) s = .next s))
  ∧ (∀ (port : Fin 16) (s : State), let n := port.val
    (∀ m rest, (s.port n).missing = m :: rest → m.half = false →
      ∃ t, exec (.missingLineReport port) s = .next t ∧ (t.port n).missing = rest ∧ onePort s t n
        ∧ (∀ a, (s.geo n).spans = [] → (s.geo n).lastY = some a →
            (a + 2 * 65536 ≤ m.pos → spanOpened s t n 1)
            ∧ (m.pos < a + 2 * 65536 → t.cause.geo = (s.modGeo n fun g => { g with missing := g.missing ++ [m.pos] }).cause.geo))
        ∧ t = { s with freeCount := t.freeCount, dict := t.dict, ports := t.ports, cause := t.cause })
    ∧ (∀ m rest, (s.port n).missing = m :: rest → m.half = true → exec (.missingLineReport port) s = .next s)
    ∧ ((s.port n).missing = [] → exec (.missingLineReport port) s = .next s))
  ∧ (∀ (port : Fin 16) (s : State), let n := port.val
    let late := ∃ f, (s.geo n).waitSince = some f ∧ f + 1000 * s.lineSettings.num Key.portWaitMax ≤ s.now
    (late → s.awaited n = true →
      ∃ t, exec (.portWaitExpired port) s = .next t ∧ counted s t Key.portWaitExpired ∧ spanOpened s t n 2
        ∧ t = { s with freeCount := t.freeCount, dict := t.dict, cause := t.cause })
    ∧ (¬ late ∨ s.awaited n = false → exec (.portWaitExpired port) s = .next s))
  ∧ (∀ s : State,
    let l := s.cause.nextLine
    let ready := s.inRun = true ∧ s.linesEnded = false ∧ s.recordHold = false ∧ (∀ n ∈ s.enabledPorts, s.portSettled n l = true)
      ∧ ((∃ n ∈ s.enabledPorts, s.boundsLine n l = true) ∨ s.stripEnded l = true)
    (ready → ∃ t w, exec .worldLineForm s = .next t ∧ t.cause.nextLine = l + 1 ∧ t.cause.formed = s.cause.formed ++ [w]
        ∧ w.line = l ∧ w.strip = s.stripAt l ∧ counted s t Key.worldLinesFormed
        ∧ w.planes.length = s.num Key.worldPlanes ∧ w.planes.all (fun row => row.length = s.num Key.worldWidth) = true
        ∧ t = { s with
            freeCount := t.freeCount, dict := t.dict, sched := t.sched, cause := t.cause, streams := t.streams,
            g6 := t.g6 })
    ∧ (¬ ready → exec .worldLineForm s = .next s))

/-- 07 R201–R208, R224: Reef's lines, stalls, columns and reference store. -/
def Obligations.ReefTakesLines : Prop :=
  (∀ s : State,
    (∀ w, s.reef.stalled = none → s.inRun = true → s.nextReefLine = some w →
      ∃ t, exec .reefLine s = .next t ∧ t.reef.nextLine = w.line + 1 ∧ (∀ x ∈ t.cause.formed, x ∈ s.cause.formed)
        ∧ (s.flag Key.reefEnable = false → t.reef.columns = s.reef.columns)
        ∧ (s.flag Key.reefEnable = true → (s.settingsFor w.strip).num Key.refModel = 0 → 0 < s.reef.warmLeft →
            t.reef.warmLeft = s.reef.warmLeft - 1
            ∧ ∀ x y m, (w.luma.zip w.marks)[x]? = some (y, m) → badMark m = false → (s.column x).valid = false →
                t.column x = { mean := y * 256, mad := 0, valid := true })
        ∧ t = { s with
            freeCount := t.freeCount, dict := t.dict, sched := t.sched, cause := t.cause, reef := t.reef,
            pieces := t.pieces, streams := t.streams, motion := t.motion, net := t.net, g6 := t.g6, sent := t.sent })
    ∧ (s.reef.stalled.isSome = true ∨ s.inRun = false ∨ s.nextReefLine = none → exec .reefLine s = .next s))
  ∧ (∀ s : State,
    let left := s.reef.held.length + (s.reef.queue.filter fun (q : Nat × Nat) => decide (s.now < q.1)).length
    (∀ f, s.reef.stalled = some f → ∃ t, exec .reefResume s = .next t
      ∧ (left < 16384 → t.reef.stalled = none
          ∧ (s.num Key.reefStallTime + (s.now - f) < 2 ^ keyBits Key.reefStallTime →
              t.num Key.reefStallTime = s.num Key.reefStallTime + (s.now - f)))
      ∧ (16384 ≤ left → t.reef.stalled = some f)
      ∧ t = { s with freeCount := t.freeCount, dict := t.dict, sched := t.sched, cause := t.cause, reef := t.reef })
    ∧ (s.reef.stalled = none → exec .reefResume s = .next s))
  ∧ (∀ (src : Source) (v : Slot) (s : State), s.admits src Key.colModelClear v →
    ∃ t, exec (.colModelClear src v) s = .next t
      ∧ (s.inRun = false → t.reef.columns = [] ∧ t.reef.loaded = [] ∧ t.num Key.colModelValid = 0)
      ∧ (s.inRun = true → hostTold t src Key.colModelClear 3 ∧ t.reef = s.reef)
      ∧ t = { s with freeCount := t.freeCount, dict := t.dict, reef := t.reef, net := t.net })
  ∧ (∀ (src : Source) (data : List Byte) (s : State),
    s.life.dictServed = true → s.blockFails src Key.refStoreWriteData data = [] →
    let a := s.num Key.refStoreWriteAddr
    ∃ t, exec (.refStoreWriteData src data) s = .next t
      ∧ (s.inRefStore a data.length = true → memRead t.g6.mem a data.length = data
          ∧ (∀ x, x < a ∨ a + data.length ≤ x → memByte t.g6.mem x = memByte s.g6.mem x)
          ∧ t.val Key.refStoreWriteAddr = BitVec.ofNat 64 (a + data.length))
      ∧ (s.inRefStore a data.length = false → hostTold t src Key.refStoreWriteData 4 ∧ t.g6 = s.g6
          ∧ t.val Key.refStoreWriteAddr = s.val Key.refStoreWriteAddr)
      ∧ t = { s with freeCount := t.freeCount, dict := t.dict, net := t.net, g6 := { s.g6 with mem := t.g6.mem, bad := t.g6.bad } })

/-- 07 R220, R221; 08 R231, R245: pieces, and Atoll's lines. -/
def Obligations.PiecesAndAtollLines : Prop :=
  (∀ s : State,
    (∀ e w, s.wire 0x61 = e :: w → ∃ t, exec .pieceStart s = .next t
      ∧ (s.inRun = true → s.flag Key.pieceEnable = true →
          t.pieceNext = s.pieceNext + 1
          ∧ ∃ p ∈ t.pieces, p.id = s.pieceNext + 1 ∧ p.startTime = s.wAt e.1 ∧ p.encCount = s.webCountAt e.1
            ∧ p.line = (max (s.worldLineAt e.1 + s.int Key.pieceLineOffset) 0).toNat
            ∧ p.endMode = s.num Key.pieceEndMode ∧ (p.endMode = 0 → p.lineEnd = some (p.line + s.num Key.pieceLength)))
      ∧ (s.inRun = false ∨ s.flag Key.pieceEnable = false → t = { s with motion := t.motion })
      ∧ t = { s with
          freeCount := t.freeCount, dict := t.dict, sched := t.sched, reef := t.reef, pieces := t.pieces,
          pieceNext := t.pieceNext, atoll := t.atoll, streams := t.streams, motion := t.motion, net := t.net,
          sent := t.sent })
    ∧ (s.wire 0x61 = [] → exec .pieceStart s = .next s))
  ∧ (∀ s : State,
    (∀ e w, s.wire 0x62 = e :: w → ∃ t, exec .pieceEndEvent s = .next t
      ∧ (∀ p, s.inRun = true → s.flag Key.pieceEnable = true → s.pieces.getLast? = some p →
          let closed := p.done = true ∨ p.lineEnd.isSome = true ∨ p.endMode = 0
          (¬ closed → ∃ q ∈ t.pieces, q.id = p.id
              ∧ q.lineEnd = some (max (s.worldLineAt e.1 + p.endOffset) (p.line + 1)).toNat)
          ∧ (closed → counted s t Key.pieceEndIgnored ∧ t.pieces = s.pieces))
      ∧ (s.inRun = true → s.flag Key.pieceEnable = true → s.pieces = [] → counted s t Key.pieceEndIgnored)
      ∧ (s.inRun = false ∨ s.flag Key.pieceEnable = false → t = { s with motion := t.motion })
      ∧ t = { s with
          freeCount := t.freeCount, dict := t.dict, sched := t.sched, reef := t.reef, pieces := t.pieces,
          streams := t.streams, motion := t.motion, net := t.net, sent := t.sent })
    ∧ (s.wire 0x62 = [] → exec .pieceEndEvent s = .next s))
  ∧ (∀ s : State,
    (∀ w, s.atoll.stalled = none → s.inRun = true → s.flag Key.atollEnable = true → s.nextAtollLine = some w →
      ∃ t, exec .atollLine s = .next t ∧ t.atoll.nextLine = w.line + 1 ∧ (∀ x ∈ t.cause.formed, x ∈ s.cause.formed)
        ∧ (s.atoll.grids = [] → t.atoll.grids = [])
        ∧ t = { s with
            freeCount := t.freeCount, dict := t.dict, sched := t.sched, cause := t.cause, reef := t.reef,
            pieces := t.pieces, atoll := t.atoll, streams := t.streams, motion := t.motion, net := t.net,
            sent := t.sent })
    ∧ (s.atoll.stalled.isSome = true ∨ s.inRun = false ∨ s.flag Key.atollEnable = false ∨ s.nextAtollLine = none →
        exec .atollLine s = .next s))
  ∧ (∀ s : State,
    let left := (s.atoll.queue.filter fun (q : Nat × Nat) => decide (2 * s.now < q.1)).length
    (∀ f, s.atoll.stalled = some f → ∃ t, exec .atollResume s = .next t
      ∧ (left < 8192 → t.atoll.stalled = none
          ∧ (s.num Key.atollStallTime + (s.now - f) < 2 ^ keyBits Key.atollStallTime →
              t.num Key.atollStallTime = s.num Key.atollStallTime + (s.now - f)))
      ∧ (8192 ≤ left → t.atoll.stalled = some f)
      ∧ t = { s with freeCount := t.freeCount, dict := t.dict, cause := t.cause, atoll := t.atoll })
    ∧ (s.atoll.stalled = none → exec .atollResume s = .next s))

/-- The quadrature order in which A leads B: 00, 10, 11, 01 (10 R283). -/
def leadsA : Bool → Bool → Bool → Bool → Bool
  | false, false, true, false => true
  | true, false, true, true => true
  | true, true, false, true => true
  | false, true, false, false => true
  | _, _, _, _ => false

/-- 10 R283, R284: what the filtered levels of A and B do to the count, the stamps and `EncErrors`. The last clause, a
disabled channel, is the model's choice (log entry 41). -/
def Obligations.EncoderEdgesMoveTheCount : Prop :=
  ∀ (c : Fin 8) (a b : Bool) (s : State),
    (s.flag (Key.encEnable c) = true → ((a != (s.encoder c).a) != (b != (s.encoder c).b)) = true →
      ∃ t up, exec (.encoderEdge c a b) s = .next t
        ∧ up = (leadsA (s.encoder c).a (s.encoder c).b a b != s.flag (Key.encInvert c))
        ∧ t.num (Key.encCount c) = (if up then (s.num (Key.encCount c) + 1) % 2 ^ 48
            else (s.num (Key.encCount c) + (2 ^ 48 - 1)) % 2 ^ 48)
        ∧ (t.encoder c).stamps.head? = some ⟨s.now, t.num (Key.encCount c), up⟩
        ∧ (t.encoder c).a = a ∧ (t.encoder c).b = b
        ∧ (∀ d : Fin 8, d ≠ c → t.num (Key.encCount d) = s.num (Key.encCount d))
        ∧ t = { s with dict := t.dict, motion := t.motion, freeCount := t.freeCount })
    ∧ (s.flag (Key.encEnable c) = true → a ≠ (s.encoder c).a → b ≠ (s.encoder c).b →
        s.num (Key.encErrors c) + 1 < 2 ^ 32 →
      ∃ t, exec (.encoderEdge c a b) s = .next t
        ∧ t.num (Key.encErrors c) = s.num (Key.encErrors c) + 1
        ∧ (∀ d : Fin 8, t.num (Key.encCount d) = s.num (Key.encCount d))
        ∧ (t.encoder c).a = a ∧ (t.encoder c).b = b
        ∧ t = { s with dict := t.dict, motion := t.motion })
    ∧ (s.flag (Key.encEnable c) = false ∨ (a = (s.encoder c).a ∧ b = (s.encoder c).b) →
      exec (.encoderEdge c a b) s = .next (s.modEncoder c fun e => { e with a := a, b := b }))

/-- 10 R284, R306; 15 R441: the index latch, and the two 16 ms intervals that run outside RUN. -/
def Obligations.EncoderIndexAndIntervals : Prop :=
  (∀ (c : Fin 8) (s : State), s.num (Key.encIndexCount c) + 1 < 2 ^ 32 →
    ∃ t, exec (.encoderIndex c) s = .next t
      ∧ (s.flag (Key.encEnable c) = false → t = s)
      ∧ (s.flag (Key.encEnable c) = true → t.num (Key.encIndexLatch c) = s.num (Key.encCount c)
          ∧ t.num (Key.encIndexCount c) = s.num (Key.encIndexCount c) + 1)
      ∧ (∀ d : Fin 8, t.num (Key.encCount d) = s.num (Key.encCount d))
      ∧ t = { s with dict := t.dict, motion := t.motion })
  ∧ (∀ s : State,
    (s.inRun = true ∨ s.now < s.motion.encIntervalStart + 16000000 → exec .encIllegalInterval s = .next s)
    ∧ (s.inRun = false → s.motion.encIntervalStart + 16000000 ≤ s.now →
      ∃ t, exec .encIllegalInterval s = .next t
        ∧ t.motion.encIntervalStart = s.motion.encIntervalStart + 16000000
        ∧ (∀ c, c < 8 → (t.encoder c).illegal = 0 ∧ (t.encoder c).stamps = (s.encoder c).stamps)
        ∧ t = { s with
            dict := t.dict, logs := t.logs, harbour := t.harbour, net := t.net, sent := t.sent, motion := t.motion,
            freeCount := t.freeCount }))
  ∧ (∀ s : State,
    (s.inRun = true ∨ s.now < s.motion.intervalStart + 16000000 → exec .narrowsGuardInterval s = .next s)
    ∧ (s.inRun = false → s.motion.intervalStart + 16000000 ≤ s.now →
      ∃ t, exec .narrowsGuardInterval s = .next t
        ∧ t.motion.intervalStart = s.motion.intervalStart + 16000000
        ∧ (∀ k, k < 256 → (t.evChan k).carried = 0 ∧ (t.evChan k).lastHop = (s.evChan k).lastHop)
        ∧ t = { s with motion := t.motion }))

/-- What an arm event of unit u does in the mode the unit runs in, with R_t at counter value c (10 R288). -/
def armedAs (s t : State) (u : Fin 48) (c : Nat) : Prop :=
  (s.num (Key.cmpMode u) = 1 → t.num (Key.cmpArmed u) = 1 ∧ t.cmp u = s.cmp u)
  ∧ (s.num (Key.cmpMode u) = 2 → (t.cmp u).acc = s.num (Key.cmpPhase u))
  ∧ (s.num (Key.cmpMode u) = 3 → t.num (Key.cmpArmed u) = 1 ∧ (t.cmp u).rt = s.wAt c)
  ∧ (s.num (Key.cmpMode u) = 4 → (t.cmp u).rt = s.wAt c ∧ (t.cmp u).next = 0)
  ∧ (s.num (Key.cmpMode u) = 0 ∨ s.num (Key.cmpMode u) = 5 → t.cmp u = s.cmp u
      ∧ t.num (Key.cmpArmed u) = s.num (Key.cmpArmed u))

/-- 10 R286–R289: arm events and the firing of a unit in a time mode. -/
def Obligations.CompareUnitsArmAndFire : Prop :=
  (∀ (src : Source) (u : Fin 48) (v : Slot) (s : State), s.admits src (Key.cmpArm u) v →
    ∃ t, exec (.cmpArm src u v) s = .next t
      ∧ s.accepted t src (Key.cmpArm u) (writeValue src (Key.cmpArm u) (naturalSize src (Key.cmpArm u)) v)
      ∧ (s.inService = true → armedAs s t u (s.now + 2))
      ∧ (s.inService = false → t.motion = s.motion ∧ t.num (Key.cmpArmed u) = s.num (Key.cmpArmed u))
      ∧ t = { s with dict := t.dict, motion := t.motion })
  ∧ (∀ (u : Fin 48) (s : State),
    (s.wire (0x30 + u) = [] → exec (.cmpArmEvent u) s = .next s)
    ∧ (∀ e w, s.wire (0x30 + u) = e :: w →
      ∃ t, exec (.cmpArmEvent u) s = .next t
        ∧ (s.inService = true → armedAs s t u (e.1 + 2))
        ∧ t.wire (0x30 + u) = w.filter (fun x => x.1 / 2 ≠ e.1 / 2)
        ∧ t = { s with dict := t.dict, motion := t.motion }))
  ∧ (∀ (u : Fin 48) (s : State), s.inService = true → s.num (Key.cmpFireCount u) + 1 < 2 ^ 64 →
      (s.num (Key.cmpMode u) = 3 ∧ s.flag (Key.cmpArmed u) = true) ∨ s.num (Key.cmpMode u) = 4 →
      ∃ t, exec (.compareTimeFire u) s = .next t
        ∧ t = { s with dict := t.dict, motion := t.motion }
        ∧ (let due : Int := (((s.cmp u).rt : Int) + s.num (Key.cmpTimeStart u)) * 65536
              + (if s.num (Key.cmpMode u) = 4 then ((s.cmp u).next : Int) * s.num (Key.cmpTimePeriod u) else 0)
           if due ≤ s.net.w.at16 (s.now + 4) then
             t.num (Key.cmpFireCount u) = s.num (Key.cmpFireCount u) + 1
             ∧ t.num (Key.cmpLastFireTime u) = s.wNow
             ∧ t.num (Key.cmpLastFireCount u) = s.num (Key.encCount (s.num (Key.cmpEncoder u)))
             ∧ (t.cmp u).next = (s.cmp u).next + 1
             ∧ (s.num (Key.cmpMode u) = 3 → t.num (Key.cmpArmed u) = 0)
           else t = s))

/-- 10 R290–R292: the trigger outputs' schedule. -/
def Obligations.TriggerOutputsPulse : Prop :=
  (∀ (o : Fin 32) (s : State) (e : Nat × Bool) (w : List (Nat × Bool)), s.wire o = e :: w →
    s.num (Key.trgCollisionCount o) + 1 < 2 ^ 32 → s.num (Key.trgQueueFull o) + 1 < 2 ^ 32 →
    s.num (Key.trgOverlap o) + 1 < 2 ^ 32 →
    ∃ t, exec (.triggerOutputEvent o) s = .next t
      ∧ t.wire o = w.filter (fun x => x.1 / 2 ≠ e.1 / 2)
      ∧ t = { s with dict := t.dict, motion := t.motion }
      ∧ (s.flag (Key.trgEnable o) = false ∨ s.inService = false → t.dict = s.dict ∧ t.trg o = s.trg o)
      ∧ (s.flag (Key.trgEnable o) = true → s.inService = true →
          let cycle := (e :: w).filter fun x => x.1 / 2 = e.1 / 2
          let both : Prop := (∃ x ∈ cycle, x.2 = true) ∧ ∃ x ∈ cycle, x.2 = false
          let start := e.1 + 2 * s.num (Key.trgCoarseDelay o)
          let full : Prop := 256 ≤ (s.trg o).queue.length
          let overlap : Prop := ∃ q, (s.trg o).lastFinish = some q ∧ start < q + 2
          (both → t.num (Key.trgCollision o) = 1 ∧ t.num (Key.trgCollisionCount o) = s.num (Key.trgCollisionCount o) + 1)
          ∧ (¬both → t.num (Key.trgCollision o) = s.num (Key.trgCollision o)
              ∧ t.num (Key.trgCollisionCount o) = s.num (Key.trgCollisionCount o))
          ∧ (full → t.num (Key.trgQueueFull o) = s.num (Key.trgQueueFull o) + 1 ∧ t.trg o = s.trg o)
          ∧ (¬full → overlap → t.num (Key.trgOverlap o) = s.num (Key.trgOverlap o) + 1 ∧ t.trg o = s.trg o)
          ∧ (¬full → ¬overlap → (t.trg o).queue = (s.trg o).queue
                ++ [⟨start, start + 2 * s.num (Key.trgPulseWidth o), s.num (Key.trgFineDelay o)⟩]
              ∧ (t.trg o).current = (s.trg o).current)))
  ∧ (∀ (o : Fin 32) (s : State), s.wire o = [] → exec (.triggerOutputEvent o) s = .next s)
  ∧ (∀ (o : Fin 32) (s : State) (p : Pulse) (rest : List Pulse), (s.trg o).queue = p :: rest →
      s.num (Key.trgPulses o) + 1 < 2 ^ 64 →
      (s.now < p.start → exec (.triggerPulseStart o) s = .next s)
      ∧ (p.start ≤ s.now → ∃ t, exec (.triggerPulseStart o) s = .next t
          ∧ (t.trg o).current = some p ∧ (t.trg o).queue = rest
          ∧ t.num (Key.trgPulses o) = s.num (Key.trgPulses o) + 1
          ∧ t = { s with dict := t.dict, motion := t.motion }))
  ∧ (∀ (o : Fin 32) (s : State) (p : Pulse), (s.trg o).current = some p →
      (s.now < p.finish → exec (.triggerPulseEnd o) s = .next s)
      ∧ (p.finish ≤ s.now → ∃ t, exec (.triggerPulseEnd o) s = .next t
          ∧ (t.trg o).current = none ∧ (t.trg o).lastEnd = some p.finish ∧ (t.trg o).queue = (s.trg o).queue
          ∧ t = { s with motion := t.motion }))

/-- 10 R302, R304–R306: level 1 of Narrows. -/
def Obligations.NarrowsCarriesEvents : Prop :=
  (∀ (k : Fin 256) (s : State) (e : Nat × Bool) (w : List (Nat × Bool)), s.wire (chanWire k) = e :: w →
    s.num (Key.chanInjectMerge k) + 1 < 2 ^ 16 → s.num Key.guardTripCount + 1 < 2 ^ 32 →
    ∃ t, exec (.narrowsHop k) s = .next t
      ∧ t = { s with
          dict := t.dict, motion := t.motion, logs := t.logs, harbour := t.harbour, net := t.net, sent := t.sent,
          freeCount := t.freeCount }
      ∧ (s.flag (Key.chanGuardTripped k) = true
          ∨ (s.num (Key.chanHoldOff k) ≠ 0 ∧ ∃ l, (s.evChan k).lastHop = some l
              ∧ e.1 / 2 - l / 2 ≤ s.num (Key.chanHoldOff k)) →
          t.dict = s.dict ∧ t.evChan k = s.evChan k)
      ∧ (s.flag (Key.chanGuardTripped k) = false →
          (∀ l, (s.evChan k).lastHop = some l → s.num (Key.chanHoldOff k) = 0 ∨ s.num (Key.chanHoldOff k) < e.1 / 2 - l / 2) →
          (s.num (Key.chanGuardMax k) < (s.evChan k).carried + 1 →
            t.num (Key.chanGuardTripped k) = 1 ∧ t.num Key.guardTripCount = s.num Key.guardTripCount + 1
            ∧ t.num (Key.chanSeen k) = s.num (Key.chanSeen k) ∧ t.num (Key.chanCount k) = s.num (Key.chanCount k))
          ∧ ((s.evChan k).carried + 1 ≤ s.num (Key.chanGuardMax k) →
            t.num (Key.chanSeen k) = 1 ∧ t.num (Key.chanCount k) = (s.num (Key.chanCount k) + 1) % 2 ^ 16
            ∧ (t.evChan k).carried = (s.evChan k).carried + 1 ∧ (t.evChan k).lastHop = some e.1
            ∧ t.num (Key.chanInjectMerge k) = s.num (Key.chanInjectMerge k)
                + (if (∃ x ∈ e :: w, x.1 / 2 = e.1 / 2 ∧ x.2 = true) ∧ ∃ x ∈ e :: w, x.1 / 2 = e.1 / 2 ∧ x.2 = false
                    then 1 else 0))))
  ∧ (∀ (k : Fin 256) (s : State), s.wire (chanWire k) = [] → exec (.narrowsHop k) s = .next s)
  ∧ (∀ (src : Source) (v : Slot) (s : State), s.admits src Key.inject v →
      (s.flag (Key.chanGuardTripped (writeValue src Key.inject (naturalSize src Key.inject) v).toNat) = false →
        ∃ t, exec (.inject src v) s = .next t
          ∧ s.accepted t src Key.inject (writeValue src Key.inject (naturalSize src Key.inject) v)
          ∧ t.wire (chanWire (writeValue src Key.inject (naturalSize src Key.inject) v).toNat)
              = s.wire (chanWire (writeValue src Key.inject (naturalSize src Key.inject) v).toNat) ++ [(s.now, true)]
          ∧ t = { s with dict := t.dict, motion := t.motion })
      ∧ (s.flag (Key.chanGuardTripped (writeValue src Key.inject (naturalSize src Key.inject) v).toNat) = true →
        ∃ t, exec (.inject src v) s = .next t
          ∧ (src = .host → t.num Key.hostLastResult = 0x0A)
          ∧ t = { s with dict := t.dict, net := t.net, freeCount := t.freeCount }))
  ∧ (∀ (i : Fin 16) (level : Bool) (s : State),
      let l := level != s.flag (Key.eviInvert i)
      (l = tblGet s.motion.levels false i → exec (.eventInputEdge i level) s = .next s)
      ∧ (l ≠ tblGet s.motion.levels false i → ∃ t, exec (.eventInputEdge i level) s = .next t
          ∧ tblGet t.motion.levels false i = l ∧ t.num (Key.eviLevel i) = (if l then 1 else 0)
          ∧ t = { s with dict := t.dict, motion := t.motion }))

/-- 10 R296–R299: raw samples and outputs of the motion filter; what the filter yields is a free value (log entry 22). -/
def Obligations.MotionFilterOutputs : Prop :=
  (∀ (c : Fin 8) (s : State), 125 * c.val ≤ s.now →
    let at_ := (s.now - 125 * c) / 1000 * 1000 + 125 * c
    ∃ t, exec (.motionRawSample c) s = .next t
      ∧ t = { s with motion := t.motion }
      ∧ (∀ r, (s.encoder c).raws.head? = some r → at_ ≤ r.1 → t = s)
      ∧ ((∀ r, (s.encoder c).raws.head? = some r → r.1 < at_) →
          (∃ r, (t.encoder c).raws.head? = some r ∧ r.1 = at_
            ∧ ((∀ e ∈ (s.encoder c).stamps, e.time ≤ at_ →
                  e.time + 1000 * s.num (Key.standstillTime c) < at_ ∧ e.time + 1000 * s.num (Key.velWindow c) < at_) → r.2 = 0))
          ∧ (t.encoder c).count = (s.encoder c).count ∧ (t.encoder c).stamps = (s.encoder c).stamps))
  ∧ (∀ (c : Fin 8) (s : State),
    let at_ := outputInstant (s.num Key.motionOutRate) s.now
    (∀ l, (s.encoder c).lastOut = some l → at_ ≤ l → exec (.motionOutput c) s = .next s)
    ∧ ((∀ l, (s.encoder c).lastOut = some l → l < at_) → s.num (Key.thresholdEvents c) + 4 < 2 ^ 32 →
      ∃ t, exec (.motionOutput c) s = .next t
        ∧ t.int (Key.velocity c) = satS 32 (microns (s.velocityAt c at_))
        ∧ t.int (Key.acceleration c) = satS 32 (s.accelAt c at_)
        ∧ (t.encoder c).lastOut = some at_
        ∧ (∀ d : Fin 8, t.num (Key.encCount d) = s.num (Key.encCount d))
        ∧ t = { s with dict := t.dict, motion := t.motion }))

/-- 09 R260–R267; 11 R337; 12 R383: chips, shares, batches and rings. -/
def Obligations.ChipsSharesAndBatches : Prop :=
  (∀ s : State,
    (∀ c, s.nextChip = some c → s.chipReady c = true →
      ∃ t, exec .chipCut s = .next t ∧ t.streams.chips = s.streams.chips.filter (fun x => x.recSeq ≠ c.recSeq)
        ∧ (s.chipMissed c = true → counted s t Key.chipsMissed ∧ t.streams.units = s.streams.units)
        ∧ (s.chipMissed c = false → counted s t Key.chipsCut ∧ (s.chipBytes c).take 8 = leBytes 8 c.recSeq
            ∧ (bitAt (s.num (Key.route 4)) 0 = true → ∃ u, t.arrivals 4 = s.arrivals 4 ++ [u] ∧ u.bytes = s.chipBytes c
                ∧ u.strip = s.stripAt c.endLine))
        ∧ t = { s with freeCount := t.freeCount, dict := t.dict, sched := t.sched, streams := t.streams })
    ∧ (∀ c, s.nextChip = some c → s.chipReady c = false → exec .chipCut s = .next s)
    ∧ (s.nextChip = none → exec .chipCut s = .next s))
  ∧ (∀ (stream : Fin 8) (toEngine : Bool) (s : State), let st := stream.val
    let k := if toEngine then st + 8 else st
    (s.arrivals k = [] → exec (.stagingUnit stream toEngine) s = .next s)
    ∧ ∀ u rest, s.arrivals k = u :: rest →
      ∃ t, exec (.stagingUnit stream toEngine) s = .next t ∧ t.arrivals k = rest
        ∧ (let fill := if toEngine then s.engineHeld u.engine else unitBytes (s.shareHost st)
           (s.shareSize < fill + u.bytes.length → counted s t (Key.unitsDiscarded st) ∧ t.streams.shareHost = s.streams.shareHost
              ∧ t.streams.engines = s.streams.engines ∧ t.sent = s.sent)
           ∧ (fill + u.bytes.length ≤ s.shareSize → toEngine = true →
              (s.engine u.engine).work = none → (s.engine u.engine).ready = [] →
              (t.engine u.engine).ready = [{ source := st, strip := u.strip, parts := [u.bytes] }] ∧ t.sent = s.sent)
           ∧ (fill + u.bytes.length ≤ s.shareSize → toEngine = false → s.detached = false → s.shareHost st = [] →
              let prod := s.num (Key.hostRingProducer st)
              let n := (u.bytes.length + 63) / 64 * 64
              (prod - s.num (Key.hostRingConsumer st) + n ≤ s.num (Key.hostRingSize st) →
                t.shareHost st = [] ∧ t.val (Key.hostRingProducer st) = BitVec.ofNat 64 (prod + n)
                ∧ counted s t (Key.unitsDelivered st))
              ∧ (s.num (Key.hostRingSize st) < prod - s.num (Key.hostRingConsumer st) + n →
                t.shareHost st = [u] ∧ t.num (Key.hostRingProducer st) = prod ∧ t.sent = s.sent)))
        ∧ t = { s with
            freeCount := t.freeCount, dict := t.dict, streams := t.streams, ferry := t.ferry, sent := t.sent })
  ∧ (∀ (emitter : Bool) (s : State),
    let full := if emitter then 44 else 22
    let rs := (s.batch emitter).records
    let leaves (t : State) : Prop := (t.batch emitter).records = rs.drop full
      ∧ (s.num Key.fieldRecordNode < 1024 → s.num Key.fieldRecordsSent + (rs.take full).length < 2 ^ keyBits Key.fieldRecordsSent →
          t.num Key.fieldRecordsSent = s.num Key.fieldRecordsSent + (rs.take full).length)
      ∧ t = { s with freeCount := t.freeCount, dict := t.dict, streams := t.streams, net := t.net, sent := t.sent }
    let old := rs ≠ [] ∧ (s.batch emitter).opened + 1000 * s.num Key.recordBatchTime ≤ s.now
    (full ≤ rs.length → ∃ t, exec (.recordBatchSend emitter) s = .next t ∧ leaves t)
    ∧ (rs.length < full → exec (.recordBatchSend emitter) s = .next s)
    ∧ (old → ∃ t, exec (.recordBatchTimeout emitter) s = .next t ∧ leaves t)
    ∧ (¬ old → exec (.recordBatchTimeout emitter) s = .next s))
  ∧ (∀ (src : Source) (stream : Fin 8) (v : Slot) (s : State), let st := stream.val
    s.admits src (Key.hostRingConsumer st) v →
    let w := writeValue src (Key.hostRingConsumer st) (naturalSize src (Key.hostRingConsumer st)) v
    ∃ t, exec (.hostRingConsumer src stream v) s = .next t
      ∧ (w.toNat ≤ s.num (Key.hostRingProducer st) → t.val (Key.hostRingConsumer st) = w)
      ∧ (s.num (Key.hostRingProducer st) < w.toNat →
          hostTold t src (Key.hostRingConsumer st) 0x0A ∧ t.val (Key.hostRingConsumer st) = s.val (Key.hostRingConsumer st))
      ∧ t = { s with
          freeCount := t.freeCount, dict := t.dict, streams := t.streams, net := t.net, ferry := t.ferry,
          sent := t.sent })
  ∧ (∀ (stream : Fin 8) (v : Slot) (s : State), let st := stream.val
    ∃ t, exec (.hbRingCons stream v) s = .next t
      ∧ (v.toNat ≤ s.num (Key.hostRingProducer st) → t.val (Key.hostRingConsumer st) = v
          ∧ (s.detached = false → ∀ u, s.shareHost st = [u] →
              s.num (Key.hostRingProducer st) - v.toNat + (u.bytes.length + 63) / 64 * 64 ≤ s.num (Key.hostRingSize st) →
              t.shareHost st = [] ∧ t.val (Key.hostRingProducer st)
                = BitVec.ofNat 64 (s.num (Key.hostRingProducer st) + (u.bytes.length + 63) / 64 * 64)))
      ∧ (s.num (Key.hostRingProducer st) < v.toNat →
          t = { s with pcie := { s.pcie with badAccess := s.pcie.badAccess + 1 } })
      ∧ t = { s with
          freeCount := t.freeCount, dict := t.dict, streams := t.streams, ferry := t.ferry, pcie := t.pcie,
          sent := t.sent })

/-- Engine e has ended its work: one completion more. -/
def workEnded (s t : State) (e : Nat) : Prop :=
  (t.engine e).state = 0 ∧ (t.engine e).work = none ∧ (t.engine e).hasBuf = false ∧ (t.engine e).unitSeq = (s.engine e).unitSeq + 1
  ∧ (t.engine e).ready = (s.engine e).ready ∧ t.num (Key.complProducer e) = (s.num (Key.complProducer e) + 1) % 2 ^ 32
  ∧ counted s t (Key.unitsDone e) ∧ ∀ m, m ≠ e → t.engine m = s.engine m

/-- Nothing but what the engines touch has changed. -/
def engineFrame (s t : State) : Prop :=
  t = { s with
      freeCount := t.freeCount, dict := t.dict, logs := t.logs, sched := t.sched, streams := t.streams, net := t.net,
      g6 := t.g6, harbour := t.harbour, sent := t.sent }

/-- 09 R267–R278: the engines. -/
def Obligations.EnginesTakeAndEndWork : Prop :=
  (∀ (eng : Fin 8) (desc src : List Byte) (s : State), let e := eng.val
    let x := s.engine e
    (∀ w rest, s.inService = true → x.state = 0 → x.overrun = 0 → x.ready = w :: rest →
      ∃ t, exec (.compressionUnitStart eng desc src) s = .next t ∧ (t.engine e).ready = rest
        ∧ (s.noBuffers e = true → w.decompress = false → s.workLate w = false →
            (t.engine e).state = 2 ∧ (t.engine e).work = some (s.withSettings e w))
        ∧ (let base := s.num (Key.bufRingBase e)
           let c := s.num (Key.bufConsumer e)
           let d := s.load (base + 16 * (c % s.num (Key.bufRingEntries e))) 16
           s.noBuffers e = false → w.decompress = false → busAddr base = false → s.bufferOk (fieldAt d 0 8) (fieldAt d 8 4) = true →
            (t.engine e).state = 1 ∧ (t.engine e).work = some (s.withSettings e w) ∧ (t.engine e).hasBuf = true
            ∧ (t.engine e).bufAddr = fieldAt d 0 8 ∧ (t.engine e).bufLen = fieldAt d 8 4 ∧ t.num (Key.bufConsumer e) = (c + 1) % 2 ^ 32)
        ∧ engineFrame s t)
    ∧ (s.inService = false ∨ x.state ≠ 0 ∨ x.overrun ≠ 0 ∨ (x.ready = [] ∧ s.ringAhead e 2 = 0) →
      exec (.compressionUnitStart eng desc src) s = .next s)
    ∧ (s.inService = true → x.state = 0 → x.overrun = 0 → x.ready = [] → s.ringAhead e 2 ≠ 0 → busAddr (s.num (Key.jobRingBase e)) = true →
      64 ≤ desc.length → ∃ t, exec (.compressionUnitStart eng desc src) s = .next t
        ∧ t.num (Key.jobConsumer e) = (s.num (Key.jobConsumer e) + 1) % 2 ^ 32 ∧ engineFrame s t
        ∧ (s.jobBad (desc.take 64) = true → workEnded s t e)))
  ∧ (∀ (eng : Fin 8) (desc : List Byte) (s : State), let e := eng.val
    let x := s.engine e
    ∃ t, exec (.compressionBufferFull eng desc) s = .next t ∧ engineFrame s t
      ∧ (∀ w, x.work = some w → w.decompress = false → x.hasBuf = true → x.state ≠ 3 →
          (∀ n, s.outputSize e w = some n → x.outLen + x.bufLen < n) → s.noBuffers e = true →
          (s.ringAhead e 1 + 1 ≤ s.num (Key.complRingEntries e)) → s.workLate w = false →
          (t.engine e).outLen = x.outLen + x.bufLen ∧ (t.engine e).hasBuf = false ∧ (t.engine e).state = 2
          ∧ t.num (Key.complProducer e) = (s.num (Key.complProducer e) + 1) % 2 ^ 32)
      ∧ (x.work = none → t = s))
  ∧ (∀ (src : Source) (eng : Fin 8) (v : Slot) (s : State), let e := eng.val
    (s.admits src (Key.bufProducer e) v →
      ∃ t, exec (.bufProducer src eng v) s = .next t ∧ engineFrame s t
        ∧ t.val (Key.bufProducer e) = writeValue src (Key.bufProducer e) (naturalSize src (Key.bufProducer e)) v
        ∧ ((s.engine e).state ∉ [2, 3] → t.ringAhead e 0 ≤ s.num (Key.bufRingEntries e) →
            t.engine e = { s.engine e with overrun := setBit (s.engine e).overrun 0 false }))
    ∧ (s.admits src (Key.jobProducer e) v →
      ∃ t, exec (.jobProducer src eng v) s = .next t ∧ engineFrame s t
        ∧ t.val (Key.jobProducer e) = writeValue src (Key.jobProducer e) (naturalSize src (Key.jobProducer e)) v
        ∧ ((s.engine e).state ∉ [2, 3] → t.ringAhead e 2 ≤ s.num (Key.jobRingEntries e) →
            t.engine e = { s.engine e with overrun := setBit (s.engine e).overrun 2 false })))
  ∧ (∀ (eng : Fin 8) (reg : Fin 6) (v : BitVec 32) (s : State), let e := eng.val
    ∃ t, exec (.hbCompIdx eng reg v) s = .next t
      ∧ (reg.val = 0 → t.num (Key.bufProducer e) = v.toNat) ∧ (reg.val = 3 → t.num (Key.complConsumer e) = v.toNat)
      ∧ (reg.val = 4 → t.num (Key.jobProducer e) = v.toNat)
      ∧ (reg.val ∈ [1, 2, 5] → t = { s with pcie := { s.pcie with badAccess := s.pcie.badAccess + 1 } }))
  ∧ (∀ (eng : Fin 8) (s : State), let e := eng.val
    let x := s.engine e
    ∃ t, exec (.chainDeadline eng) s = .next t ∧ engineFrame s t
      ∧ (∀ w, x.work = some w → x.state = 2 → s.noBuffers e = true → s.workLate w = true →
          counted s t (Key.overflowNoChain e)
          ∧ (w.fallback = true → (t.engine e).state = 3 ∧ (t.engine e).outLen = 0 ∧ (t.engine e).hasBuf = false
              ∧ (t.engine e).work = some w)
          ∧ (w.fallback = false → workEnded s t e))
      ∧ (x.work = none ∨ x.state ≠ 2 ∨ s.noBuffers e = false ∨ (∀ w, x.work = some w → s.workLate w = false) → t = s))
  ∧ (∀ (eng : Fin 8) (s : State), let e := eng.val
    let x := s.engine e
    ∃ t, exec (.compressionUnitEnd eng) s = .next t ∧ engineFrame s t
      ∧ (∀ w n, x.work = some w → x.state = 1 → w.decompress = false → s.outputSize e w = some n → x.hasBuf = true →
          n ≤ x.outLen + x.bufLen → workEnded s t e)
      ∧ (∀ w, x.work = some w → x.state = 1 → w.decompress = true → workEnded s t e)
      ∧ (x.work = none ∨ x.state ≠ 1 → t = s))
  ∧ (∀ (eng : Fin 8) (s : State), let e := eng.val
    let x := s.engine e
    ∃ t, exec (.fallbackComplete eng) s = .next t ∧ engineFrame s t
      ∧ (∀ w n, x.work = some w → x.state = 3 → s.outputSize e w = some n → x.hasBuf = true → n ≤ x.outLen + x.bufLen → workEnded s t e)
      ∧ (x.work = none ∨ x.state ≠ 3 → t = s))
  ∧ (∀ (eng : Fin 8) (s : State), let e := eng.val
    let x := s.engine e
    let due := ∃ w ws, x.ready = w :: ws ∧ s.workLate w = true
    (x.state = 3 → x.hasBuf = false → due → ∃ t, exec (.fallbackDeadline eng) s = .next t ∧ workEnded s t e ∧ engineFrame s t)
    ∧ (x.state ≠ 3 ∨ x.hasBuf = true ∨ ¬ due → exec (.fallbackDeadline eng) s = .next s)
    ∧ (x.state ≠ 0 → ∃ t, exec (.compressionBusError eng) s = .next t ∧ workEnded s t e ∧ engineFrame s t)
    ∧ (x.state = 0 → exec (.compressionBusError eng) s = .next s))

/-- W stands on a domain as it is now. -/
def onDomain (s t : State) (d : Nat) : Prop :=
  t.net.w = ⟨(s.domain d).at16 s.now, s.now, (s.domain d).rate⟩ ∧ t.net.wAligned = true ∧ t.net.wDiverged = false ∧ t.num Key.wState = 0

/-- 11 R314–R319: W and the settable domains. -/
def Obligations.WFollowsItsSource : Prop :=
  (∀ s : State,
    let src := s.num Key.wSource
    let pick := s.markD0.pickSource
    let e := s.net.w.at16 s.now - (s.domain src).at16 s.now
    let far := (s.num Key.stepThreshold : Int) * 65536 < (e.natAbs : Int)
    ∃ t, exec .wUpdate s = .next t
      ∧ (pick ≠ src → t.num Key.wSource = pick ∧ counted s t Key.wSwitchCount
          ∧ tblGet t.harbour.req 0 78 = tblGet s.harbour.req 0 78 + 1)
      ∧ (pick = src →
          t.num Key.wSource = src
          ∧ (s.net.wAligned = true → s.net.wDiverged = false → ¬ far →
              t.net.w = s.net.w.reanchor s.now (s.slewRate e) ∧ t.net.w.at16 s.now = s.net.w.at16 s.now
              ∧ t.val Key.wError = BitVec.ofInt 64 (e / 65536) ∧ t.num Key.wState = if 65536 < e.natAbs then 1 else 0)
          ∧ (s.net.wAligned = true → s.net.wDiverged = false → far → s.inRun = true →
              t.net.w = s.net.w ∧ t.net.wDiverged = true ∧ t.num Key.wState = 3 ∧ warned s t 0x0055 noUnit 1 (toTwos 64 (e / 65536)))
          ∧ (s.net.wAligned = false ∨ s.net.wDiverged = true → s.inRun = true ∨ s.domGood src = false → t.net.w = s.net.w)
          ∧ (s.net.wAligned = false ∨ s.net.wDiverged = true → s.inRun = false → s.domGood src = true → onDomain s t src))
      ∧ t.net.domains = s.net.domains
      ∧ t = { s with
          freeCount := t.freeCount, dict := t.dict, logs := t.logs, net := t.net, harbour := t.harbour,
          sent := t.sent })
  ∧ (∀ (src : Source) (v : Slot) (s : State), s.admits src Key.wSelect v →
    let w := writeValue src Key.wSelect (naturalSize src Key.wSelect) v
    let pick := (s.setVal Key.wSelect w).pickSource
    ∃ t, exec (.wSelect src v) s = .next t ∧ t.val Key.wSelect = w ∧ t.num Key.wSource = pick
      ∧ (w = 0 → pick = 0) ∧ (w = 1 → pick = 1)
      ∧ (pick ≠ s.num Key.wSource → s.inRun = false → onDomain s t pick)
      ∧ (pick = s.num Key.wSource ∨ s.inRun = true → t.net.w = s.net.w)
      ∧ t = { s with
          freeCount := t.freeCount, dict := t.dict, logs := t.logs, net := t.net, harbour := t.harbour,
          sent := t.sent })
  ∧ (∀ (src : Source) (d : Fin 4) (v : Slot) (s : State),
    (s.admits src (Key.domOffset d.val) v →
      let w := writeValue src (Key.domOffset d.val) (naturalSize src (Key.domOffset d.val)) v
      ∃ t, exec (.domOffset src d v) s = .next t
        ∧ t.domain d.val = { s.domain d.val with offset := (w.toNat : Int) * 65536 + (s.domain d.val).offset % 65536 }
        ∧ (∀ m, m ≠ d.val → t.domain m = s.domain m) ∧ t.net.w = s.net.w
        ∧ t = { s with freeCount := t.freeCount, dict := t.dict, net := t.net })
    ∧ (s.admits src (Key.domRate d.val) v →
      let w := writeValue src (Key.domRate d.val) (naturalSize src (Key.domRate d.val)) v
      ∃ t, exec (.domRate src d v) s = .next t
        ∧ (t.domain d.val).rate = w.toInt ∧ (t.domain d.val).anchor = s.now
        ∧ (t.domain d.val).at16 s.now = (s.domain d.val).at16 s.now
        ∧ (∀ m, m ≠ d.val → t.domain m = s.domain m) ∧ t.net.w = s.net.w
        ∧ t = { s with freeCount := t.freeCount, dict := t.dict, net := t.net })
    ∧ (d.val < 2 → s.takesWrites → ∃ t u, exec (.domOffset src d v) s = .next t ∧ hostTold t src (Key.domOffset d.val) 2
        ∧ t.net.domains = s.net.domains
        ∧ exec (.domRate src d v) s = .next u ∧ hostTold u src (Key.domRate d.val) 2 ∧ u.net.domains = s.net.domains))

/-- 11 R320–R322: gPTP. -/
def Obligations.GptpInstances : Prop :=
  (∀ (inst : Fin 2) (port : Fin 4) (msg : Announce) (s : State), let i := inst.val
    (s.ptpOn i port.val = false → exec (.ptpAnnounce inst port msg) s = .next s)
    ∧ (s.ptpOn i port.val = true → ∃ t, exec (.ptpAnnounce inst port msg) s = .next t
      ∧ (let x := s.ptp i
         let best : Announce × Nat := match x.master with
           | none => (msg, port.val)
           | some m => if x.masterPort = port.val ∨ betterMaster msg m = true then (msg, port.val) else (m, x.masterPort)
         let own := s.gmCapable i = true ∧ betterMaster (s.ownAnnounce i) best.1 = true
         (own → t.num (Key.domState i) = 5
            ∧ (s.num (Key.domState i) ≠ 5 → (t.ptp i).master = none ∧ t.val (Key.ptpGmIdentity i) = BitVec.ofNat 64 s.ownIdentity
                ∧ t.num (Key.ptpSlavePort i) = 0xFF))
         ∧ (¬ own → (t.ptp i).master = some best.1 ∧ (t.ptp i).masterPort = best.2 ∧ (t.ptp i).lastAnn = s.now
            ∧ t.val (Key.ptpGmIdentity i) = BitVec.ofNat 64 best.1.gmIdentity
            ∧ (x.master = none ∨ s.num (Key.domState i) = 5 → t.num (Key.domState i) = 2)))
      ∧ t.net.domains = s.net.domains ∧ t = { s with dict := t.dict, net := t.net }))
  ∧ (∀ (inst : Fin 2) (s : State), let i := inst.val
    (s.flag (Key.ptpEnable i) = true → ∃ t, exec (.ptpAnnounceTimeout inst) s = .next t ∧ (t.ptp i).master = none
      ∧ t.num (Key.domState i) = (if s.num (Key.ptpPriority1 i) < 255 then 5 else 1) ∧ t.num (Key.ptpSlavePort i) = 0xFF
      ∧ t = { s with dict := t.dict, net := t.net })
    ∧ (s.flag (Key.ptpEnable i) = false → exec (.ptpAnnounceTimeout inst) s = .next s))
  ∧ (∀ (inst : Fin 2) (port : Fin 4) (mt : Int) (s : State), let i := inst.val
    let x := s.ptp i
    let off := ((s.domain i).at16 s.now - mt) / 65536
    let takes := s.ptpOn i port.val = true ∧ x.master.isSome = true ∧ x.masterPort = port.val ∧ s.num (Key.domState i) ≠ 5
    (takes → ∃ t, exec (.ptpSync inst port mt) s = .next t ∧ t.val (Key.domMasterOffset i) = BitVec.ofInt 64 off
      ∧ (x.stepped = false ∨ (s.num Key.stepThreshold : Int) < (off.natAbs : Int) →
          t.domain i = ⟨mt, s.now, (s.domain i).rate⟩ ∧ counted s t (Key.domStepCount i)
          ∧ tblGet t.harbour.req 0 78 = tblGet s.harbour.req 0 78 + 1)
      ∧ (x.stepped = true → (off.natAbs : Int) ≤ (s.num Key.stepThreshold : Int) →
          (t.domain i).at16 s.now = (s.domain i).at16 s.now ∧ (t.domain i).anchor = s.now)
      ∧ (let good := if (off.natAbs : Int) ≤ (s.num (Key.ptpLockThreshold i) : Int) then x.good + 1 else 0
         (t.ptp i).good = good ∧ (t.ptp i).lastSync = s.now ∧ t.num (Key.domState i) = if 16 ≤ good then 3 else 2)
      ∧ (∀ m, m ≠ i → t.domain m = s.domain m) ∧ t.net.w = s.net.w
      ∧ t = { s with freeCount := t.freeCount, dict := t.dict, net := t.net, harbour := t.harbour })
    ∧ (¬ takes → exec (.ptpSync inst port mt) s = .next s))
  ∧ (∀ (inst : Fin 2) (s : State), let i := inst.val
    let late := s.num (Key.domState i) = 3 ∧ (s.ptp i).lastSync + s.num (Key.ptpSyncTimeout i) * s.syncInterval i ≤ s.now
    (late → ∃ t, exec (.ptpSyncTimeout inst) s = .next t ∧ t.num (Key.domState i) = 4 ∧ (t.ptp i).good = 0
      ∧ t.net.domains = s.net.domains ∧ t = { s with dict := t.dict, net := t.net })
    ∧ (¬ late → exec (.ptpSyncTimeout inst) s = .next s))
  ∧ (∀ (inst : Fin 2) (s : State), let i := inst.val
    (s.num (Key.domState i) = 5 → ∃ t, exec (.ptpSyncTransmit inst) s = .next t ∧ (t.ptp i).lastSent = s.now
      ∧ (∀ p, p < 4 → s.ptpOn i p = true → s.flag (Key.fldLinkUp p) = true →
          ∃ x ∈ t.sent, ∃ y ∈ t.sent, ∃ a b c d, x.dest = .field p 6 none a b ∧ x.data = s.ptpFrame i 0x0B
            ∧ y.dest = .field p 6 none c d ∧ y.data = s.ptpFrame i 0x10)
      ∧ t = { s with freeCount := t.freeCount, dict := t.dict, net := t.net, sent := t.sent })
    ∧ (s.num (Key.domState i) ≠ 5 → exec (.ptpSyncTransmit inst) s = .next s))
  ∧ (∀ (port : Fin 4) (delay : Nat) (capable : Bool) (s : State),
    ∃ t, exec (.ptpPdelay port delay capable) s = .next t
      ∧ t.num (Key.ptpMeanLinkDelay port.val) = min delay (2 ^ 32 - 1)
      ∧ t.num (Key.ptpAsCapable port.val) = (if capable then 1 else 0) ∧ t = { s with dict := t.dict })

/-- The frames queued on a field port's class. -/
def queueOf (s : State) (p c : Nat) : List Frame := tblGet s.net.queues [] (queueKey p c)

/-- 11 R323–R328: the field ports. -/
def Obligations.FieldPortsCarryFrames : Prop :=
  (∀ (port : Fin 4) (up : Bool) (s : State), let p := port.val
    let idle := s.flag (Key.fldLinkUp p) = up ∨ (up = true ∧ s.num (Key.fldMode p) = 0)
    (idle → exec (.fieldLinkChange port up) s = .next s)
    ∧ (¬ idle → ∃ t, exec (.fieldLinkChange port up) s = .next t ∧ t.num (Key.fldLinkUp p) = (if up then 1 else 0)
      ∧ (up = true → ∀ c, c < 8 → ∀ f ∈ queueOf t p c, f.launch ≠ none)
      ∧ (up = false → t.num (Key.fldPreemptActive p) = 0)
      ∧ warned s t 0x0053 p (if up then 0 else 1) (if up then 1 else 0)
      ∧ tblGet t.harbour.req 0 (65 + p) = tblGet s.harbour.req 0 (65 + p) + 1
      ∧ t = { s with
          freeCount := t.freeCount, dict := t.dict, logs := t.logs, net := t.net, harbour := t.harbour,
          sent := t.sent }))
  ∧ (∀ (port : Fin 4) (s : State), let p := port.val
    let may := s.flag (Key.fldPreemptEn p) = true ∧ s.num (Key.fldMode p) = 1 ∧ s.flag (Key.fldLinkUp p) = true
    (may → exec (.preemptVerify port) s = .next (s.setNum (Key.fldPreemptActive p) 1))
    ∧ (¬ may → exec (.preemptVerify port) s = .next s)
    ∧ ∃ t, exec (.frameDiscard port) s = .next t ∧ counted s t (Key.fldRxDiscards p) ∧ t = { s with
        freeCount := t.freeCount, dict := t.dict })
  ∧ (∀ (port : Fin 4) (mac ip target : Nat) (s : State), let p := port.val
    let own := target = s.num (Key.fldIpAddr p) ∧ s.inSubnet p ip = true
    (own → ∃ t, exec (.arpRequest port mac ip target) s = .next t
      ∧ (s.flag (Key.fldLinkUp p) = true → ∃ x tag udp, t.sent = s.sent ++ [x] ∧ x.dest = .field p 0 tag ip udp ∧ x.time = s.now
          ∧ x.data = beBytes 2 1 ++ beBytes 2 0x0800 ++ [6, 4] ++ beBytes 2 2 ++ beBytes 6 (s.part.macs.getD p 0) ++ beBytes 4 target
              ++ beBytes 6 mac ++ beBytes 4 ip)
      ∧ (s.flag (Key.fldLinkUp p) = false → t.sent = s.sent)
      ∧ t = { s with freeCount := t.freeCount, dict := t.dict, net := t.net, sent := t.sent })
    ∧ (¬ own → exec (.arpRequest port mac ip target) s = .next s))
  ∧ (∀ (peer : Peer) (target : Nat) (body : List Byte) (s : State), let p := peer.port.val
    ∃ t, exec (.icmpEcho peer target body) s = .next t
      ∧ (target ≠ s.num (Key.fldIpAddr p) → counted s t (Key.fldRxDiscards p) ∧ t.sent = s.sent)
      ∧ (target = s.num (Key.fldIpAddr p) → s.inSubnet p peer.ip = true → s.flag (Key.fldLinkUp p) = true →
          ∃ x tag udp, t.sent = s.sent ++ [x] ∧ x.dest = .field p 1 tag peer.ip udp ∧ x.data.take 2 = [0, 0] ∧ x.data.drop 4 = body)
      ∧ (target = s.num (Key.fldIpAddr p) → s.inSubnet p peer.ip = false → t = s)
      ∧ t = { s with freeCount := t.freeCount, dict := t.dict, net := t.net, sent := t.sent })
  ∧ (∀ (port : Fin 4) (s : State), let p := port.val
    (firstLaunch (s.class7 p) = none → exec (.class7Launch port) s = .next s)
    ∧ ∀ f, firstLaunch (s.class7 p) = some f →
      (s.flag (Key.fldLinkUp p) = false ∨ s.wNow < f.launch.getD 0 → exec (.class7Launch port) s = .next s)
      ∧ (s.flag (Key.fldLinkUp p) = true → f.launch.getD 0 ≤ s.wNow →
        ∃ t, exec (.class7Launch port) s = .next t ∧ f ∉ queueOf t p 7
          ∧ (∃ x tag ip udp, t.sent = s.sent ++ [x] ∧ x.dest = .field p f.cls tag ip udp ∧ x.time = s.now)
          ∧ (∀ l, f.launch = some l → (class7Bound (s.num (Key.fldMode p))).1 < s.wNow - l → counted s t (Key.tc7LateCount p))
          ∧ t = { s with freeCount := t.freeCount, dict := t.dict, net := t.net, sent := t.sent }))

/-- The commands that bring a supervisor's datagram; which of them it is, the datagram says. -/
def supervisorCommands (p : Peer) (d : List Byte) : List Instr :=
  [.sessionOpen p d, .dictRead p d, .dictWriteJfp p d, .retransmission p d, .segInitDownload p d, .segInitUpload p d,
   .segInitAbort p d, .segDataDownload p d, .segDataRequest p d]

/-- A sound and authentic datagram of a peer in its open session. -/
def inSession (s : State) (p : Peer) (d : List Byte) (j : Jfp) (i : Fin 16) : Prop :=
  parseJfp d = some j ∧ bodyOk j.msgType j.body = true ∧ j.session = i.val ∧ (s.session i.val).peer = some p
  ∧ s.authOk j (s.session i.val).authSlot = true

/-- Session i was answered at the end: what was sent last is a datagram of this type and body to its peer. -/
def answered (s t : State) (i : Nat) (p : Peer) (msg : Nat) (body : List Byte) : Prop :=
  ∃ pre x tag, t.sent = pre ++ [x] ∧ x.dest = .field p.port.val 2 tag p.ip p.udp
    ∧ x.data = jfpDatagram msg i (s.session i).outSeq 0xFFFF body
        (if (s.session i).auth = true ∧ (s.session i).authSlot < 32 then some (s.keySlot (s.session i).authSlot).key else none)

/-- Session i has closed. -/
def sessionClosed (s t : State) (i : Nat) : Prop :=
  t.session i = {} ∧ (∀ m, m ≠ i → t.session m = s.session m) ∧ tblGet t.dict.sources {} (0x10 + i) = {}
  ∧ (∀ e ∈ s.dict.owners, e.2.source = 0x10 + i → e.2.lapse = none →
      (e.1, { e.2 with lapse := some (s.now + s.num Key.claimHoldTime * 1000000) }) ∈ t.dict.owners)
  ∧ (s.life.logsOn = true → ∃ e, t.dict.journal.head? = some e ∧ e.target = 0x900 + i ∧ e.source = 0)

/-- 11 R329–R340: supervisors. -/
def Obligations.SupervisorsAreServed : Prop :=
  (∀ (p : Peer) (d : List Byte) (c : Instr) (s : State), c ∈ supervisorCommands p d →
    let free := s.dict.held = [] ∧ s.net.waiting = []
    (s.fieldServed p.port.val = false → exec c s = .next s)
    ∧ (s.fieldServed p.port.val = true → (s.life.dictServed = false ∨ ¬ free) →
        exec c s = .next { s with net := { s.net with waiting := s.net.waiting ++ [(p, d)] } })
    ∧ (s.fieldServed p.port.val = true → s.life.dictServed = true → free →
      ∃ t, exec c s = .next t
        ∧ (parseJfp d = none → counted s t Key.jfpRxDiscards ∧ t = { s with freeCount := t.freeCount, dict := t.dict })
        ∧ (∀ j, parseJfp d = some j → bodyOk j.msgType j.body = true → j.session = 0xFF → j.msgType = 1 →
            (s.authOk j (s.slotOf p.ip) = false → counted s t Key.authFailures ∧ t.net = s.net)
            ∧ (s.authOk j (s.slotOf p.ip) = true → s.sessionOf p = none →
                (s.freeSession = none → counted s t Key.sessionRefused ∧ t.net = s.net)
                ∧ ∀ i, s.freeSession = some i → (t.session i).peer = some p ∧ (t.session i).auth = j.auth
                    ∧ (t.session i).authSlot = s.slotOf p.ip ∧ (t.session i).lastSeq = j.seq ∧ (t.session i).lastTime = s.now
                    ∧ (s.life.logsOn = true → ∃ e, t.dict.journal.head? = some e ∧ e.target = 0x800 + i)))
        ∧ (∀ j i, inSession s p d j i →
            (seqDiff j.seq (s.session i.val).lastSeq < 0 → counted s t Key.replayDiscards ∧ t.net = s.net ∧ t.sent = s.sent)
            ∧ (seqDiff j.seq (s.session i.val).lastSeq = 0 → t.dict = s.dict
                ∧ ∃ x tag, t.sent = s.sent ++ [x] ∧ x.dest = .field p.port.val 2 tag p.ip p.udp ∧ x.data = (s.session i.val).answer)
            ∧ (0 < seqDiff j.seq (s.session i.val).lastSeq →
                (j.msgType = 1 → (t.session i.val).lastSeq = j.seq
                  ∧ ∃ items, answered s t i.val p 3 (respBody j.seq 1 (s.session i.val).refused items)
                    ∧ items.map (·.target) = (listItems j.body 4).map ofLe
                    ∧ ∀ x ∈ items, x.result = if keyRow x.target = none ∧ countEntry x.target = false then 1 else 0)
                ∧ (∀ b, j.msgType = 2 → listItems j.body 16 = [b] → fieldAt b 0 4 ≠ Key.stateRequest →
                    let k := fieldAt b 0 4
                    let v := BitVec.ofNat 64 (fieldAt b 8 8)
                    let w := writeValue (.session i) k (fieldAt b 4 1) v
                    let code := firstCode (s.commonFails (.session i) k (fieldAt b 4 1) v ++ s.writeFails (.session i) k w)
                    (code ≠ 0 → t.dict.vals = s.dict.vals ∧ t.dict.pend = s.dict.pend
                      ∧ ∃ x, x.target = k ∧ x.result = code ∧ x.jseq = 0
                        ∧ answered s t i.val p 3 (respBody j.seq 2 ((s.session i.val).refused + 1) [x]))
                    ∧ (code = 0 → keyAccess k = .rwt → s.shadowed = true →
                        (if k < 0x500000 then s.lowCommand (.session i) k w else s.highCommand (.session i) k w) = none →
                        t.lastVal k = w ∧ ∃ x, x.target = k ∧ x.result = 0 ∧ x.jseq = s.dict.nextSeq
                          ∧ answered s t i.val p 3 (respBody j.seq 2 (s.session i.val).refused [x])))
                ∧ (j.msgType = 4 → fieldAt j.body 4 1 = 1 → 0 < fieldAt j.body 8 4 → fieldAt j.body 8 4 ≤ 65536 →
                    s.startFails (.session i) (fieldAt j.body 0 4) true = [] →
                    ∃ tr, (t.source (.session i)).transfer = some tr ∧ tr.target = fieldAt j.body 0 4 ∧ tr.download = true
                      ∧ tr.length = fieldAt j.body 8 4 ∧ tr.crc = fieldAt j.body 12 4 ∧ tr.offset = 0 ∧ tr.data = [])
                ∧ (j.msgType = 4 → fieldAt j.body 4 1 = 2 → s.startFails (.session i) (fieldAt j.body 0 4) false = [] →
                    s.readBlob (fieldAt j.body 0 4) ≠ [] →
                    ∃ tr, (t.source (.session i)).transfer = some tr ∧ tr.download = false ∧ tr.data = s.readBlob (fieldAt j.body 0 4))
                ∧ (j.msgType = 4 → fieldAt j.body 4 1 = 3 → (t.source (.session i)).transfer = none)
                ∧ (∀ tr, j.msgType = 5 → (s.source (.session i)).transfer = some tr → fieldAt j.body 0 4 = tr.target →
                    (tr.download = true → fieldAt j.body 10 1 = 0 → fieldAt j.body 4 4 = tr.offset → tr.takes (j.body.length - 12) = true →
                      (tr.data ++ j.body.drop 12).length < tr.length →
                      (t.source (.session i)).transfer = some { tr with
                        offset := (tr.data ++ j.body.drop 12).length, data := tr.data ++ j.body.drop 12, lastTime := s.now })
                    ∧ (tr.download = false → fieldAt j.body 10 1 = 1 → fieldAt j.body 4 4 + fieldAt j.body 8 2 ≤ tr.length →
                      answered s t i.val p 5 (segDataBody tr.target (fieldAt j.body 4 4)
                        (bytesAt tr.data (fieldAt j.body 4 4) (fieldAt j.body 8 2)))))
                ∧ (j.msgType = 5 → (s.source (.session i)).transfer = none →
                    ∃ x, x.result = 0x0D ∧ answered s t i.val p 3 (respBody j.seq 5 (s.session i.val).refused [x]))))))
  ∧ (∀ (n : Fin 16) (s : State),
    (s.sessionSilent n.val = true → ∃ t, exec (.sessionTimeout n) s = .next t ∧ sessionClosed s t n.val
      ∧ t = { s with dict := t.dict, net := t.net })
    ∧ (s.sessionSilent n.val = false → exec (.sessionTimeout n) s = .next s))
  ∧ (∀ (src : Source) (v : Slot) (s : State), s.admits src Key.sessionClose v →
    let i := (writeValue src Key.sessionClose (naturalSize src Key.sessionClose) v).toNat
    let other := ∃ n, src = .session n ∧ n.val ≠ i
    ∃ t, exec (.sessionClose src v) s = .next t
      ∧ (¬ other → (s.session i).peer.isSome = true → sessionClosed s t i)
      ∧ (¬ other → (s.session i).peer = none → t.net = s.net ∧ t.dict.owners = s.dict.owners)
      ∧ (other → (∃ n, src = .session n ∧ (t.session n.val).refused = (s.session n.val).refused + 1)
          ∧ t.dict.owners = s.dict.owners ∧ (t.session i).peer = (s.session i).peer)
      ∧ t = { s with freeCount := t.freeCount, dict := t.dict, net := t.net })

/-- A datagram of a node that the checks take: its node and its parts. -/
def nodeSent (s : State) (peer : Peer) (d : List Byte) (msg : Nat) (j : Jfp) : Prop :=
  let k := j.node
  parseJfp d = some j ∧ j.msgType = msg ∧ j.session = 0xFE ∧ k < 1024 ∧ s.num (Key.nodeState k) ≠ 0
  ∧ peer.ip = s.num (Key.nodeIp k) ∧ peer.udp = s.num (Key.nodeUdpPort k) ∧ peer.port.val = s.num (Key.nodePort k)
  ∧ s.authOk j (s.num (Key.nodeKeySlot k)) = true ∧ (j.auth = false → s.num (Key.nodeKeySlot k) = 0xFF)
  ∧ ∀ l, (s.node k).lastSeq = some l → 0 < seqDiff j.seq l

/-- A node that missed its answers too often is lost. -/
def missedOut (s t : State) (k : Nat) : Prop :=
  (s.num (Key.nodeState k) = 2 → s.num Key.nodeMissMax ≤ (s.node k).missed →
    t.num (Key.nodeState k) = 3 ∧ warned s t 0x0050 k 1 0 ∧ tblGet t.harbour.req 0 77 = tblGet s.harbour.req 0 77 + 1)
  ∧ (s.num (Key.nodeState k) ≠ 2 ∨ (s.node k).missed < s.num Key.nodeMissMax → t.val (Key.nodeState k) = s.val (Key.nodeState k))
  ∧ (t.node k).missed = (s.node k).missed + 1 ∧ (t.node k).lastOut = s.wNow

/-- What node traffic may change. -/
def nodeFrame (s t : State) : Prop :=
  t = { s with
      freeCount := t.freeCount, dict := t.dict, logs := t.logs, net := t.net, harbour := t.harbour, sent := t.sent }

/-- 11 R334–R341, R348: the nodes. -/
def Obligations.NodesAreServed : Prop :=
  (∀ (node : Fin 1024) (s : State), let k := node.val
    let period := 1000 * s.num (Key.nodeCyclicPeriod k)
    let launch := s.wNow / period * period
    let due := period ≠ 0 ∧ s.num (Key.nodeState k) ≠ 0 ∧ (s.node k).lastOut < launch
    (due → ∃ t, exec (.cyclicOut node) s = .next t ∧ missedOut s t k ∧ nodeFrame s t
      ∧ (t.node k).cycCount = ((s.node k).cycCount + 1) % 2 ^ 32
      ∧ (s.flag (Key.fldLinkUp (s.num (Key.nodePort k))) = true → ∃ pre x, t.sent = pre ++ [x] ∧ x.time = s.now
          ∧ x.data = jfpDatagram 0x10 0xFE (s.node k).outSeq k
              (leBytes 4 (s.node k).cycCount ++ zeros 4 ++ leBytes 8 launch ++ s.blob (Key.nodeCyclicOut k)) (s.nodeKey k)))
    ∧ (¬ due → exec (.cyclicOut node) s = .next s))
  ∧ (∀ (node : Fin 1024) (s : State), let k := node.val
    let due := s.num (Key.nodeCyclicPeriod k) = 0 ∧ s.num (Key.nodeState k) ≠ 0
      ∧ (s.node k).lastOut + 1000000 * s.num Key.nodeProbePeriod ≤ s.wNow
    (due → ∃ t, exec (.nodeProbe node) s = .next t ∧ missedOut s t k ∧ nodeFrame s t
      ∧ (t.node k).waiting = (s.node k).waiting
          ++ [⟨(s.node k).nextCmd, 0, 0, s.wNow + 1000 * s.num (Key.nodeAckTimeout k), 0⟩])
    ∧ (¬ due → exec (.nodeProbe node) s = .next s))
  ∧ (∀ (peer : Peer) (d : List Byte) (s : State),
    (parseJfp d = none → ∃ t, exec (.cyclicIn peer d) s = .next t ∧ exec (.nodeAck peer d) s = .next t
      ∧ exec (.eventNotify peer d) s = .next t ∧ counted s t Key.jfpRxDiscards ∧ t = { s with
          freeCount := t.freeCount, dict := t.dict })
    ∧ (∀ j, nodeSent s peer d 0x11 j → 16 ≤ j.body.length → j.body.length ≤ 80 →
      ∃ t, exec (.cyclicIn peer d) s = .next t ∧ t.blob (Key.nodeCyclicIn j.node) = j.body.drop 16 ∧ (t.node j.node).missed = 0
        ∧ (t.node j.node).lastSeq = some j.seq
        ∧ (s.num (Key.nodeState j.node) ∈ [1, 3] → t.num (Key.nodeState j.node) = 2)
        ∧ (s.num (Key.nodeState j.node) = 3 → warned s t 0x0051 j.node 0 0) ∧ nodeFrame s t)
    ∧ (∀ j, nodeSent s peer d 0x21 j → j.body.length = 16 →
      ∃ t, exec (.nodeAck peer d) s = .next t ∧ (t.node j.node).lastSeq = some j.seq ∧ nodeFrame s t
        ∧ (fieldAt j.body 5 1 = 0 →
            (t.node j.node).waiting = (s.node j.node).waiting.filter (fun c =>
              !(c.id = fieldAt j.body 0 4 && c.rev = fieldAt j.body 4 1 && s.wNow ≤ c.deadline))
            ∧ (s.num (Key.nodeState j.node) ∈ [1, 3] → t.num (Key.nodeState j.node) = 2))
        ∧ (fieldAt j.body 5 1 ≠ 0 → (t.node j.node).waiting = (s.node j.node).waiting))
    ∧ (∀ j, nodeSent s peer d 0x30 j → 16 ≤ j.body.length → 0x0100 ≤ fieldAt j.body 0 2 →
      ∃ t, exec (.eventNotify peer d) s = .next t ∧ t.val (Key.nodeLastEvent j.node) = BitVec.ofNat 64 (fieldAt j.body 16 8)
        ∧ (t.node j.node).lastSeq = some j.seq ∧ t = { s with dict := t.dict, net := t.net }))
  ∧ (∀ (node : Fin 1024) (id : BitVec 32) (s : State), let k := node.val
    let late := (s.node k).waiting.find? fun c => c.id = id.toNat && c.deadline ≤ s.wNow
    (late = none → exec (.nodeAckDeadline node id) s = .next s)
    ∧ ∀ c, late = some c → ∃ t, exec (.nodeAckDeadline node id) s = .next t ∧ counted s t (Key.nodeAckFail k)
      ∧ (t.node k).waiting = (s.node k).waiting.filter (fun o => o ≠ c)
      ∧ (c.code = 0x0010 → counted s t Key.carrierFailCount ∧ ∀ g ∈ t.atoll.grids, g.piece = c.piece → g.carrierBad = true)
      ∧ (c.code ≠ 0x0010 → t.atoll = s.atoll)
      ∧ t = { s with freeCount := t.freeCount, dict := t.dict, atoll := t.atoll, net := t.net })
  ∧ (∀ (src : Source) (node : Fin 1024) (data : List Byte) (s : State), let k := node.val
    s.life.dictServed = true → s.blockFails src (Key.nodeCmdWrite k) data = [] →
    let code := fieldAt data 0 2
    let act := fieldAt data 8 8
    let allowed := codeAllowed (s.lastNum (Key.nodeClass k)) code = true
    ∃ t, exec (.nodeCmdWrite src node data) s = .next t
      ∧ (allowed → fieldAt data 2 6 = 0 → (act = 0 ∨ s.wNow < act) →
          (t.node k).nextCmd = ((s.node k).nextCmd + 1) % 2 ^ 32
          ∧ (t.node k).waiting = (s.node k).waiting ++ [⟨(s.node k).nextCmd, 0, code,
              if act = 0 then s.wNow + 1000 * s.num (Key.nodeAckTimeout k) else act, 0⟩]
          ∧ (act ≠ 0 → act - s.num (Key.nodeLeadTime k) < s.wNow → counted s t (Key.nodeCmdLate k)))
      ∧ (allowed → (fieldAt data 2 6 ≠ 0 ∨ (act ≠ 0 ∧ act ≤ s.wNow)) →
          hostTold t src (Key.nodeCmdWrite k) 4 ∧ t.net.nodes = s.net.nodes ∧ t.sent = s.sent)
      ∧ (¬ allowed → fieldAt data 2 6 = 0 → (act = 0 ∨ s.wNow < act) →
          hostTold t src (Key.nodeCmdWrite k) 0x0A ∧ t.net.nodes = s.net.nodes ∧ t.sent = s.sent)
      ∧ t = { s with freeCount := t.freeCount, dict := t.dict, net := t.net, sent := t.sent })

/-- 11 R338, R342–R344, R347: marks and keys. -/
def Obligations.MarksAndKeys : Prop :=
  (∀ s : State,
    ∃ t, exec .markRepredict s = .next t ∧ t = { s with
        freeCount := t.freeCount, dict := t.dict, net := t.net, sent := t.sent }
      ∧ (1 ∈ s.power.restarting ∨ s.net.marks = [] → t = s)
      ∧ ∀ m, 1 ∉ s.power.restarting → s.net.marks = [m] →
          (m.committed = true → t = s)
          ∧ (m.committed = false → s.markDue m = true → t.net.marks = [{ m with committed := true }] ∧ t.sent = s.sent)
          ∧ (m.committed = false → s.markDue m = false →
              (s.predict m.aim = none → t.net.marks = [{ m with
                  queued := false, heldSince := some (m.heldSince.getD s.wNow) }])
              ∧ (∀ a, s.predict m.aim = some a → a ≤ s.wNow → t.net.marks = [] ∧ counted s t Key.markDropped)
              ∧ (∀ a, s.predict m.aim = some a → (s.wNow : Int) < a → m.act = 0 → s.wNow ≤ a.toNat - s.num (Key.nodeLeadTime m.node) →
                  ∃ m', t.net.marks = [m'] ∧ m'.act = a.toNat ∧ m'.launch = a.toNat - s.num (Key.nodeLeadTime m.node) ∧ m'.queued = true
                    ∧ m'.rev = 0 ∧ m'.heldSince = none ∧ m'.id = m.id ∧ m'.node = m.node)))
  ∧ (∀ (node : Fin 1024) (id : BitVec 32) (s : State), let k := node.val
    (s.mark? k id.toNat = none → exec (.markCommit node id) s = .next s ∧ exec (.markHoldTimeout node id) s = .next s)
    ∧ ∀ m, s.mark? k id.toNat = some m →
      (s.markDue m = true → exec (.markCommit node id) s = .next { s with net := { s.net with
          marks := s.net.marks.map fun o => if o.node = m.node ∧ o.id = m.id then { m with committed := true } else o } })
      ∧ (s.markDue m = false → exec (.markCommit node id) s = .next s)
      ∧ (let late := ∃ f, m.heldSince = some f ∧ f + 1000000 * s.num Key.markHoldMax < s.wNow
         (late → ∃ t, exec (.markHoldTimeout node id) s = .next t ∧ counted s t Key.markDropped ∧ warned s t 0x0052 k 1 m.recSeq
            ∧ t.net.marks = s.net.marks.filter (fun o => !(o.node = m.node && o.id = m.id))
            ∧ t = { s with
                freeCount := t.freeCount, dict := t.dict, logs := t.logs, net := t.net, harbour := t.harbour,
                sent := t.sent })
         ∧ (¬ late → exec (.markHoldTimeout node id) s = .next s)))
  ∧ (∀ (src : Source) (data : List Byte) (s : State), s.life.dictServed = true → s.blockFails src Key.keyLoad data = [] →
    let slot := fieldAt data 0 1
    let ok := slot < 32 ∧ fieldAt data 1 3 = 0
    ∃ t, exec (.keyLoad src data) s = .next t
      ∧ (ok → t.keySlot slot = { ip := fieldAt data 4 4, key := bytesAt data 8 32 } ∧ ∀ m, m ≠ slot → t.keySlot m = s.keySlot m)
      ∧ (¬ ok → hostTold t src Key.keyLoad 4 ∧ t.net.keys = s.net.keys)
      ∧ t = { s with freeCount := t.freeCount, dict := t.dict, net := t.net })
  ∧ (∀ (src : Source) (v : Slot) (s : State), s.admits src Key.keyErase v →
    let w := (writeValue src Key.keyErase (naturalSize src Key.keyErase) v).toNat
    ∃ t, exec (.keyErase src v) s = .next t ∧ t.keySlot w = {} ∧ (∀ m, m ≠ w → t.keySlot m = s.keySlot m)
      ∧ s.accepted t src Key.keyErase (BitVec.ofNat 64 w) ∧ t = { s with dict := t.dict, net := t.net })

/-- The status of a descriptor of channel ch, 16 bytes (12 R374). -/
def statusOf (s : State) (ch : Nat) (d : Desc) (status residue mismatch : Nat) (halted irq : Bool) : List Byte :=
  leBytes 4 d.tag ++ leBytes 4 residue ++ leBytes 4 mismatch ++ leBytes 1 status ++ leBytes 1 (bit halted + 2 * bit irq)
    ++ leBytes 2 (s.num (Key.ferryChainCount ch))

/-- Bytes have gone to an address of either space, and nowhere else (09 R270). -/
def bytesGo (s t : State) (a : Nat) (b : List Byte) : Prop :=
  if b = [] then t.sent = s.sent ∧ t.g6 = s.g6
  else if busAddr a then t.sent = s.sent ++ [⟨.hostWrite (a % 2 ^ 63), s.now, b⟩] ∧ t.g6 = s.g6
  else t.sent = s.sent ∧ memRead t.g6.mem a b.length = b
    ∧ ∀ x, x < a ∨ a + b.length ≤ x → memByte t.g6.mem x = memByte s.g6.mem x

/-- The descriptor's status is written where it asks for one, or the channel halts; not at address 0 (12 R374). -/
def statusLeft (s t : State) (ch : Nat) (d : Desc) (status residue mismatch : Nat) (halted irq : Bool) : Prop :=
  if (d.statusWb = true ∨ halted = true) ∧ d.status ≠ 0 then
    bytesGo s t d.status (statusOf s ch d status residue mismatch halted irq)
  else t.sent = s.sent ∧ t.g6 = s.g6

/-- Channel ch has halted: its result is held, and its descriptor and bursts are gone. -/
def ferryHalted (s t : State) (ch status residue : Nat) (irq : Bool) : Prop :=
  t.ferryState ch = 5 ∧ t.num (Key.ferryLastStatus ch) = status ∧ t.num (Key.ferryResidue ch) = residue % 2 ^ 64
  ∧ (t.ferryChan ch).desc = none ∧ (t.ferryChan ch).bursts = [] ∧ (t.ferryChan ch).aborting = false
  ∧ tblGet t.harbour.req 0 (ch + 1) = tblGet s.harbour.req 0 (ch + 1) + bit irq

/-- The other channels are as before. -/
def otherChannels (s t : State) (ch : Nat) : Prop := ∀ m, m ≠ ch → t.ferryChan m = s.ferryChan m

/-- Whether the source may command the channel (12 R369). -/
def mayCommand (s : State) (src : Source) (ch : Nat) : Prop := src = .processor ∨ (ch < 30 ∧ s.streamUse ch = false)

/-- 12 R369, R373–R382; 14 R422: starts, fetches, aborts and grants. -/
def Obligations.FerryStartsFetchesAborts : Prop :=
  (∀ (src : Source) (c : Fin 32) (s : State), s.admits src (Key.ferryCommand c.val) 1 → let ch := c.val
    (mayCommand s src ch → (s.ferryState ch = 0 ∨ 5 ≤ s.ferryState ch) →
      ∃ t, exec (.ferryStart src c) s = .next t ∧ t.ferryState ch = 1 ∧ t.num (Key.ferryChainCount ch) = 1
        ∧ (t.ferryChan ch).fetch = s.num (Key.ferryDescAddr ch) ∧ (t.ferryChan ch).desc = none
        ∧ otherChannels s t ch ∧ s.accepted t src (Key.ferryCommand ch) 1
        ∧ t = { s with freeCount := t.freeCount, dict := t.dict, net := t.net, ferry := t.ferry })
    ∧ (mayCommand s src ch → 1 ≤ s.ferryState ch → s.ferryState ch ≤ 4 →
      ∃ t, exec (.ferryStart src c) s = .next t ∧ hostTold t src (Key.ferryCommand ch) 8 ∧ t.ferryState ch = s.ferryState ch
        ∧ t = { s with freeCount := t.freeCount, dict := t.dict, net := t.net })
    ∧ (¬ mayCommand s src ch → (s.ferryState ch = 0 ∨ 5 ≤ s.ferryState ch) →
      ∃ t, exec (.ferryStart src c) s = .next t ∧ hostTold t src (Key.ferryCommand ch) 10 ∧ t.ferryState ch = s.ferryState ch
        ∧ t = { s with freeCount := t.freeCount, dict := t.dict, net := t.net }))
  ∧ (∀ (i : Instr) (src : Source) (c : Fin 32) (s : State), (i = .ferryAbort src c ∨ (i = .hbFerryDbAbort c ∧ src = .host)) →
    s.admits src (Key.ferryCommand c.val) 2 → mayCommand s src c.val → let ch := c.val
    let x := s.ferryChan ch
    let works := s.ferryState ch ∈ [2, 3, 4]
    ∃ t, exec i s = .next t ∧ s.accepted t src (Key.ferryCommand ch) 2 ∧ otherChannels s t ch
      ∧ (∀ d, works → x.desc = some d → x.bursts = [] → (x.done ≠ d.length ∨ d.chain = true) →
          ferryHalted s t ch 2 (d.length - x.done) true
          ∧ statusLeft s t ch d 2 (d.length - x.done) (if d.op = 3 then x.mismatch.getD 0xFFFFFFFF else 0) true true)
      ∧ (∀ d, works → x.desc = some d → x.bursts = [] → x.done = d.length → d.chain = false →
          t.ferryState ch = 0 ∧ t.num (Key.ferryLastStatus ch) = 0 ∧ t.num (Key.ferryResidue ch) = 0
          ∧ statusLeft s t ch d 0 0 (if d.op = 3 then x.mismatch.getD 0xFFFFFFFF else 0) false d.irq)
      ∧ (works → x.bursts ≠ [] → t.ferryState ch = s.ferryState ch ∧ t.ferryChan ch = { x with aborting := true }
          ∧ t.sent = s.sent ∧ t.g6 = s.g6)
      ∧ (¬ works → t.ferryState ch = s.ferryState ch ∧ t.ferry = s.ferry ∧ t.sent = s.sent ∧ t.g6 = s.g6)
      ∧ t = { s with
          freeCount := t.freeCount, dict := t.dict, net := t.net, ferry := t.ferry, g6 := t.g6, harbour := t.harbour,
          sent := t.sent })
  ∧ (∀ (c : Fin 32) (addr : Slot) (s : State), let ch := c.val
    let a := addr.toNat / 64 * 64
    s.admits .host (Key.ferryDescAddr ch) (BitVec.ofNat 64 a) → s.admits .host (Key.ferryCommand ch) 1 → mayCommand s .host ch →
      (s.ferryState ch = 0 ∨ 5 ≤ s.ferryState ch) →
      ∃ t, exec (.hbFerryDbStart c addr) s = .next t ∧ t.num (Key.ferryDescAddr ch) = a ∧ t.ferryState ch = 1
        ∧ t.num (Key.ferryChainCount ch) = 1 ∧ (t.ferryChan ch).fetch = a ∧ otherChannels s t ch
        ∧ (s.life.logsOn = true → t.dict.nextSeq = s.dict.nextSeq + 2)
        ∧ t = { s with freeCount := t.freeCount, dict := t.dict, net := t.net, ferry := t.ferry })
  ∧ (∀ (c : Fin 32) (host : List Byte) (failed : Bool) (s : State), let ch := c.val
    let x := s.ferryChan ch
    let b := if busAddr x.fetch then host ++ zeros (64 - host.length) else s.load x.fetch 64
    let d := parseDesc b
    let readable := busAddr x.fetch = true ∨ (s.addrOk x.fetch 64 = true ∧ s.rangeBad x.fetch 64 = false)
    (s.ferryState ch = 1 → failed = false → readable → s.descOk ch b = true →
      ∃ t, exec (.ferryFetchComplete c host failed) s = .next t ∧ t.ferryState ch = 2
        ∧ t.ferryChan ch = { x with desc := some d } ∧ otherChannels s t ch
        ∧ d.length ≠ 0 ∧ 1 ≤ d.op ∧ d.op ≤ 4 ∧ d.reqMode ≤ 2
        ∧ (busAddr d.dst = false → d.dst + d.length ≤ s.num Key.g6LocalTop + 1
            ∧ (ch < 30 → d.op ≠ 3 → d.dst + d.length ≤ s.systemBase ∨ s.num Key.g6LocalTop < d.dst))
        ∧ (d.op = 4 → 0 < d.group ∧ d.length % d.group = 0)
        ∧ t = { s with dict := t.dict, ferry := t.ferry })
    ∧ (s.ferryState ch = 1 → failed = false → readable → s.descOk ch b = false →
      ∃ t, exec (.ferryFetchComplete c host failed) s = .next t ∧ ferryHalted s t ch 5 d.length d.irq ∧ otherChannels s t ch
        ∧ t = { s with dict := t.dict, ferry := t.ferry, g6 := t.g6, harbour := t.harbour, sent := t.sent })
    ∧ (s.ferryState ch = 1 → (failed = true ∨ ¬ readable) →
      ∃ t, exec (.ferryFetchComplete c host failed) s = .next t ∧ t.ferryState ch = 5 ∧ (t.ferryChan ch).desc = none
        ∧ t.num (Key.ferryLastStatus ch) = (if failed = false ∧ s.addrOk x.fetch 64 = true then 6 else 4)
        ∧ tblGet t.harbour.req 0 (ch + 1) = tblGet s.harbour.req 0 (ch + 1) + 1 ∧ otherChannels s t ch
        ∧ t = { s with dict := t.dict, ferry := t.ferry, harbour := t.harbour })
    ∧ (s.ferryState ch ≠ 1 → ∃ t, exec (.ferryFetchComplete c host failed) s = .next t
        ∧ (host = [] → t = s) ∧ (host ≠ [] → counted s t Key.ferryCplTimeoutCount)
        ∧ t = { s with freeCount := t.freeCount, dict := t.dict }))
  ∧ (∀ (c : Fin 32) (s : State), let ch := c.val
    let x := s.ferryChan ch
    (s.wire (0x100 + ch) = [] → exec (.ferryGrant c) s = .next s)
    ∧ (∀ e es, s.wire (0x100 + ch) = e :: es → ∃ t, exec (.ferryGrant c) s = .next t
      ∧ t.wire (0x100 + ch) = (e :: es).filter (fun w => w.1 / 2 ≠ e.1 / 2)
      ∧ (x.grants < 255 → t.ferryChan ch = { x with grants := x.grants + 1 }
          ∧ (∀ d, x.desc = some d → d.reqMode = 1 → x.issued < d.length → s.ferryState ch = 3 → t.ferryState ch = 2))
      ∧ (255 ≤ x.grants → t.ferry = s.ferry ∧ counted s t (Key.ferryGrantOverflow ch))
      ∧ otherChannels s t ch
      ∧ t = { s with freeCount := t.freeCount, dict := t.dict, motion := t.motion, ferry := t.ferry }))

/-- 12 R370–R382: bursts and the ends of descriptors. -/
def Obligations.FerryMovesBurstsAndEnds : Prop :=
  (∀ s : State, let p := s.forN 32 State.pace
    (64 ≤ p.ferryFlying ∨ p.ferryPick = none → exec .ferryBurstIssue s = .next p)
    ∧ p.ferry = s.ferry ∧ p = { s with dict := p.dict }
    ∧ ∀ ch, p.ferryFlying < 64 → p.ferryPick = some ch →
      ∃ t d n, exec .ferryBurstIssue s = .next t ∧ let x := s.ferryChan ch
        x.desc = some d ∧ p.ferryState ch = 2
        ∧ (∀ m, m < 32 → p.ferryReady m = true → p.num (Key.ferryPriority m) ≤ p.num (Key.ferryPriority ch))
        ∧ 0 < n ∧ n ≤ 4096 ∧ x.issued + n ≤ d.length ∧ (d.dst + x.issued) % 4096 + n ≤ 4096
        ∧ (d.op ≠ 2 → (d.src + x.issued) % 4096 + n ≤ 4096) ∧ s.ferryHeld + n ≤ 524288
        ∧ x.bursts.length < s.num (Key.ferryMaxBursts ch)
        ∧ t.ferryChan ch = { x with
            issued := x.issued + n, bursts := x.bursts ++ [⟨x.issued, n⟩],
            grants := if d.reqMode = 1 then x.grants - 1 else x.grants }
        ∧ t.ferry.turn = ch ∧ otherChannels s t ch
        ∧ t = { s with dict := t.dict, ferry := t.ferry })
  ∧ (∀ (c : Fin 32) (srcHost dstHost : List Byte) (s : State), let ch := c.val
    let x := s.ferryChan ch
    ((x.desc = none ∨ x.bursts = []) → ∃ t, exec (.ferryBurstComplete c srcHost dstHost) s = .next t
      ∧ (srcHost = [] → dstHost = [] → t = s) ∧ (srcHost ≠ [] ∨ dstHost ≠ [] → counted s t Key.ferryCplTimeoutCount)
      ∧ t = { s with freeCount := t.freeCount, dict := t.dict })
    ∧ (∀ d b bs, x.desc = some d → x.bursts = b :: bs →
      ∃ t, exec (.ferryBurstComplete c srcHost dstHost) s = .next t ∧ otherChannels s t ch
        ∧ (s.burstBad d b = true → ferryHalted s t ch 6 (d.length - b.offset) true
            ∧ statusLeft s t ch d 6 (d.length - b.offset) (if d.op = 3 then x.mismatch.getD 0xFFFFFFFF else 0) true true)
        ∧ (let goes := x.aborting = false ∨ bs ≠ []
           let data := if d.op = 2 then fillBytes d.fill b.offset b.length
             else s.burstRead (d.src + b.offset) b.length srcHost
           let diff := indexOf? (fun (q : Byte × Byte) => q.1 ≠ q.2) (data.zip (s.burstRead (d.dst + b.offset) b.length dstHost))
           let all := x.rsData ++ data
           let whole := all.length / d.group * d.group
           s.burstBad d b = false →
             (s.num (Key.ferryBytes ch) + b.length < 2 ^ 64 →
               t.num (Key.ferryBytes ch) = s.num (Key.ferryBytes ch) + b.length)
             ∧ (d.op < 3 → x.mismatch = none → goes → bytesGo s t (d.dst + b.offset) data
                 ∧ t.ferryChan ch = { x with bursts := bs, done := x.done + b.length })
             ∧ (d.op = 3 → diff = none → goes → t.g6 = s.g6 ∧ t.sent = s.sent
                 ∧ t.ferryChan ch = { x with bursts := bs, done := x.done + b.length, mismatch := none })
             ∧ (∀ j, d.op = 3 → diff = some j → ferryHalted s t ch 1 (d.length - (x.done + b.length)) d.irq
                 ∧ statusLeft s t ch d 1 (d.length - (x.done + b.length)) (j + b.offset) true d.irq)
             ∧ (d.op = 4 → x.mismatch = none → goes →
                 bytesGo s t (d.dst + x.done) ((chunks d.group (all.take whole)).flatMap d.reshuffle)
                 ∧ t.ferryChan ch = { x with bursts := bs, done := x.done + whole, rsData := all.drop whole })
             ∧ (d.op < 3 → x.mismatch = none → ¬ goes → ferryHalted s t ch 2 (d.length - (x.done + b.length)) true))
        ∧ t = { s with
            freeCount := t.freeCount, dict := t.dict, ferry := t.ferry, g6 := t.g6, harbour := t.harbour,
            sent := t.sent }))
  ∧ (∀ (c : Fin 32) (s : State), let ch := c.val
    let x := s.ferryChan ch
    let n := s.num (Key.ferryChainCount ch)
    ((x.complete = false ∨ (s.ferryState ch ≠ 2 ∧ s.ferryState ch ≠ 3)) → exec (.ferryDescriptorEnd c) s = .next s)
    ∧ (∀ d, x.desc = some d → x.done = d.length → x.bursts = [] → (s.ferryState ch = 2 ∨ s.ferryState ch = 3) →
      ∃ t, exec (.ferryDescriptorEnd c) s = .next t ∧ otherChannels s t ch
        ∧ (let mm := if d.op = 3 then x.mismatch.getD 0xFFFFFFFF else 0
           (d.chain = true → s.num Key.ferryChainLimit ≤ n →
             ferryHalted s t ch 3 0 true ∧ statusLeft s t ch d 3 0 mm true true
             ∧ t.num (Key.ferryNextAddr ch) = d.next % 2 ^ 64)
           ∧ (d.chain = true → n < s.num Key.ferryChainLimit → t.ferryState ch = 1 ∧ (t.ferryChan ch).fetch = d.next
             ∧ t.num (Key.ferryChainCount ch) = n + 1)
           ∧ (d.chain = false → t.ferryState ch = 0)
           ∧ ((d.chain = false ∨ n < s.num Key.ferryChainLimit) → t.num (Key.ferryLastStatus ch) = 0
             ∧ t.num (Key.ferryResidue ch) = 0 ∧ (t.ferryChan ch).desc = none ∧ statusLeft s t ch d 0 0 mm false d.irq
             ∧ tblGet t.harbour.req 0 (ch + 1) = tblGet s.harbour.req 0 (ch + 1) + bit d.irq))
        ∧ t = { s with dict := t.dict, ferry := t.ferry, g6 := t.g6, harbour := t.harbour, sent := t.sent }))
  ∧ (∀ (c : Fin 32) (s : State), let ch := c.val
    let x := s.ferryChan ch
    (s.ferryReadsHost ch = false → exec (.ferryCompletionTimeout c) s = .next s)
    ∧ (s.ferryState ch = 1 → busAddr x.fetch = true → ∃ t, exec (.ferryCompletionTimeout c) s = .next t
      ∧ t.ferryState ch = 5 ∧ t.num (Key.ferryLastStatus ch) = 4 ∧ (t.ferryChan ch).desc = none ∧ otherChannels s t ch
      ∧ t = { s with dict := t.dict, ferry := t.ferry, harbour := t.harbour })
    ∧ (∀ d b bs, s.ferryState ch ≠ 1 → x.desc = some d → x.bursts = b :: bs →
        ((d.op ≠ 2 ∧ busAddr d.src = true) ∨ (d.op = 3 ∧ busAddr d.dst = true)) →
        ∃ t, exec (.ferryCompletionTimeout c) s = .next t ∧ ferryHalted s t ch 4 (d.length - b.offset) true
          ∧ statusLeft s t ch d 4 (d.length - b.offset) (if d.op = 3 then x.mismatch.getD 0xFFFFFFFF else 0) true true
          ∧ otherChannels s t ch
          ∧ t = { s with dict := t.dict, ferry := t.ferry, g6 := t.g6, harbour := t.harbour, sent := t.sent }))

/-- Bank b is in work, or waits for the sensors to cool, with the banks that follow (15 R450, R451). -/
def bankStarts (s t : State) (b : Nat) (rest : List Nat) : Prop :=
  t.num Key.calState = 1
  ∧ ((b = 4 ∨ b = 5) → s.allBelow 95 = false → t.maint.bank = none ∧ t.maint.banks = b :: rest ∧ t.num Key.calActive = 0)
  ∧ ((b ≠ 4 ∧ b ≠ 5) ∨ s.allBelow 95 = true → b < 7 → t.maint.bank = some b ∧ t.maint.banks = rest ∧ t.num Key.calActive = 2 ^ b
      ∧ (b < 4 → ∀ i, i < 8 → t.num (Key.trgStale (8 * b + i)) = 1)
      ∧ (b = 4 ∨ b = 5 → ∀ i, i < 8 → bitAt (t.num Key.thermStaleMask) (8 * (b - 4) + i) = true)
      ∧ (b = 6 → t.flag Key.energyStale = true ∧ t.power.staleTick = true))

/-- 15 R449–R451: calibration. -/
def Obligations.CalibrationRunsInBanks : Prop :=
  (∀ (src : Source) (v : Slot) (ppb : Int) (vref : Bool) (s : State), s.admits src Key.calRequest v →
    (s.num Key.calState ≠ 1 →
      ∃ t, exec (.calRequest src v ppb vref) s = .next t
        ∧ (-2 ^ 31 ≤ ppb → ppb < 2 ^ 31 → t.int Key.calRefclkPpb = ppb)
        ∧ (100000 < ppb.natAbs → t.num Key.calResult = 1 ∧ t.maint = s.maint ∧ t.num Key.calState = s.num Key.calState
            ∧ warned s t 0x0081 0xFFFF 1 1)
        ∧ (ppb.natAbs ≤ 100000 → vref = false → t.num Key.calResult = 2 ∧ t.maint = s.maint
            ∧ t.num Key.calState = s.num Key.calState ∧ warned s t 0x0081 0xFFFF 1 2)
        ∧ (ppb.natAbs ≤ 100000 → vref = true → t.num Key.calResult = 0 ∧ s.accepted t src Key.calRequest
              (writeValue src Key.calRequest (naturalSize src Key.calRequest) v)
            ∧ let w := (writeValue src Key.calRequest (naturalSize src Key.calRequest) v).toNat
              ((List.range 7).filter (bitAt w) = [] → t.num Key.calState = 0 ∧ t.num Key.calActive = 0
                ∧ t.num Key.calLastTime = s.wNow % 2 ^ 64)
              ∧ ∀ b rest, (List.range 7).filter (bitAt w) = b :: rest → bankStarts s t b rest)
        ∧ t = { s with
            freeCount := t.freeCount, dict := t.dict, logs := t.logs, net := t.net, harbour := t.harbour,
            power := t.power, maint := t.maint, sent := t.sent })
    ∧ (s.num Key.calState = 1 → ∃ t, exec (.calRequest src v ppb vref) s = .next t ∧ hostTold t src Key.calRequest 8
        ∧ t.num Key.calResult = s.num Key.calResult
        ∧ t = { s with freeCount := t.freeCount, dict := t.dict, net := t.net }))
  ∧ (∀ (trims : List (Option Nat)) (s : State),
    (s.maint.bank = none → exec (.calBankComplete trims) s = .next s)
    ∧ ∀ b, s.maint.bank = some b → b < 7 → b ∉ s.maint.banks →
      ∃ t, exec (.calBankComplete trims) s = .next t
        ∧ ((∀ i, i < bankUnits b → (trims.getD i none).isSome = true) → t.num Key.calResult = s.num Key.calResult
            ∧ warned s t 0x0080 b 0 0)
        ∧ ((∃ i, i < bankUnits b ∧ trims.getD i none = none) → t.num Key.calResult = 3 ∧ warned s t 0x0081 b 1 3)
        ∧ (∀ i, b < 4 → i < 8 → let o := 8 * b + i
            (∀ x, trims.getD i none = some x → tblGet t.mram.trims.fine 0 o = x % 256 ∧ (t.trg o).newTrim = some (x % 256)
              ∧ t.num (Key.trgStale o) = 1)
            ∧ (trims.getD i none = none → tblGet t.mram.trims.fine 0 o = tblGet s.mram.trims.fine 0 o ∧ t.trg o = s.trg o))
        ∧ (∀ i, b = 4 ∨ b = 5 → i < 8 → let n := 8 * (b - 4) + i
            (∀ x, trims.getD i none = some x → tblGet t.mram.trims.sensors 0 n = x % 2 ^ 16
              ∧ t.num (Key.trimSensor n) = x % 2 ^ 16)
            ∧ (trims.getD i none = none → t.num (Key.trimSensor n) = s.num (Key.trimSensor n))
            ∧ bitAt (t.num Key.thermStaleMask) n = false)
        ∧ (∀ i x, b = 6 → i < 4 → trims.getD i none = some x → tblGet t.mram.trims.monitors 0 i = x % 2 ^ 16
            ∧ t.num (Key.trimMonitor i) = x % 2 ^ 16)
        ∧ (s.maint.banks = [] → t.maint.bank = none ∧ t.num Key.calState = 0 ∧ t.num Key.calActive = 0
            ∧ t.num Key.calLastTime = s.wNow % 2 ^ 64 ∧ (b = 6 → t.flag Key.energyStale = false))
        ∧ (∀ b' rest, s.num Key.calState = 1 → s.maint.banks = b' :: rest → bankStarts s t b' rest)
        ∧ t = { s with freeCount := t.freeCount, mram := { s.mram with trims := t.mram.trims }, dict := t.dict, logs := t.logs,
                       motion := t.motion, net := t.net, harbour := t.harbour, power := t.power, maint := t.maint, sent := t.sent })
  ∧ (∀ (o : Fin 32) (s : State), let x := s.trg o.val
    let busy : Prop := x.current.isSome = true ∨ ∃ p ∈ x.queue, p.start < s.now + 100
    (x.newTrim = none ∨ busy → exec (.trimApply o) s = .next s)
    ∧ ∀ v, x.newTrim = some v → ¬ busy → ∃ t, exec (.trimApply o) s = .next t
      ∧ t.num (Key.trimFineDelay o.val) = v % 2 ^ 64 ∧ t.num (Key.trgStale o.val) = 0 ∧ t.trg o.val = { x with
          newTrim := none }
      ∧ (∀ m, m ≠ o.val → t.trg m = s.trg m)
      ∧ t = { s with dict := t.dict, motion := t.motion })
  ∧ (∀ (src : Source) (v : Slot) (s : State), s.admits src Key.calRestoreFactory v →
    (s.life.state = .ready → ∃ t, exec (.calRestoreFactory src v) s = .next t ∧ t.mram.trims = s.mram.factory
      ∧ (∀ i, i < 32 → t.num (Key.trimFineDelay i) = tblGet s.mram.factory.fine 0 i % 2 ^ 64 ∧ (t.trg i).newTrim = none)
      ∧ (∀ i, i < 16 → t.num (Key.trimSensor i) = tblGet s.mram.factory.sensors 0 i % 2 ^ 64)
      ∧ (∀ i, i < 4 → t.num (Key.trimMonitor i) = tblGet s.mram.factory.monitors 0 i % 2 ^ 64)
      ∧ s.accepted t src Key.calRestoreFactory (writeValue src Key.calRestoreFactory (naturalSize src Key.calRestoreFactory) v)
      ∧ t = { s with freeCount := t.freeCount, mram := { s.mram with trims := s.mram.factory }, dict := t.dict,
                     motion := t.motion, net := t.net })
    ∧ (s.life.state ≠ .ready → ∃ t, exec (.calRestoreFactory src v) s = .next t ∧ hostTold t src Key.calRestoreFactory 3
      ∧ t = { s with freeCount := t.freeCount, dict := t.dict, net := t.net }))

/-- A test begins: its unit and mask are held (15 R452). -/
def testBegun (s t : State) (src : Source) (v : Slot) (test unit mask : Nat) : Prop :=
  t.maint.test = some (test, unit, mask) ∧ t.num Key.selfTestState = 1 ∧ s.accepted t src Key.selfTestRequest v

/-- A test is refused: the host is told, and the refusal is journalled (15 R452). -/
def testRefused (s t : State) (src : Source) (v : Slot) (code : Nat) : Prop :=
  hostTold t src Key.selfTestRequest code ∧ t.num Key.selfTestState = s.num Key.selfTestState
  ∧ (s.life.logsOn = true → ∃ e, t.dict.journal.head? = some e ∧ e.target = Key.selfTestRequest ∧ e.result = code ∧ e.value = v.toNat)
  ∧ t = { s with freeCount := t.freeCount, dict := t.dict, net := t.net }

/-- 15 R452: self-tests. -/
def Obligations.SelfTestsRunOnRequest : Prop :=
  (∀ (src : Source) (mask : BitVec 12) (s : State), let v := BitVec.ofNat 64 (1 + mask.toNat * 2 ^ 16)
    s.admits src Key.selfTestRequest v → s.num Key.selfTestState ≠ 1 →
      (s.life.state = .ready → ∃ t, exec (.selftestMemoryBist src mask) s = .next t ∧ testBegun s t src v 1 0 mask.toNat
        ∧ t = { s with freeCount := t.freeCount, dict := t.dict, net := t.net, maint := t.maint })
      ∧ (s.life.state ≠ .ready → ∃ t, exec (.selftestMemoryBist src mask) s = .next t ∧ testRefused s t src v 3))
  ∧ (∀ (src : Source) (u : BitVec 8) (s : State), let v := BitVec.ofNat 64 (2 + u.toNat * 256)
    s.admits src Key.selfTestRequest v → s.num Key.selfTestState ≠ 1 → u.toNat < s.portCount →
      (s.inRun = false ∨ s.flag (Key.portEnable u.toNat) = false →
        ∃ t, exec (.selftestLaneLoopback src u) s = .next t ∧ testBegun s t src v 2 u.toNat 0
          ∧ (t.port u.toNat).state = 0 ∧ (t.port u.toNat).rx = none ∧ (t.port u.toNat).buffer = []
          ∧ (∀ i, i < 4 → t.lane (4 * u.toNat + i) = {})
          ∧ t = { s with
              freeCount := t.freeCount, dict := t.dict, lanes := t.lanes, ports := t.ports, pipes := t.pipes,
              net := t.net, harbour := t.harbour, maint := t.maint })
      ∧ (s.inRun = true → s.flag (Key.portEnable u.toNat) = true →
        ∃ t, exec (.selftestLaneLoopback src u) s = .next t ∧ testRefused s t src v 9))
  ∧ (∀ (src : Source) (u : BitVec 8) (s : State), let v := BitVec.ofNat 64 (3 + u.toNat * 256)
    let placed := ∃ n ∈ s.enabledPorts, s.num (Key.portPlacement n) = u.toNat ∨ s.lastNum (Key.portPlacement n) = u.toNat
    s.admits src Key.selfTestRequest v → s.num Key.selfTestState ≠ 1 → u.toNat < s.pipeCount →
      (s.life.state ≠ .init → (s.inRun = false ∨ ¬ placed) →
        ∃ t, exec (.selftestGoldenVectors src u) s = .next t ∧ testBegun s t src v 3 u.toNat 0
          ∧ t.pipe u.toNat = { s.pipe u.toNat with testing := true } ∧ (∀ p, p ≠ u.toNat → t.pipe p = s.pipe p)
          ∧ t = { s with freeCount := t.freeCount, dict := t.dict, pipes := t.pipes, net := t.net, maint := t.maint })
      ∧ (s.life.state = .init → ∃ t, exec (.selftestGoldenVectors src u) s = .next t ∧ testRefused s t src v 3)
      ∧ (s.inRun = true → placed → ∃ t, exec (.selftestGoldenVectors src u) s = .next t ∧ testRefused s t src v 9))
  ∧ (∀ (src : Source) (u : BitVec 8) (s : State), s.num Key.selfTestState = 1 →
      (s.admits src Key.selfTestRequest (BitVec.ofNat 64 (2 + u.toNat * 256)) →
        ∃ t, exec (.selftestLaneLoopback src u) s = .next t ∧ testRefused s t src (BitVec.ofNat 64 (2 + u.toNat * 256)) 8)
      ∧ (s.admits src Key.selfTestRequest (BitVec.ofNat 64 (3 + u.toNat * 256)) → s.life.state ≠ .init →
        ∃ t, exec (.selftestGoldenVectors src u) s = .next t ∧ testRefused s t src (BitVec.ofNat 64 (3 + u.toNat * 256)) 8))
  ∧ (∀ (pass : Bool) (detail : Slot) (s : State),
    (s.maint.test = none → exec (.selftestComplete pass detail) s = .next s)
    ∧ ∀ test u mask, s.maint.test = some (test, u, mask) →
      ∃ t, exec (.selftestComplete pass detail) s = .next t
        ∧ t.maint.test = none ∧ t.num Key.selfTestState = 0 ∧ t.num Key.selfTestResult = bit (!pass)
        ∧ t.val Key.selfTestDetail = detail
        ∧ (pass = false → warned s t 0x0082 test 2 detail.toNat)
        ∧ (test = 1 → (∀ a, memByte t.g6.mem a = 0) ∧ t.g6.bad = [] ∧ t.ports = s.ports ∧ t.pipes = s.pipes)
        ∧ (test ≠ 1 → t.g6 = s.g6)
        ∧ (test = 3 → (t.pipe u).testing = false ∧ (∀ p, p ≠ u → t.pipe p = s.pipe p)
            ∧ (u < 8 → pass = true → s.flag (Key.pipelineInService u) = false → s.inRun = false →
                t.flag (Key.pipelineInService u) = true)
            ∧ (u < 8 → pass = true → s.flag (Key.pipelineInService u) = false → s.inRun = true →
                (t.pipe u).returning = true ∧ t.flag (Key.pipelineInService u) = false)
            ∧ (u < 8 → pass = false → t.flag (Key.pipelineInService u) = s.flag (Key.pipelineInService u)))
        ∧ t = { s with
            freeCount := t.freeCount, dict := t.dict, logs := t.logs, lanes := t.lanes, ports := t.ports,
            pipes := t.pipes, reef := t.reef, net := t.net, g6 := t.g6, harbour := t.harbour, maint := t.maint,
            sent := t.sent })

/-- Nothing but what is known of the lane references has changed. -/
def onlyRefs (s t : State) : Prop :=
  let m := t.maint
  t = { s with maint := t.maint }
  ∧ m = { s.maint with lrefLost := m.lrefLost, lrefLostAt := m.lrefLostAt, switching := m.switching, linesLost := m.linesLost }

/-- 15 R456: the lane references. -/
def Obligations.LaneReferencesSwitchOnce : Prop :=
  (∀ (b : Bool) (s : State),
    ∃ t, exec (.lrefLoss b) s = .next t ∧ t.lrefOn b = false ∧ t.lrefOn (!b) = s.lrefOn (!b)
      ∧ t.maint.lrefLostAt = (if s.lrefOn (!b) then none else some (s.maint.lrefLostAt.getD s.now))
      ∧ (s.lrefB = b → s.lrefOn (!b) = true → s.maint.switching = none →
          t.maint.switching = some (s.now, bit (!b)) ∧ t.maint.linesLost = 0)
      ∧ (s.lrefB ≠ b ∨ s.lrefOn (!b) = false ∨ s.maint.switching ≠ none →
          t.maint.switching = s.maint.switching ∧ t.maint.linesLost = s.maint.linesLost)
      ∧ onlyRefs s t)
  ∧ (∀ (b : Bool) (s : State),
    ∃ t, exec (.lrefReturn b) s = .next t ∧ t.lrefOn b = true ∧ t.lrefOn (!b) = s.lrefOn (!b)
      ∧ t.maint.lrefLostAt = none
      ∧ (s.lrefB ≠ b → s.lrefOn (!b) = false → s.maint.switching = none →
          t.maint.switching = some (s.now, bit b) ∧ t.maint.linesLost = 0)
      ∧ (s.lrefB = b ∨ s.lrefOn (!b) = true ∨ s.maint.switching ≠ none →
          t.maint.switching = s.maint.switching ∧ t.maint.linesLost = s.maint.linesLost)
      ∧ onlyRefs s t)
  ∧ (∀ s : State,
    (s.maint.switching = none → exec .lrefSwitchComplete s = .next s)
    ∧ ∀ τ x, s.maint.switching = some (τ, x) →
      ∃ t, exec .lrefSwitchComplete s = .next t ∧ t.num Key.lrefActive = x % 2 ^ 64 ∧ counted s t Key.lrefSwitchCount
        ∧ t.maint = { s.maint with switching := none, linesLost := 0 }
        ∧ (∀ n, n < s.portCount → (t.port n).rx = none)
        ∧ ((∀ n, n < s.portCount → (s.port n).rx = none) → t.ports = s.ports
            ∧ warned s t 0x0016 0xFFFF 2 (x + s.maint.linesLost * 2 ^ 32))
        ∧ t = { s with
            freeCount := t.freeCount, dict := t.dict, logs := t.logs, ports := t.ports, net := t.net,
            harbour := t.harbour, maint := t.maint, sent := t.sent })
  ∧ (∀ s : State,
    ((s.maint.lrefLostAt = none ∨ (∃ τ, s.maint.lrefLostAt = some τ ∧ s.now < τ + 10000000)
        ∨ s.life.state ∉ [.init, .ready, .run]) → exec .lrefBothLost s = .next s)
    ∧ ∀ τ, s.maint.lrefLostAt = some τ → τ + 10000000 ≤ s.now → s.life.state ∈ [.init, .ready, .run] →
      ∃ t, exec .lrefBothLost s = .next t ∧ t.life.state = .fault ∧ t.pins.faultN = false
        ∧ t.life.faultFromRun = s.inRun ∧ t.life.recoverable = false ∧ t.mram = s.mram)

/-- 13 R397, R398; 14 R421: claim and EOI of a target. -/
def Obligations.ClaimsAndEndsOfInterrupt : Prop :=
  (∀ (t : Fin 6) (s : State) (n : Nat), s.hmTop t = some n → s.num (Key.hmClaims t) + 1 < 2 ^ keyBits (Key.hmClaims t) →
    let host := decide (4 ≤ t.val)
    let p := s.hmPriority host n
    ∃ u, exec (.hbClaim t) s = .next u
      ∧ (u.hmTarget t).stack = (n, p) :: (s.hmTarget t).stack
      ∧ (u.hmSource host n).service = true ∧ (u.hmSource host n).pending = false
      ∧ u.num (Key.hmClaims t) = s.num (Key.hmClaims t) + 1
      ∧ (4 ≤ t.val → u.sent.getLast? = some ⟨.completion true, s.now, leBytes 4 (0x40000000 + p * 1024 + n)⟩)
      ∧ u = { s with freeCount := u.freeCount, dict := u.dict, harbour := u.harbour, pcie := u.pcie, sent := u.sent })
  ∧ (∀ (t : Fin 6) (s : State), s.hmTop t = none → s.hmWindowOf (decide (4 ≤ t.val)) = 0 →
      s.num (Key.hmSpurious t) + 1 < 2 ^ keyBits (Key.hmSpurious t) →
    ∃ u, exec (.hbClaim t) s = .next u
      ∧ (u.hmTarget t).stack = (s.hmTarget t).stack
      ∧ u.num (Key.hmSpurious t) = s.num (Key.hmSpurious t) + (if (s.hmTarget t).since then 1 else 0)
      ∧ (4 ≤ t.val → u.sent.getLast? = some ⟨.completion true, s.now,
          leBytes 4 (if (s.hmTarget t).since then 0x80000000 else 0)⟩)
      ∧ u = { s with freeCount := u.freeCount, dict := u.dict, harbour := u.harbour, pcie := u.pcie, sent := u.sent })
  ∧ (∀ (t : Fin 6) (s : State) (n p : Nat) (rest : List (Nat × Nat)) (v : BitVec 32),
      (s.hmTarget t).stack = (n, p) :: rest → v.toNat = n → n ≠ 0 →
    let host := decide (4 ≤ t.val)
    ∃ u, exec (.hbEoi t v) s = .next u
      ∧ (u.hmTarget t).stack = rest
      ∧ (u.hmSource host n).service = false
      ∧ (hmLevelSource n = true → (u.hmSource host n).pending = (s.hmSource host n).level)
      ∧ (hmLevelSource n = false → (u.hmSource host n).pending = (s.hmSource host n).again
          ∧ (u.hmSource host n).again = false)
      ∧ u = { s with freeCount := u.freeCount, dict := u.dict, harbour := u.harbour, pcie := u.pcie, sent := u.sent })
  ∧ (∀ (t : Fin 6) (s : State) (v : BitVec 32),
      (v = 0 → exec (.hbEoi t v) s = .next s)
      ∧ (v ≠ 0 → (∀ e, (s.hmTarget t).stack.head? = some e → e.1 ≠ v.toNat) →
          exec (.hbEoi t v) s = .next (s.bump (Key.hmEoiMismatch t))))

/-- 13 R393, R396, R399; 14 R427: requests, levels and messages. -/
def Obligations.SourcesBecomePendingAndSignal : Prop :=
  (∀ (n : Fin 768) (s : State), hmKnown n = true → hmLevelSource n = false → tblGet s.harbour.req 0 n ≠ 0 →
      s.num (Key.hmEventCount n) + 1 < 2 ^ keyBits (Key.hmEventCount n) →
    ∃ u, exec (.hmSourceEvent n) s = .next u
      ∧ tblGet u.harbour.req 0 n = tblGet s.harbour.req 0 n - 1
      ∧ (∀ host, ((s.hmSource host n).service = false → (u.hmSource host n).pending = true)
          ∧ ((s.hmSource host n).service = true → (u.hmSource host n).again = true)
          ∧ (u.hmSource host n).service = (s.hmSource host n).service)
      ∧ u.num (Key.hmEventCount n) = s.num (Key.hmEventCount n)
          + (if (s.hmSource true n).pending || (s.hmSource true n).service then 1 else 0)
      ∧ u = { s with freeCount := u.freeCount, dict := u.dict, harbour := u.harbour, pcie := u.pcie, sent := u.sent })
  ∧ (∀ (n : Fin 768) (s : State), hmLevelSource n = true → s.hmLevel n = true →
    ∃ u, exec (.hmSourceEvent n) s = .next u
      ∧ (∀ host, (u.hmSource host n).pending = !(s.hmSource host n).service ∧ (u.hmSource host n).level = true)
      ∧ u = { s with freeCount := u.freeCount, dict := u.dict, harbour := u.harbour, pcie := u.pcie, sent := u.sent })
  ∧ (∀ (n : Fin 768) (s : State), hmLevelSource n = true → s.hmLevel n = false →
    ∃ u, exec (.hmLevelFall n) s = .next u
      ∧ (∀ host, (u.hmSource host n).pending = false ∧ (u.hmSource host n).level = false
          ∧ (u.hmSource host n).service = (s.hmSource host n).service)
      ∧ u = { s with freeCount := u.freeCount, dict := u.dict, harbour := u.harbour, pcie := u.pcie, sent := u.sent })
  ∧ (∀ (n : Fin 768) (s : State),
      (hmLevelSource n = false → tblGet s.harbour.req 0 n = 0 → exec (.hmSourceEvent n) s = .next s)
      ∧ (hmLevelSource n = true → s.hmLevel n = false → exec (.hmSourceEvent n) s = .next s)
      ∧ (hmLevelSource n = false ∨ s.hmLevel n = true → exec (.hmLevelFall n) s = .next s))
  ∧ (∀ (i : Fin 2) (s : State),
      let t := i.val + 4
      let v := s.hmVectorOf t
      ((s.hmTarget t).deferred = false ∨ s.hmModerated t = true → exec (.hmModExpiry i) s = .next s)
      ∧ ((s.hmTarget t).deferred = true → s.hmModerated t = false →
        ∃ u, exec (.hmModExpiry i) s = .next u
          ∧ (u.hmTarget t).deferred = false
          ∧ ((s.hmTarget t).signalled = true → (u.hmTarget t).lastMsg = some s.now
              ∧ (s.pcie.funcMask = true ∨ v ∉ s.pcie.unmasked → v ∈ u.pcie.pba ∧ u.sent = s.sent)
              ∧ (s.pcie.funcMask = false → v ∈ s.pcie.unmasked → u.sent = s.sent ++ [⟨.msix v, s.now, []⟩]))
          ∧ ((s.hmTarget t).signalled = false → u.sent = s.sent ∧ u.pcie = s.pcie)
          ∧ u = { s with harbour := u.harbour, pcie := u.pcie, sent := u.sent }))
  ∧ (∀ (vector : Option (Fin 64)) (s : State),
    ∃ u, exec (.msixUnmask vector) s = .next u
      ∧ (vector = none → u.pcie.funcMask = false)
      ∧ (∀ v : Fin 64, vector = some v → v.val ∈ u.pcie.unmasked
          ∧ (s.pcie.funcMask = false → v.val ∉ u.pcie.pba
              ∧ (v.val ∈ s.pcie.pba → ⟨.msix v.val, s.now, []⟩ ∈ u.sent.drop s.sent.length)))
      ∧ u = { s with freeCount := u.freeCount, dict := u.dict, harbour := u.harbour, pcie := u.pcie, sent := u.sent })

/-- 13 R402: what the reset of the host path empties, keeps and leaves alone. -/
def hostPathReset (s u : State) : Prop :=
  (∀ t, t = 4 ∨ t = 5 → (u.hmTarget t).stack = [] ∧ (u.hmTarget t).signalled = false)
  ∧ u.num Key.hmHostAttach = 0
  ∧ (∀ n, (u.hmSource true n).service = false
      ∧ (u.hmSource true n).pending = ((s.hmSource true n).pending || (s.hmSource true n).again
          || ((s.hmSource true n).service && (s.hmSource true n).level)))
  ∧ (∀ n, n < 768 → u.num (Key.hmHostPriority n) = s.num (Key.hmHostPriority n) ∧ u.num (Key.hmHostTargets n) = s.num (Key.hmHostTargets n)
      ∧ u.num (Key.hmHostMask n) = s.num (Key.hmHostMask n) ∧ u.num (Key.hmVector n) = s.num (Key.hmVector n))
  ∧ u.num (Key.hmModInterval 4) = s.num (Key.hmModInterval 4) ∧ u.num (Key.hmModInterval 5) = s.num (Key.hmModInterval 5)
  ∧ (∀ n, (u.hmSource false n).pending = (s.hmSource false n).pending ∧ (u.hmSource false n).service = (s.hmSource false n).service)
  ∧ (∀ t, t < 4 → (u.hmTarget t).stack = (s.hmTarget t).stack)

/-- 13 R402: PERST_N, hot reset, link loss and FLR. -/
def Obligations.HostPathResetKeepsPendingAndSettings : Prop :=
  (∀ (kind : LinkReset) (s : State), ∃ u, exec (.perst kind) s = .next u ∧ hostPathReset s u)
  ∧ (∀ s : State, ∃ u, exec .flr s = .next u ∧ hostPathReset s u)

/-- What PERST and FLR leave of the PCIe function and the host path (14 R431, 13 R402). -/
def pcieReset (s u : State) : Prop :=
  u.pcie.busMaster = false ∧ u.pcie.msixEnable = false ∧ u.pcie.funcMask = false ∧ u.pcie.unmasked = []
  ∧ u.pcie.d3hot = false ∧ u.pcie.bar2Base = 0 ∧ u.pcie.bar2Discards = 0 ∧ u.pcie.bar2Aborts = 0 ∧ u.pcie.badAccess = 0
  ∧ u.pcie.recovery = true ∧ u.flag Key.hmHostAttach = false
  ∧ (u.hmTarget 4).stack = [] ∧ (u.hmTarget 5).stack = [] ∧ (u.hmTarget 4).signalled = false ∧ (u.hmTarget 5).signalled = false
  ∧ (∀ n, (u.hmSource true n).service = false
      ∧ ((s.hmSource true n).pending = true → (u.hmSource true n).pending = true)
      ∧ (u.hmSource false n).service = (s.hmSource false n).service)
  ∧ u.dict.owners = s.dict.owners ∧ u.dict.journal = s.dict.journal ∧ u.net.keys = s.net.keys ∧ u.mram = s.mram
  ∧ u.life = s.life

/-- 14 R414, R420, R431; 13 R402: the PCIe function's events. -/
def Obligations.PcieSideResetsAndReturns : Prop :=
  (∀ (kind : LinkReset) (s : State), ∃ u, exec (.perst kind) s = .next u ∧ u.pcie.linkUp = false ∧ pcieReset s u
    ∧ u = { s with
        freeCount := u.freeCount, dict := u.dict, logs := u.logs, sched := u.sched, streams := u.streams,
        net := u.net, g6 := u.g6, ferry := u.ferry, harbour := u.harbour, pcie := u.pcie, sent := u.sent })
  ∧ (∀ s : State, ∃ u, exec .flr s = .next u ∧ u.pcie.linkUp = s.pcie.linkUp ∧ pcieReset s u
    ∧ u = { s with
        freeCount := u.freeCount, dict := u.dict, logs := u.logs, sched := u.sched, streams := u.streams,
        net := u.net, g6 := u.g6, ferry := u.ferry, harbour := u.harbour, pcie := u.pcie, sent := u.sent })
  ∧ (∀ (pme : Bool) (s : State), ∃ u, exec (.d3hotEntry pme) s = .next u
    ∧ u.pcie.d3hot = true ∧ u.pcie.pmeEn = pme ∧ u.pcie.linkUp = s.pcie.linkUp ∧ u.pcie.busMaster = s.pcie.busMaster
    ∧ u.pcie.msixEnable = s.pcie.msixEnable ∧ u.pcie.bar2Base = s.pcie.bar2Base ∧ u.pcie.unmasked = s.pcie.unmasked
    ∧ u.dict.owners = s.dict.owners ∧ u.dict.journal = s.dict.journal ∧ u.net.keys = s.net.keys
    ∧ u = { s with
        freeCount := u.freeCount, dict := u.dict, logs := u.logs, sched := u.sched, streams := u.streams,
        net := u.net, g6 := u.g6, ferry := u.ferry, harbour := u.harbour, pcie := u.pcie, sent := u.sent })
  ∧ (∀ s : State, ∃ u, exec .d0Return s = .next u ∧ u.pcie.d3hot = false ∧ u.pcie.linkUp = s.pcie.linkUp
    ∧ u.pcie.busMaster = s.pcie.busMaster ∧ u.pcie.msixEnable = s.pcie.msixEnable ∧ u.pcie.bar2Base = s.pcie.bar2Base
    ∧ u = { s with freeCount := u.freeCount, dict := u.dict, harbour := u.harbour, pcie := u.pcie, sent := u.sent })
  ∧ (∀ (w v : BitVec 4) (s : State), ∃ u, exec (.pcieLinkUp w v) s = .next u ∧ u.pcie.linkUp = true
    ∧ u.pcie.busMaster = s.pcie.busMaster ∧ u.flag Key.hmHostAttach = s.flag Key.hmHostAttach
    ∧ u = { s with
        freeCount := u.freeCount, dict := u.dict, logs := u.logs, net := u.net, harbour := u.harbour, pcie := u.pcie,
        sent := u.sent })
  ∧ (∀ (b : Bool) (s : State), ∃ u, exec (.busMasterEnableWrite b) s = .next u ∧ u.pcie.busMaster = b
    ∧ u.pcie.linkUp = s.pcie.linkUp ∧ u.pcie.msixEnable = s.pcie.msixEnable ∧ u.pcie.bar2Base = s.pcie.bar2Base
    ∧ u = { s with
        freeCount := u.freeCount, dict := u.dict, streams := u.streams, ferry := u.ferry, harbour := u.harbour,
        pcie := u.pcie, sent := u.sent })
  ∧ (∀ s : State, ∃ u, exec .hbBadAccess s = .next u ∧ u.pcie.badAccess = s.pcie.badAccess + 1
    ∧ u = { s with pcie := { s.pcie with badAccess := u.pcie.badAccess } })
  ∧ (∀ (src : Source) (v : Slot) (s : State), s.admits src Key.hmHostAttach v →
      ∃ u, exec (.hmHostAttach src v) s = .next u
        ∧ s.accepted u src Key.hmHostAttach (writeValue src Key.hmHostAttach (naturalSize src Key.hmHostAttach) v)
        ∧ u.val Key.hmHostAttach = writeValue src Key.hmHostAttach (naturalSize src Key.hmHostAttach) v
        ∧ (u.flag Key.hmHostAttach = true → u.pcie.recovery = false)
        ∧ u = { s with
            freeCount := u.freeCount, dict := u.dict, streams := u.streams, net := u.net, ferry := u.ferry,
            harbour := u.harbour, pcie := u.pcie, sent := u.sent })

/-- 14 R418, R425, R426: the BAR2 window. -/
def Obligations.Bar2WindowReadsAndWrites : Prop :=
  (∀ (v : Slot) (s : State),
    (v.toNat % 0x100000 = 0 → v.toNat ≤ s.num Key.g6LocalTop →
      ∃ u, exec (.hbBar2Base v) s = .next u ∧ u.pcie.bar2Base = v.toNat
        ∧ u = { s with pcie := { s.pcie with bar2Base := u.pcie.bar2Base } })
    ∧ (v.toNat % 0x100000 ≠ 0 ∨ s.num Key.g6LocalTop < v.toNat →
      ∃ u, exec (.hbBar2Base v) s = .next u ∧ u.pcie.badAccess = s.pcie.badAccess + 1
        ∧ u = { s with pcie := { s.pcie with badAccess := u.pcie.badAccess } }))
  ∧ (∀ (ofs n : Nat) (s : State),
    let a := s.pcie.bar2Base + ofs
    ∃ u d, exec (.bar2Read ofs n false) s = .next u
      ∧ d.length = n
      ∧ (∀ i, i < n → d.getD i 0 = if a + i < s.systemBase ∧ s.g6On = true then memByte s.g6.mem (a + i) else 0)
      ∧ u.sent = s.sent ++ [⟨.completion (!(s.g6.bad.any fun w =>
          64 * w < a + n && a < 64 * w + 64 && 64 * w < s.systemBase)), s.now, d⟩]
      ∧ u = { s with freeCount := u.freeCount, dict := u.dict, sent := u.sent })
  ∧ (∀ (ofs n : Nat) (s : State),
    ∃ u, exec (.bar2Read ofs n true) s = .next u
      ∧ u.pcie.bar2Aborts = s.pcie.bar2Aborts + 1 ∧ u.sent = s.sent ++ [⟨.completion false, s.now, []⟩]
      ∧ u = { s with pcie := u.pcie, sent := u.sent })
  ∧ (∀ (ofs : Nat) (data : List Byte) (s : State),
    let a := s.pcie.bar2Base + ofs
    (a + data.length ≤ s.systemBase → s.g6On = true →
      ∃ u, exec (.bar2Write ofs data) s = .next u
        ∧ memRead u.g6.mem a data.length = data
        ∧ (∀ x, x < a ∨ a + data.length ≤ x → memByte u.g6.mem x = memByte s.g6.mem x)
        ∧ u.pcie.bar2Discards = s.pcie.bar2Discards
        ∧ u = { s with freeCount := u.freeCount, dict := u.dict, g6 := u.g6 })
    ∧ (s.systemBase < a + data.length ∨ s.g6On = false →
      ∃ u, exec (.bar2Write ofs data) s = .next u ∧ u.pcie.bar2Discards = s.pcie.bar2Discards + 1
        ∧ u = { s with pcie := { s.pcie with bar2Discards := u.pcie.bar2Discards } }))

/-- 12 R352, R353, R360: what one access does to the memory. -/
def Obligations.MemoryAccessesStoreExactly : Prop :=
  (∀ (port : Fin 8) (unit : Nat) (write : Option (Nat × List Byte)) (bank row edc : Nat) (ecc : EccOutcome) (s : State),
    s.g6On = true → (if port = 7 then 64 * unit < s.systemBase else 64 * unit + 63 ≤ s.num Key.g6LocalTop) → s.num (Key.g6ChState (s.channelOf (64 * unit))) = 1 →
    edc ≤ s.num Key.g6EdcRetryMax →
    ∃ t, exec (.g6Access port unit write bank row edc ecc) s = .next t
      ∧ (write = none → t.g6.mem = s.g6.mem
          ∧ (ecc = .double → s.flag Key.g6SecdedActive = true → unit ∈ t.g6.bad))
      ∧ (∀ ofs data, write = some (ofs, data) →
          let a := 64 * unit + ofs % 64
          let d := data.take (64 - ofs % 64)
          memRead t.g6.mem a d.length = d
          ∧ (∀ x, x < a ∨ a + d.length ≤ x → memByte t.g6.mem x = memByte s.g6.mem x)
          ∧ (d.length = 64 → unit ∉ t.g6.bad))
      ∧ (∀ w, w ≠ unit → (w ∈ t.g6.bad ↔ w ∈ s.g6.bad))
      ∧ t = { s with
          freeCount := t.freeCount, dict := t.dict, logs := t.logs, net := t.net, g6 := t.g6, harbour := t.harbour,
          sent := t.sent })
  ∧ (∀ (port : Fin 8) (unit : Nat) (write : Option (Nat × List Byte)) (bank row edc : Nat) (ecc : EccOutcome) (s : State),
    s.g6On = true →
      (port ≠ 7 → s.num Key.g6LocalTop < 64 * unit + 63 → exec (.g6Access port unit write bank row edc ecc) s = .fault .noSuchLocalAddress)
      ∧ (port = 7 → s.systemBase ≤ 64 * unit → ∃ t, exec (.g6Access port unit write bank row edc ecc) s = .next t
          ∧ t.pcie.bar2Discards = s.pcie.bar2Discards + (if write.isSome then 1 else 0)
          ∧ t = { s with pcie := { s.pcie with bar2Discards := t.pcie.bar2Discards } }))
  ∧ (∀ (port : Fin 8) (unit : Nat) (write : Option (Nat × List Byte)) (bank row edc : Nat) (ecc : EccOutcome) (s : State),
    s.g6On = false ∨ ((if port = 7 then 64 * unit < s.systemBase else 64 * unit + 63 ≤ s.num Key.g6LocalTop) ∧ s.num (Key.g6ChState (s.channelOf (64 * unit))) ≠ 1) →
      exec (.g6Access port unit write bank row edc ecc) s = .next s)

/-- 12 R357, R362, R363, R365: refresh. -/
def Obligations.RefreshRowsAndTemperature : Prop :=
  (∀ (c : Fin 24) (idle : Bool) (s : State),
    (s.num (Key.g6ChState c) ≠ 1 ∨ s.g6On = false → exec (.refreshInterval c idle) s = .next s)
    ∧ (s.num (Key.g6ChState c) = 1 → s.g6On = true →
      let limit := if s.num (Key.g6RefreshRate c) = 2 then 4 else 8
      ∃ t, exec (.refreshInterval c idle) s = .next t
        ∧ (t.chan c).debt = (if idle then 0 else if limit ≤ (s.chan c).debt then limit else (s.chan c).debt + 1)
        ∧ (t.chan c).openRows = (if idle || decide (limit ≤ (s.chan c).debt) then [] else (s.chan c).openRows)
        ∧ (t.chan c).rows = (s.chan c).rows
        ∧ (∀ d, d ≠ c.val → t.chan d = s.chan d) ∧ t.g6.mem = s.g6.mem ∧ t.g6.bad = s.g6.bad
        ∧ t = { s with dict := t.dict, g6 := t.g6 }))
  ∧ (∀ (c : Fin 24) (s : State), ∃ t, exec (.refreshWindowEnd c) s = .next t
      ∧ (t.chan c).rows = [] ∧ (t.chan c).debt = (s.chan c).debt ∧ (t.chan c).openRows = (s.chan c).openRows
      ∧ (∀ d, d ≠ c.val → t.chan d = s.chan d) ∧ t.g6.mem = s.g6.mem
      ∧ t = { s with g6 := t.g6 })
  ∧ (∀ (c : Fin 24) (bank : Nat) (s : State),
      (∀ row τ, tblGet (s.chan c).openRows none bank = some (row, τ) → τ + 1000 ≤ s.now →
        ∃ t, exec (.rowIdleClose c bank) s = .next t
          ∧ tblGet (t.chan c).openRows none bank = none
          ∧ (∀ b, b ≠ bank → tblGet (t.chan c).openRows none b = tblGet (s.chan c).openRows none b)
          ∧ (∀ d, d ≠ c.val → t.chan d = s.chan d) ∧ t.g6.mem = s.g6.mem
          ∧ t = { s with g6 := t.g6 })
      ∧ ((∀ row τ, tblGet (s.chan c).openRows none bank = some (row, τ) → s.now < τ + 1000) →
        exec (.rowIdleClose c bank) s = .next s))
  ∧ (∀ (j : Fin 12) (celsius : Option Int) (s : State), s.g6On = true → s.num (Key.g6ChState (2 * j.val)) = 1 →
      let old := s.num (Key.g6RefreshRate (2 * j.val))
      let rate := match celsius with
        | none => 2
        | some x => if 85 < x then 2 else if x ≤ 83 then 1 else old
      ∃ t, exec (.g6TempRead j celsius true) s = .next t
        ∧ t.num (Key.g6RefreshRate (2 * j.val)) = rate ∧ t.num (Key.g6RefreshRate (2 * j.val + 1)) = rate
        ∧ (∀ x, celsius = some x → t.int (Key.g6Temp (2 * j.val)) = satS 16 x ∧ t.int (Key.g6Temp (2 * j.val + 1)) = satS 16 x)
        ∧ t.g6.mem = s.g6.mem
        ∧ t = { s with freeCount := t.freeCount, dict := t.dict, g6 := t.g6 })

/-- 13 R409: the thermal thresholds. -/
def Obligations.TemperatureThresholds : Prop :=
  ∀ (temps : List Int) (s : State),
    (s.firmwareRuns = false → exec (.thermConversion temps) s = .next s)
    ∧ (s.firmwareRuns = true →
      let hot := (s.takeTemps temps).hottest.2
      ∃ t, exec (.thermConversion temps) s = .next t
        ∧ (hot < 110 * 256 ∨ 2 ∈ s.power.restarting →
            (∀ i, i < 16 → bitAt (s.num Key.thermStaleMask) i = false →
              t.int (Key.thermSensor i) = satS 16 (temps.getD i 0))
            ∧ t.int Key.thermMax = hot ∧ t.life = s.life ∧ t.pins = s.pins)
        ∧ (2 ∈ s.power.restarting → t = { s with dict := t.dict })
        ∧ (2 ∉ s.power.restarting →
            (95 * 256 ≤ hot → hot < 110 * 256 → t.power.warnOn = true)
            ∧ (100 * 256 ≤ hot → hot < 110 * 256 → t.sched.thermLimit = true)
            ∧ (110 * 256 ≤ hot → s.life.state ∈ [DevState.init, .ready, .run, .fault] →
                t.life.state = .safe ∧ t.pins.thermN = false))
        ∧ t.g6 = s.g6 ∧ t.mram = s.mram ∧ t.cause = s.cause ∧ t.now = s.now)

/-- 13 R405, R408: regulators; the places of STATUS_WORD's fault bits are the model's (log entry 33). -/
def Obligations.RegulatorsPolledAndAlerting : Prop :=
  (∀ (rs : List (Option RegReading)) (s : State),
    (s.firmwareRuns = false ∨ 2 ∈ s.power.restarting → exec (.regulatorPoll rs) s = .next s)
    ∧ (s.firmwareRuns = true → 2 ∉ s.power.restarting →
      (∀ (r : Fin 8) (x : RegReading), s.regKnown r = true → (∀ q : Fin 8, q ≠ r → s.regKnown q = false) →
          s.coreReg = none → rs.getD r none = some x →
          regFault (x.status % 2 ^ 16) = false → regWarning (x.status % 2 ^ 16) = false →
        ∃ t, exec (.regulatorPoll rs) s = .next t
          ∧ t.num (Key.regVout r) = x.vout % 2 ^ 16 ∧ t.num (Key.regIout r) = x.iout % 2 ^ 32
          ∧ t.int (Key.regTemp r) = satS 16 x.temp ∧ t.num (Key.regStatusWord r) = x.status % 2 ^ 16
          ∧ t.pins.pmbAlertN = true
          ∧ t = { s with dict := t.dict, pins := { s.pins with pmbAlertN := t.pins.pmbAlertN } })
      ∧ ((∀ q : Fin 8, s.regKnown q = false) →
        ∃ t, exec (.regulatorPoll rs) s = .next t ∧ t.pins.pmbAlertN = true
          ∧ t = { s with pins := { s.pins with pmbAlertN := t.pins.pmbAlertN } })))
  ∧ (∀ (r : Fin 8) (status : Option (BitVec 16)) (s : State),
    s.num Key.pmbAlertCount + 1 < 2 ^ keyBits Key.pmbAlertCount → s.num Key.pmbErrors + 1 < 2 ^ keyBits Key.pmbErrors →
    ∃ t, exec (.pmbAlert r status) s = .next t
      ∧ t.pins.pmbAlertN = false
      ∧ (s.firmwareRuns = false → t = { s with pins := t.pins })
      ∧ (s.firmwareRuns = true →
          (s.regKnown r = false ∨ (∀ w, status = some w → regFault w.toNat = false) →
            t.num Key.pmbAlertCount = s.num Key.pmbAlertCount + 1)
          ∧ (s.regKnown r = false → t = { s with pins := t.pins, dict := t.dict })
          ∧ (s.regKnown r = true → status = none → t.num Key.pmbErrors = s.num Key.pmbErrors + 1)
          ∧ (∀ w, s.regKnown r = true → status = some w → regFault w.toNat = true →
              s.life.state ∈ [DevState.init, .ready, .run] → t.life.state = .fault ∧ t.pins.faultN = false)
          ∧ (∀ w, s.regKnown r = true → status = some w → regFault w.toNat = false → t.life = s.life
              ∧ t.num (Key.regStatusWord r) = w.toNat)))

/-- 13 R390; 14 R424: restart of a control core. -/
def Obligations.ControlCoresRestart : Prop :=
  (∀ (core : Fin 4) (s : State),
    (s.firmwareRuns = false ∨ core.val ∈ s.power.restarting → exec (.coreHeartbeatMiss core) s = .next s)
    ∧ (s.firmwareRuns = true → core.val ∉ s.power.restarting →
        s.num (Key.ctrlCoreRestarts core) + 1 < 2 ^ keyBits (Key.ctrlCoreRestarts core) →
      ∃ t, exec (.coreHeartbeatMiss core) s = .next t
        ∧ t.power.restarting = core.val :: s.power.restarting
        ∧ t.num (Key.ctrlCoreRestarts core) = s.num (Key.ctrlCoreRestarts core) + 1
        ∧ t.life.dictServed = (if core = 0 then false else s.life.dictServed)
        ∧ t.life.state = s.life.state
        ∧ t = { s with
            freeCount := t.freeCount, life := t.life, dict := t.dict, logs := t.logs, net := t.net,
            harbour := t.harbour, pcie := t.pcie, power := t.power, sent := t.sent }))
  ∧ (∀ (core : Fin 4) (s : State),
    (core.val ∉ s.power.restarting → exec (.coreRestartComplete core) s = .next s)
    ∧ (core.val ∈ s.power.restarting →
      ∃ t, exec (.coreRestartComplete core) s = .next t
        ∧ core.val ∉ t.power.restarting ∧ (∀ c, c ≠ core.val → (c ∈ t.power.restarting ↔ c ∈ s.power.restarting))
        ∧ t.life.dictServed = (if core = 0 then !s.life.trigReset else s.life.dictServed)
        ∧ t.life.state = s.life.state
        ∧ t = { s with
            freeCount := t.freeCount, life := t.life, dict := t.dict, logs := t.logs, net := t.net,
            harbour := t.harbour, pcie := t.pcie, power := t.power, sent := t.sent }))

/-- 03 R83; 13 R406, R407, R410: operating points, trims and energy. -/
def Obligations.OperatingPointsTrimsEnergy : Prop :=
  (∀ (s : State) (c : OpChange), s.sched.opChange = some c → s.sched.opNext = none → c.target < 8 →
      s.num Key.opChangeCount + 1 < 2 ^ keyBits Key.opChangeCount →
    ∃ t, exec .opChangeComplete s = .next t
      ∧ t.num Key.opNow = c.target ∧ t.num Key.opChangeCount = s.num Key.opChangeCount + 1
      ∧ t.sched.opChange = none ∧ (∀ x ∈ t.sched.strips, c.target ≤ x.opMax)
      ∧ t = { s with dict := t.dict, sched := t.sched })
  ∧ (∀ s : State, s.sched.opChange = none → exec .opChangeComplete s = .next s)
  ∧ (∀ (s : State) (r : Nat), s.coreReg = some r →
      (s.sched.settling = false → exec .pmbSettle s = .next s)
      ∧ (s.sched.settling = true →
        let mv := s.pointMv (s.num Key.opNow)
        let out := SentTo.pmbus (s.num (Key.regAddress r))
        ∃ t, exec .pmbSettle s = .next t
          ∧ t.num Key.vddCoreNow = mv
          ∧ t.sched.settling = false ∧ t.sched.marginHigh = false
          ∧ t.sent = s.sent ++ [⟨out 0x21, s.now, leBytes 2 mv⟩]
              ++ (if s.sched.marginHigh then [⟨out 0x01, s.now, [0x80]⟩] else [])
              ++ (if s.sched.settleStopped then [⟨out 0x03, s.now, []⟩] else [])
          ∧ t = { s with dict := t.dict, sched := t.sched, sent := t.sent }))
  ∧ (∀ (mv : Int) (s : State),
      (s.flag Key.avsEnable = false ∨ s.coreReg = none → exec (.avsTrimUpdate mv) s = .next s)
      ∧ (s.flag Key.avsEnable = true → s.coreReg.isSome = true →
        let op := s.num Key.opNow
        ∃ t, exec (.avsTrimUpdate mv) s = .next t
          ∧ -40 ≤ t.opTrim op ∧ t.opTrim op ≤ 30
          ∧ (-40 ≤ s.opTrim op → s.opTrim op ≤ 30 → (t.opTrim op - s.opTrim op).natAbs ≤ 5)
          ∧ (-5 ≤ mv → mv ≤ 5 → -40 ≤ s.opTrim op + mv → s.opTrim op + mv ≤ 30 → t.opTrim op = s.opTrim op + mv)
          ∧ (∀ p, p ≠ op → t.opTrim p = s.opTrim p)
          ∧ t.num (Key.opVoltage op) = t.pointMv op
          ∧ t = { s with dict := t.dict, power := t.power }))
  ∧ (∀ (mw : List Nat) (s : State),
      ∃ t, exec (.energySample mw) s = .next t
        ∧ (s.monitorsHeld = false → (∀ i, i < 4 → t.num (Key.monitorPower i) = mw.getD i 0 % 2 ^ 32))
        ∧ (s.monitorsHeld = true → t.power.staleTick = true ∧ ∀ i, i < 4 → t.num (Key.monitorPower i) = s.num (Key.monitorPower i))
        ∧ t.flag Key.energyStale = s.monitorsHeld
        ∧ (let nj := t.num (Key.monitorPower 0) + t.num (Key.monitorPower 1) + t.num (Key.monitorPower 2)
              + t.num (Key.monitorPower 3)
           t.power.energyNj = s.power.energyNj + nj ∧ t.power.sinceTick = s.power.sinceTick + nj)
        ∧ t.num Key.energyTotal = t.power.energyNj / 1000000 % 2 ^ 64
        ∧ t = { s with dict := t.dict, power := t.power })
end

