-- ==== Sys2Proof/Laws/Tables.lean ====
section
/-! SUPPORT. What a sparse table reads after a change, and that every change keeps the canonical form. -/

namespace Sys2Proof.Machine

open Sys2Proof

variable {α : Type}

/-! ## Reading after a change -/

theorem tblGet_tblSet_same (t : Tbl α) (d : α) (k : Nat) (v : α) : tblGet (tblSet t k v) d k = v := by
  induction t with
  | nil => simp [tblSet, tblGet]
  | cons e t ih =>
    obtain ⟨j, w⟩ := e
    simp only [tblSet]
    split
    · rename_i h; simp [tblGet, Nat.ne_of_lt h, ih]
    · split <;> simp [tblGet]

theorem tblGet_tblSet_other (t : Tbl α) (d : α) {k m : Nat} (v : α) (h : m ≠ k) :
    tblGet (tblSet t k v) d m = tblGet t d m := by
  induction t with
  | nil => simp [tblSet, tblGet, h.symm]
  | cons e t ih =>
    obtain ⟨j, w⟩ := e
    simp only [tblSet]
    split
    · simp only [tblGet, ih]
    · split
      · rename_i _ e; subst e; simp [tblGet, h.symm]
      · simp [tblGet, h.symm]

theorem tblGet_tblDel_same (t : Tbl α) (d : α) (k : Nat) : tblGet (tblDel t k) d k = d := by
  induction t with
  | nil => rfl
  | cons e t ih =>
    obtain ⟨j, w⟩ := e
    by_cases h : j = k
    · simpa [tblDel, h] using ih
    · simpa [tblDel, tblGet, h] using ih

theorem tblGet_tblDel_other (t : Tbl α) (d : α) {k m : Nat} (h : m ≠ k) : tblGet (tblDel t k) d m = tblGet t d m := by
  induction t with
  | nil => rfl
  | cons e t ih =>
    obtain ⟨j, w⟩ := e
    by_cases hj : j = k
    · subst hj; simpa [tblDel, tblGet, h.symm] using ih
    · by_cases hm : j = m
      · subst hm; simp [tblDel, tblGet, hj]
      · simpa [tblDel, tblGet, hj, hm] using ih

/-! ## The first pair with a key -/

theorem find_eq_tblGet (t : Tbl α) (d : α) (k : Nat) :
    (match t.find? (fun e => decide (e.1 = k)) with | some e => e.2 | none => d) = tblGet t d k := by
  induction t with
  | nil => rfl
  | cons e t ih =>
    obtain ⟨j, w⟩ := e
    by_cases h : j = k
    · simp [tblGet, h]
    · simpa [tblGet, h] using ih

@[simp] theorem tblFind_tblSet_same (t : Tbl α) (k : Nat) (v : α) : tblFind (tblSet t k v) k = some v := by
  induction t with
  | nil => simp [tblSet, tblFind]
  | cons e t ih =>
    obtain ⟨j, w⟩ := e
    simp only [tblSet]
    split
    · rename_i h; simpa [tblFind, Nat.ne_of_lt h] using ih
    · split <;> simp [tblFind]

theorem tblFind_tblSet_other (t : Tbl α) {k m : Nat} (v : α) (h : m ≠ k) : tblFind (tblSet t k v) m = tblFind t m := by
  induction t with
  | nil => simp [tblSet, tblFind, h.symm]
  | cons e t ih =>
    obtain ⟨j, w⟩ := e
    simp only [tblSet]
    split
    · by_cases hm : j = m
      · simp [tblFind, hm]
      · simpa [tblFind, hm] using ih
    · split
      · rename_i _ e; subst e; simp [tblFind, h.symm]
      · simp [tblFind, h.symm]

variable [DecidableEq α]

@[simp] theorem tblGet_tblPut_same (t : Tbl α) (d : α) (k : Nat) (v : α) : tblGet (tblPut t d k v) d k = v := by
  unfold tblPut
  split
  · rename_i h; simp [h, tblGet_tblDel_same]
  · exact tblGet_tblSet_same t d k v

theorem tblGet_tblPut_other (t : Tbl α) (d e : α) {k m : Nat} (v : α) (h : m ≠ k) :
    tblGet (tblPut t d k v) e m = tblGet t e m := by
  unfold tblPut
  split
  · exact tblGet_tblDel_other t e h
  · exact tblGet_tblSet_other t e v h

@[simp] theorem tblGet_tblMod_same (t : Tbl α) (d : α) (k : Nat) (f : α → α) :
    tblGet (tblMod t d k f) d k = f (tblGet t d k) := tblGet_tblPut_same t d k _

theorem tblGet_tblMod_other (t : Tbl α) (d : α) {k m : Nat} (f : α → α) (h : m ≠ k) :
    tblGet (tblMod t d k f) d m = tblGet t d m := tblGet_tblPut_other t d d _ h

/-! ## Canonical form -/

/-- Every listed key lies above lo. -/
def Above (lo : Option Nat) (k : Nat) : Prop := ∀ l, lo = some l → l < k

theorem tblWfFrom_cons (d : α) (lo : Option Nat) (j : Nat) (w : α) (t : Tbl α) :
    tblWfFrom d lo ((j, w) :: t) = true ↔ Above lo j ∧ w ≠ d ∧ tblWfFrom d (some j) t = true := by
  cases lo <;> simp [tblWfFrom, Above, and_assoc]

theorem Above.weaken {lo : Option Nat} {j k : Nat} (h : Above lo j) (hk : j < k) : Above lo k :=
  fun l hl => Nat.lt_trans (h l hl) hk

theorem tblWfFrom_weaken (d : α) {lo : Option Nat} {j : Nat} {t : Tbl α} (h : Above lo j)
    (ht : tblWfFrom d (some j) t = true) : tblWfFrom d lo t = true := by
  cases t with
  | nil => simp [tblWfFrom]
  | cons e t =>
    obtain ⟨k, w⟩ := e
    rw [tblWfFrom_cons] at ht ⊢
    exact ⟨h.weaken (ht.1 j rfl), ht.2⟩

theorem tblWfFrom_tblSet (d : α) {lo : Option Nat} {k : Nat} {v : α} {t : Tbl α} (hk : Above lo k) (hv : v ≠ d)
    (ht : tblWfFrom d lo t = true) : tblWfFrom d lo (tblSet t k v) = true := by
  induction t generalizing lo with
  | nil => exact (tblWfFrom_cons ..).2 ⟨hk, hv, by simp [tblWfFrom]⟩
  | cons e t ih =>
    obtain ⟨j, w⟩ := e
    rw [tblWfFrom_cons] at ht
    simp only [tblSet]
    split
    · rename_i h
      exact (tblWfFrom_cons ..).2 ⟨ht.1, ht.2.1, ih (fun l hl => by cases hl; exact h) ht.2.2⟩
    · split
      · rename_i _ e; subst e; exact (tblWfFrom_cons ..).2 ⟨hk, hv, ht.2.2⟩
      · exact (tblWfFrom_cons ..).2 ⟨hk, hv, (tblWfFrom_cons ..).2 ⟨fun l hl => by cases hl; omega, ht.2⟩⟩

theorem tblWfFrom_tblDel (d : α) {lo : Option Nat} (k : Nat) {t : Tbl α} (ht : tblWfFrom d lo t = true) :
    tblWfFrom d lo (tblDel t k) = true := by
  induction t generalizing lo with
  | nil => simp [tblDel, tblWfFrom]
  | cons e t ih =>
    obtain ⟨j, w⟩ := e
    rw [tblWfFrom_cons] at ht
    by_cases h : j = k
    · simpa [tblDel, h] using tblWfFrom_weaken d (by simpa [h] using ht.1) (ih ht.2.2)
    · have := (tblWfFrom_cons d lo j w (tblDel t k)).2 ⟨ht.1, ht.2.1, ih ht.2.2⟩
      simpa [tblDel, h] using this

/-- A change of a table keeps its canonical form. -/
theorem tblWf_tblPut (d : α) (k : Nat) (v : α) {t : Tbl α} (ht : tblWf d t = true) : tblWf d (tblPut t d k v) = true := by
  unfold tblPut
  split
  · exact tblWfFrom_tblDel d k ht
  · rename_i h; exact tblWfFrom_tblSet d (fun l hl => by cases hl) h ht

/-! ## Memory (12 R349) -/

/-- A byte stored keeps the canonical form of the memory. -/
theorem Memory.wf_put (a : Nat) (b : Byte) {m : Tbl Byte} (h : Memory.wf m = true) :
    Memory.wf (tblPut m memDefault a b) = true := tblWf_tblPut memDefault a b h

/-- Bytes stored keep the canonical form of the memory. -/
theorem Memory.wf_write (a : Nat) (bs : List Byte) {m : Tbl Byte} (h : Memory.wf m = true) :
    Memory.wf (memWrite m a bs) = true := by
  induction bs generalizing m a with
  | nil => exact h
  | cons b bs ih => exact ih (a + 1) (Memory.wf_put a b h)

/-- A byte below the stored ones reads as before. -/
theorem memByte_memWrite_below {m : Tbl Byte} {a x : Nat} (bs : List Byte) (h : x < a) :
    memByte (memWrite m a bs) x = memByte m x := by
  induction bs generalizing m a with
  | nil => rfl
  | cons b bs ih =>
    rw [memWrite, ih (Nat.lt_succ_of_lt h)]
    exact tblGet_tblPut_other m memDefault memDefault b (Nat.ne_of_lt h)

/-- A byte above the stored ones reads as before. -/
theorem memByte_memWrite_above {m : Tbl Byte} {a x : Nat} (bs : List Byte) (h : a + bs.length ≤ x) :
    memByte (memWrite m a bs) x = memByte m x := by
  induction bs generalizing m a with
  | nil => rfl
  | cons b bs ih =>
    simp only [List.length_cons] at h
    rw [memWrite, ih (by omega)]
    exact tblGet_tblPut_other m memDefault memDefault b (by omega)

/-- Stored bytes read back. -/
theorem memRead_memWrite (m : Tbl Byte) (a : Nat) (bs : List Byte) : memRead (memWrite m a bs) a bs.length = bs := by
  induction bs generalizing m a with
  | nil => rfl
  | cons b bs ih =>
    simp only [memWrite, List.length_cons, memRead, ih]
    rw [memByte_memWrite_below bs (Nat.lt_succ_self a)]
    simp [memByte]

end Sys2Proof.Machine
end

