-- ==== Sys2Proof/Laws/State.lean ====
section
/-! SUPPORT. What each one-field update of the state leaves alone, and what the dictionary reads after a change. -/

namespace Sys2Proof.Machine

open Sys2Proof

variable (s : State)

/-! ## Frames of the updates: every other field, and every entry where the dictionary is not touched -/

@[simp] theorem State.setPending_frame (q : List Instr) :
    (s.setPending q).now = s.now ∧ (s.setPending q).freeCount = s.freeCount ∧ (s.setPending q).part = s.part
    ∧ (s.setPending q).pins = s.pins ∧ (s.setPending q).life = s.life ∧ (s.setPending q).mram = s.mram
    ∧ (s.setPending q).dict = s.dict ∧ (s.setPending q).logs = s.logs ∧ (s.setPending q).sched = s.sched
    ∧ (s.setPending q).lanes = s.lanes ∧ (s.setPending q).ports = s.ports ∧ (s.setPending q).pipes = s.pipes
    ∧ (s.setPending q).cause = s.cause ∧ (s.setPending q).reef = s.reef ∧ (s.setPending q).pieces = s.pieces
    ∧ (s.setPending q).pieceNext = s.pieceNext ∧ (s.setPending q).atoll = s.atoll
    ∧ (s.setPending q).streams = s.streams ∧ (s.setPending q).motion = s.motion ∧ (s.setPending q).net = s.net
    ∧ (s.setPending q).g6 = s.g6 ∧ (s.setPending q).ferry = s.ferry ∧ (s.setPending q).harbour = s.harbour
    ∧ (s.setPending q).pcie = s.pcie ∧ (s.setPending q).power = s.power ∧ (s.setPending q).maint = s.maint
    ∧ (s.setPending q).sent = s.sent := by
  and_intros <;> rfl

@[simp] theorem State.setPending_entries (q : List Instr) (key : Nat) :
    (s.setPending q).val key = s.val key ∧ (s.setPending q).num key = s.num key ∧ (s.setPending q).flag key = s.flag key
    ∧ (s.setPending q).int key = s.int key ∧ (s.setPending q).lastVal key = s.lastVal key := by
  and_intros <;> rfl

@[simp] theorem State.idle_frame :
    (s.idle).pending = s.pending ∧ (s.idle).freeCount = s.freeCount ∧ (s.idle).part = s.part ∧ (s.idle).pins = s.pins
    ∧ (s.idle).life = s.life ∧ (s.idle).mram = s.mram ∧ (s.idle).dict = s.dict ∧ (s.idle).logs = s.logs
    ∧ (s.idle).sched = s.sched ∧ (s.idle).lanes = s.lanes ∧ (s.idle).ports = s.ports ∧ (s.idle).pipes = s.pipes
    ∧ (s.idle).cause = s.cause ∧ (s.idle).reef = s.reef ∧ (s.idle).pieces = s.pieces ∧ (s.idle).pieceNext = s.pieceNext
    ∧ (s.idle).atoll = s.atoll ∧ (s.idle).streams = s.streams ∧ (s.idle).motion = s.motion ∧ (s.idle).net = s.net
    ∧ (s.idle).g6 = s.g6 ∧ (s.idle).ferry = s.ferry ∧ (s.idle).harbour = s.harbour ∧ (s.idle).pcie = s.pcie
    ∧ (s.idle).power = s.power ∧ (s.idle).maint = s.maint ∧ (s.idle).sent = s.sent := by
  and_intros <;> rfl

@[simp] theorem State.idle_entries (key : Nat) :
    (s.idle).val key = s.val key ∧ (s.idle).num key = s.num key ∧ (s.idle).flag key = s.flag key
    ∧ (s.idle).int key = s.int key ∧ (s.idle).lastVal key = s.lastVal key := by
  and_intros <;> rfl

@[simp] theorem State.stepFree_frame :
    (s.stepFree).pending = s.pending ∧ (s.stepFree).now = s.now ∧ (s.stepFree).part = s.part
    ∧ (s.stepFree).pins = s.pins ∧ (s.stepFree).life = s.life ∧ (s.stepFree).mram = s.mram ∧ (s.stepFree).dict = s.dict
    ∧ (s.stepFree).logs = s.logs ∧ (s.stepFree).sched = s.sched ∧ (s.stepFree).lanes = s.lanes
    ∧ (s.stepFree).ports = s.ports ∧ (s.stepFree).pipes = s.pipes ∧ (s.stepFree).cause = s.cause
    ∧ (s.stepFree).reef = s.reef ∧ (s.stepFree).pieces = s.pieces ∧ (s.stepFree).pieceNext = s.pieceNext
    ∧ (s.stepFree).atoll = s.atoll ∧ (s.stepFree).streams = s.streams ∧ (s.stepFree).motion = s.motion
    ∧ (s.stepFree).net = s.net ∧ (s.stepFree).g6 = s.g6 ∧ (s.stepFree).ferry = s.ferry
    ∧ (s.stepFree).harbour = s.harbour ∧ (s.stepFree).pcie = s.pcie ∧ (s.stepFree).power = s.power
    ∧ (s.stepFree).maint = s.maint ∧ (s.stepFree).sent = s.sent := by
  and_intros <;> rfl

@[simp] theorem State.stepFree_entries (key : Nat) :
    (s.stepFree).val key = s.val key ∧ (s.stepFree).num key = s.num key ∧ (s.stepFree).flag key = s.flag key
    ∧ (s.stepFree).int key = s.int key ∧ (s.stepFree).lastVal key = s.lastVal key := by
  and_intros <;> rfl

@[simp] theorem State.setVal_frame (k : Nat) (v : Slot) :
    (s.setVal k v).pending = s.pending ∧ (s.setVal k v).now = s.now ∧ (s.setVal k v).freeCount = s.freeCount
    ∧ (s.setVal k v).part = s.part ∧ (s.setVal k v).pins = s.pins ∧ (s.setVal k v).life = s.life
    ∧ (s.setVal k v).mram = s.mram ∧ (s.setVal k v).logs = s.logs ∧ (s.setVal k v).sched = s.sched
    ∧ (s.setVal k v).lanes = s.lanes ∧ (s.setVal k v).ports = s.ports ∧ (s.setVal k v).pipes = s.pipes
    ∧ (s.setVal k v).cause = s.cause ∧ (s.setVal k v).reef = s.reef ∧ (s.setVal k v).pieces = s.pieces
    ∧ (s.setVal k v).pieceNext = s.pieceNext ∧ (s.setVal k v).atoll = s.atoll ∧ (s.setVal k v).streams = s.streams
    ∧ (s.setVal k v).motion = s.motion ∧ (s.setVal k v).net = s.net ∧ (s.setVal k v).g6 = s.g6
    ∧ (s.setVal k v).ferry = s.ferry ∧ (s.setVal k v).harbour = s.harbour ∧ (s.setVal k v).pcie = s.pcie
    ∧ (s.setVal k v).power = s.power ∧ (s.setVal k v).maint = s.maint ∧ (s.setVal k v).sent = s.sent := by
  and_intros <;> rfl

@[simp] theorem State.setNum_frame (k n : Nat) :
    (s.setNum k n).pending = s.pending ∧ (s.setNum k n).now = s.now ∧ (s.setNum k n).freeCount = s.freeCount
    ∧ (s.setNum k n).part = s.part ∧ (s.setNum k n).pins = s.pins ∧ (s.setNum k n).life = s.life
    ∧ (s.setNum k n).mram = s.mram ∧ (s.setNum k n).logs = s.logs ∧ (s.setNum k n).sched = s.sched
    ∧ (s.setNum k n).lanes = s.lanes ∧ (s.setNum k n).ports = s.ports ∧ (s.setNum k n).pipes = s.pipes
    ∧ (s.setNum k n).cause = s.cause ∧ (s.setNum k n).reef = s.reef ∧ (s.setNum k n).pieces = s.pieces
    ∧ (s.setNum k n).pieceNext = s.pieceNext ∧ (s.setNum k n).atoll = s.atoll ∧ (s.setNum k n).streams = s.streams
    ∧ (s.setNum k n).motion = s.motion ∧ (s.setNum k n).net = s.net ∧ (s.setNum k n).g6 = s.g6
    ∧ (s.setNum k n).ferry = s.ferry ∧ (s.setNum k n).harbour = s.harbour ∧ (s.setNum k n).pcie = s.pcie
    ∧ (s.setNum k n).power = s.power ∧ (s.setNum k n).maint = s.maint ∧ (s.setNum k n).sent = s.sent := by
  and_intros <;> rfl

@[simp] theorem State.setInt_frame (k : Nat) (i : Int) :
    (s.setInt k i).pending = s.pending ∧ (s.setInt k i).now = s.now ∧ (s.setInt k i).freeCount = s.freeCount
    ∧ (s.setInt k i).part = s.part ∧ (s.setInt k i).pins = s.pins ∧ (s.setInt k i).life = s.life
    ∧ (s.setInt k i).mram = s.mram ∧ (s.setInt k i).logs = s.logs ∧ (s.setInt k i).sched = s.sched
    ∧ (s.setInt k i).lanes = s.lanes ∧ (s.setInt k i).ports = s.ports ∧ (s.setInt k i).pipes = s.pipes
    ∧ (s.setInt k i).cause = s.cause ∧ (s.setInt k i).reef = s.reef ∧ (s.setInt k i).pieces = s.pieces
    ∧ (s.setInt k i).pieceNext = s.pieceNext ∧ (s.setInt k i).atoll = s.atoll ∧ (s.setInt k i).streams = s.streams
    ∧ (s.setInt k i).motion = s.motion ∧ (s.setInt k i).net = s.net ∧ (s.setInt k i).g6 = s.g6
    ∧ (s.setInt k i).ferry = s.ferry ∧ (s.setInt k i).harbour = s.harbour ∧ (s.setInt k i).pcie = s.pcie
    ∧ (s.setInt k i).power = s.power ∧ (s.setInt k i).maint = s.maint ∧ (s.setInt k i).sent = s.sent := by
  and_intros <;> rfl

@[simp] theorem State.setFlag_frame (k : Nat) (b : Bool) :
    (s.setFlag k b).pending = s.pending ∧ (s.setFlag k b).now = s.now ∧ (s.setFlag k b).freeCount = s.freeCount
    ∧ (s.setFlag k b).part = s.part ∧ (s.setFlag k b).pins = s.pins ∧ (s.setFlag k b).life = s.life
    ∧ (s.setFlag k b).mram = s.mram ∧ (s.setFlag k b).logs = s.logs ∧ (s.setFlag k b).sched = s.sched
    ∧ (s.setFlag k b).lanes = s.lanes ∧ (s.setFlag k b).ports = s.ports ∧ (s.setFlag k b).pipes = s.pipes
    ∧ (s.setFlag k b).cause = s.cause ∧ (s.setFlag k b).reef = s.reef ∧ (s.setFlag k b).pieces = s.pieces
    ∧ (s.setFlag k b).pieceNext = s.pieceNext ∧ (s.setFlag k b).atoll = s.atoll ∧ (s.setFlag k b).streams = s.streams
    ∧ (s.setFlag k b).motion = s.motion ∧ (s.setFlag k b).net = s.net ∧ (s.setFlag k b).g6 = s.g6
    ∧ (s.setFlag k b).ferry = s.ferry ∧ (s.setFlag k b).harbour = s.harbour ∧ (s.setFlag k b).pcie = s.pcie
    ∧ (s.setFlag k b).power = s.power ∧ (s.setFlag k b).maint = s.maint ∧ (s.setFlag k b).sent = s.sent := by
  and_intros <;> rfl

@[simp] theorem State.setBlob_frame (k : Nat) (b : List Byte) :
    (s.setBlob k b).pending = s.pending ∧ (s.setBlob k b).now = s.now ∧ (s.setBlob k b).freeCount = s.freeCount
    ∧ (s.setBlob k b).part = s.part ∧ (s.setBlob k b).pins = s.pins ∧ (s.setBlob k b).life = s.life
    ∧ (s.setBlob k b).mram = s.mram ∧ (s.setBlob k b).logs = s.logs ∧ (s.setBlob k b).sched = s.sched
    ∧ (s.setBlob k b).lanes = s.lanes ∧ (s.setBlob k b).ports = s.ports ∧ (s.setBlob k b).pipes = s.pipes
    ∧ (s.setBlob k b).cause = s.cause ∧ (s.setBlob k b).reef = s.reef ∧ (s.setBlob k b).pieces = s.pieces
    ∧ (s.setBlob k b).pieceNext = s.pieceNext ∧ (s.setBlob k b).atoll = s.atoll ∧ (s.setBlob k b).streams = s.streams
    ∧ (s.setBlob k b).motion = s.motion ∧ (s.setBlob k b).net = s.net ∧ (s.setBlob k b).g6 = s.g6
    ∧ (s.setBlob k b).ferry = s.ferry ∧ (s.setBlob k b).harbour = s.harbour ∧ (s.setBlob k b).pcie = s.pcie
    ∧ (s.setBlob k b).power = s.power ∧ (s.setBlob k b).maint = s.maint ∧ (s.setBlob k b).sent = s.sent := by
  and_intros <;> rfl

@[simp] theorem State.setPend_frame (k : Nat) (v : Slot) :
    (s.setPend k v).pending = s.pending ∧ (s.setPend k v).now = s.now ∧ (s.setPend k v).freeCount = s.freeCount
    ∧ (s.setPend k v).part = s.part ∧ (s.setPend k v).pins = s.pins ∧ (s.setPend k v).life = s.life
    ∧ (s.setPend k v).mram = s.mram ∧ (s.setPend k v).logs = s.logs ∧ (s.setPend k v).sched = s.sched
    ∧ (s.setPend k v).lanes = s.lanes ∧ (s.setPend k v).ports = s.ports ∧ (s.setPend k v).pipes = s.pipes
    ∧ (s.setPend k v).cause = s.cause ∧ (s.setPend k v).reef = s.reef ∧ (s.setPend k v).pieces = s.pieces
    ∧ (s.setPend k v).pieceNext = s.pieceNext ∧ (s.setPend k v).atoll = s.atoll ∧ (s.setPend k v).streams = s.streams
    ∧ (s.setPend k v).motion = s.motion ∧ (s.setPend k v).net = s.net ∧ (s.setPend k v).g6 = s.g6
    ∧ (s.setPend k v).ferry = s.ferry ∧ (s.setPend k v).harbour = s.harbour ∧ (s.setPend k v).pcie = s.pcie
    ∧ (s.setPend k v).power = s.power ∧ (s.setPend k v).maint = s.maint ∧ (s.setPend k v).sent = s.sent := by
  and_intros <;> rfl

@[simp] theorem State.modSource_frame (src : Source) (f : SourceState → SourceState) :
    (s.modSource src f).pending = s.pending ∧ (s.modSource src f).now = s.now
    ∧ (s.modSource src f).freeCount = s.freeCount ∧ (s.modSource src f).part = s.part
    ∧ (s.modSource src f).pins = s.pins ∧ (s.modSource src f).life = s.life ∧ (s.modSource src f).mram = s.mram
    ∧ (s.modSource src f).logs = s.logs ∧ (s.modSource src f).sched = s.sched ∧ (s.modSource src f).lanes = s.lanes
    ∧ (s.modSource src f).ports = s.ports ∧ (s.modSource src f).pipes = s.pipes ∧ (s.modSource src f).cause = s.cause
    ∧ (s.modSource src f).reef = s.reef ∧ (s.modSource src f).pieces = s.pieces
    ∧ (s.modSource src f).pieceNext = s.pieceNext ∧ (s.modSource src f).atoll = s.atoll
    ∧ (s.modSource src f).streams = s.streams ∧ (s.modSource src f).motion = s.motion ∧ (s.modSource src f).net = s.net
    ∧ (s.modSource src f).g6 = s.g6 ∧ (s.modSource src f).ferry = s.ferry ∧ (s.modSource src f).harbour = s.harbour
    ∧ (s.modSource src f).pcie = s.pcie ∧ (s.modSource src f).power = s.power ∧ (s.modSource src f).maint = s.maint
    ∧ (s.modSource src f).sent = s.sent := by
  and_intros <;> rfl

@[simp] theorem State.setOwner_frame (n : Nat) (o : Owner) :
    (s.setOwner n o).pending = s.pending ∧ (s.setOwner n o).now = s.now ∧ (s.setOwner n o).freeCount = s.freeCount
    ∧ (s.setOwner n o).part = s.part ∧ (s.setOwner n o).pins = s.pins ∧ (s.setOwner n o).life = s.life
    ∧ (s.setOwner n o).mram = s.mram ∧ (s.setOwner n o).logs = s.logs ∧ (s.setOwner n o).sched = s.sched
    ∧ (s.setOwner n o).lanes = s.lanes ∧ (s.setOwner n o).ports = s.ports ∧ (s.setOwner n o).pipes = s.pipes
    ∧ (s.setOwner n o).cause = s.cause ∧ (s.setOwner n o).reef = s.reef ∧ (s.setOwner n o).pieces = s.pieces
    ∧ (s.setOwner n o).pieceNext = s.pieceNext ∧ (s.setOwner n o).atoll = s.atoll
    ∧ (s.setOwner n o).streams = s.streams ∧ (s.setOwner n o).motion = s.motion ∧ (s.setOwner n o).net = s.net
    ∧ (s.setOwner n o).g6 = s.g6 ∧ (s.setOwner n o).ferry = s.ferry ∧ (s.setOwner n o).harbour = s.harbour
    ∧ (s.setOwner n o).pcie = s.pcie ∧ (s.setOwner n o).power = s.power ∧ (s.setOwner n o).maint = s.maint
    ∧ (s.setOwner n o).sent = s.sent := by
  and_intros <;> rfl

@[simp] theorem State.setMem_frame (m : Tbl Byte) :
    (s.setMem m).pending = s.pending ∧ (s.setMem m).now = s.now ∧ (s.setMem m).freeCount = s.freeCount
    ∧ (s.setMem m).part = s.part ∧ (s.setMem m).pins = s.pins ∧ (s.setMem m).life = s.life ∧ (s.setMem m).mram = s.mram
    ∧ (s.setMem m).dict = s.dict ∧ (s.setMem m).logs = s.logs ∧ (s.setMem m).sched = s.sched
    ∧ (s.setMem m).lanes = s.lanes ∧ (s.setMem m).ports = s.ports ∧ (s.setMem m).pipes = s.pipes
    ∧ (s.setMem m).cause = s.cause ∧ (s.setMem m).reef = s.reef ∧ (s.setMem m).pieces = s.pieces
    ∧ (s.setMem m).pieceNext = s.pieceNext ∧ (s.setMem m).atoll = s.atoll ∧ (s.setMem m).streams = s.streams
    ∧ (s.setMem m).motion = s.motion ∧ (s.setMem m).net = s.net ∧ (s.setMem m).ferry = s.ferry
    ∧ (s.setMem m).harbour = s.harbour ∧ (s.setMem m).pcie = s.pcie ∧ (s.setMem m).power = s.power
    ∧ (s.setMem m).maint = s.maint ∧ (s.setMem m).sent = s.sent := by
  and_intros <;> rfl

@[simp] theorem State.setMem_entries (m : Tbl Byte) (key : Nat) :
    (s.setMem m).val key = s.val key ∧ (s.setMem m).num key = s.num key ∧ (s.setMem m).flag key = s.flag key
    ∧ (s.setMem m).int key = s.int key ∧ (s.setMem m).lastVal key = s.lastVal key := by
  and_intros <;> rfl

@[simp] theorem State.store_frame (a : Nat) (bs : List Byte) :
    (s.store a bs).pending = s.pending ∧ (s.store a bs).now = s.now ∧ (s.store a bs).freeCount = s.freeCount
    ∧ (s.store a bs).part = s.part ∧ (s.store a bs).pins = s.pins ∧ (s.store a bs).life = s.life
    ∧ (s.store a bs).mram = s.mram ∧ (s.store a bs).dict = s.dict ∧ (s.store a bs).logs = s.logs
    ∧ (s.store a bs).sched = s.sched ∧ (s.store a bs).lanes = s.lanes ∧ (s.store a bs).ports = s.ports
    ∧ (s.store a bs).pipes = s.pipes ∧ (s.store a bs).cause = s.cause ∧ (s.store a bs).reef = s.reef
    ∧ (s.store a bs).pieces = s.pieces ∧ (s.store a bs).pieceNext = s.pieceNext ∧ (s.store a bs).atoll = s.atoll
    ∧ (s.store a bs).streams = s.streams ∧ (s.store a bs).motion = s.motion ∧ (s.store a bs).net = s.net
    ∧ (s.store a bs).ferry = s.ferry ∧ (s.store a bs).harbour = s.harbour ∧ (s.store a bs).pcie = s.pcie
    ∧ (s.store a bs).power = s.power ∧ (s.store a bs).maint = s.maint ∧ (s.store a bs).sent = s.sent := by
  and_intros <;> rfl

@[simp] theorem State.store_entries (a : Nat) (bs : List Byte) (key : Nat) :
    (s.store a bs).val key = s.val key ∧ (s.store a bs).num key = s.num key ∧ (s.store a bs).flag key = s.flag key
    ∧ (s.store a bs).int key = s.int key ∧ (s.store a bs).lastVal key = s.lastVal key := by
  and_intros <;> rfl

@[simp] theorem State.modChan_frame (c : Nat) (f : G6Chan → G6Chan) :
    (s.modChan c f).pending = s.pending ∧ (s.modChan c f).now = s.now ∧ (s.modChan c f).freeCount = s.freeCount
    ∧ (s.modChan c f).part = s.part ∧ (s.modChan c f).pins = s.pins ∧ (s.modChan c f).life = s.life
    ∧ (s.modChan c f).mram = s.mram ∧ (s.modChan c f).dict = s.dict ∧ (s.modChan c f).logs = s.logs
    ∧ (s.modChan c f).sched = s.sched ∧ (s.modChan c f).lanes = s.lanes ∧ (s.modChan c f).ports = s.ports
    ∧ (s.modChan c f).pipes = s.pipes ∧ (s.modChan c f).cause = s.cause ∧ (s.modChan c f).reef = s.reef
    ∧ (s.modChan c f).pieces = s.pieces ∧ (s.modChan c f).pieceNext = s.pieceNext ∧ (s.modChan c f).atoll = s.atoll
    ∧ (s.modChan c f).streams = s.streams ∧ (s.modChan c f).motion = s.motion ∧ (s.modChan c f).net = s.net
    ∧ (s.modChan c f).ferry = s.ferry ∧ (s.modChan c f).harbour = s.harbour ∧ (s.modChan c f).pcie = s.pcie
    ∧ (s.modChan c f).power = s.power ∧ (s.modChan c f).maint = s.maint ∧ (s.modChan c f).sent = s.sent := by
  and_intros <;> rfl

@[simp] theorem State.modChan_entries (c : Nat) (f : G6Chan → G6Chan) (key : Nat) :
    (s.modChan c f).val key = s.val key ∧ (s.modChan c f).num key = s.num key ∧ (s.modChan c f).flag key = s.flag key
    ∧ (s.modChan c f).int key = s.int key ∧ (s.modChan c f).lastVal key = s.lastVal key := by
  and_intros <;> rfl

@[simp] theorem State.setPort_frame (n : Nat) (p : Port) :
    (s.setPort n p).pending = s.pending ∧ (s.setPort n p).now = s.now ∧ (s.setPort n p).freeCount = s.freeCount
    ∧ (s.setPort n p).part = s.part ∧ (s.setPort n p).pins = s.pins ∧ (s.setPort n p).life = s.life
    ∧ (s.setPort n p).mram = s.mram ∧ (s.setPort n p).dict = s.dict ∧ (s.setPort n p).logs = s.logs
    ∧ (s.setPort n p).sched = s.sched ∧ (s.setPort n p).lanes = s.lanes ∧ (s.setPort n p).pipes = s.pipes
    ∧ (s.setPort n p).cause = s.cause ∧ (s.setPort n p).reef = s.reef ∧ (s.setPort n p).pieces = s.pieces
    ∧ (s.setPort n p).pieceNext = s.pieceNext ∧ (s.setPort n p).atoll = s.atoll ∧ (s.setPort n p).streams = s.streams
    ∧ (s.setPort n p).motion = s.motion ∧ (s.setPort n p).net = s.net ∧ (s.setPort n p).g6 = s.g6
    ∧ (s.setPort n p).ferry = s.ferry ∧ (s.setPort n p).harbour = s.harbour ∧ (s.setPort n p).pcie = s.pcie
    ∧ (s.setPort n p).power = s.power ∧ (s.setPort n p).maint = s.maint ∧ (s.setPort n p).sent = s.sent := by
  and_intros <;> rfl

@[simp] theorem State.setPort_entries (n : Nat) (p : Port) (key : Nat) :
    (s.setPort n p).val key = s.val key ∧ (s.setPort n p).num key = s.num key ∧ (s.setPort n p).flag key = s.flag key
    ∧ (s.setPort n p).int key = s.int key ∧ (s.setPort n p).lastVal key = s.lastVal key := by
  and_intros <;> rfl

@[simp] theorem State.modPort_frame (n : Nat) (f : Port → Port) :
    (s.modPort n f).pending = s.pending ∧ (s.modPort n f).now = s.now ∧ (s.modPort n f).freeCount = s.freeCount
    ∧ (s.modPort n f).part = s.part ∧ (s.modPort n f).pins = s.pins ∧ (s.modPort n f).life = s.life
    ∧ (s.modPort n f).mram = s.mram ∧ (s.modPort n f).dict = s.dict ∧ (s.modPort n f).logs = s.logs
    ∧ (s.modPort n f).sched = s.sched ∧ (s.modPort n f).lanes = s.lanes ∧ (s.modPort n f).pipes = s.pipes
    ∧ (s.modPort n f).cause = s.cause ∧ (s.modPort n f).reef = s.reef ∧ (s.modPort n f).pieces = s.pieces
    ∧ (s.modPort n f).pieceNext = s.pieceNext ∧ (s.modPort n f).atoll = s.atoll ∧ (s.modPort n f).streams = s.streams
    ∧ (s.modPort n f).motion = s.motion ∧ (s.modPort n f).net = s.net ∧ (s.modPort n f).g6 = s.g6
    ∧ (s.modPort n f).ferry = s.ferry ∧ (s.modPort n f).harbour = s.harbour ∧ (s.modPort n f).pcie = s.pcie
    ∧ (s.modPort n f).power = s.power ∧ (s.modPort n f).maint = s.maint ∧ (s.modPort n f).sent = s.sent := by
  and_intros <;> rfl

@[simp] theorem State.modPort_entries (n : Nat) (f : Port → Port) (key : Nat) :
    (s.modPort n f).val key = s.val key ∧ (s.modPort n f).num key = s.num key ∧ (s.modPort n f).flag key = s.flag key
    ∧ (s.modPort n f).int key = s.int key ∧ (s.modPort n f).lastVal key = s.lastVal key := by
  and_intros <;> rfl

@[simp] theorem State.modLane_frame (n : Nat) (f : Lane → Lane) :
    (s.modLane n f).pending = s.pending ∧ (s.modLane n f).now = s.now ∧ (s.modLane n f).freeCount = s.freeCount
    ∧ (s.modLane n f).part = s.part ∧ (s.modLane n f).pins = s.pins ∧ (s.modLane n f).life = s.life
    ∧ (s.modLane n f).mram = s.mram ∧ (s.modLane n f).dict = s.dict ∧ (s.modLane n f).logs = s.logs
    ∧ (s.modLane n f).sched = s.sched ∧ (s.modLane n f).ports = s.ports ∧ (s.modLane n f).pipes = s.pipes
    ∧ (s.modLane n f).cause = s.cause ∧ (s.modLane n f).reef = s.reef ∧ (s.modLane n f).pieces = s.pieces
    ∧ (s.modLane n f).pieceNext = s.pieceNext ∧ (s.modLane n f).atoll = s.atoll ∧ (s.modLane n f).streams = s.streams
    ∧ (s.modLane n f).motion = s.motion ∧ (s.modLane n f).net = s.net ∧ (s.modLane n f).g6 = s.g6
    ∧ (s.modLane n f).ferry = s.ferry ∧ (s.modLane n f).harbour = s.harbour ∧ (s.modLane n f).pcie = s.pcie
    ∧ (s.modLane n f).power = s.power ∧ (s.modLane n f).maint = s.maint ∧ (s.modLane n f).sent = s.sent := by
  and_intros <;> rfl

@[simp] theorem State.modLane_entries (n : Nat) (f : Lane → Lane) (key : Nat) :
    (s.modLane n f).val key = s.val key ∧ (s.modLane n f).num key = s.num key ∧ (s.modLane n f).flag key = s.flag key
    ∧ (s.modLane n f).int key = s.int key ∧ (s.modLane n f).lastVal key = s.lastVal key := by
  and_intros <;> rfl

@[simp] theorem State.modPipe_frame (p : Nat) (f : Pipe → Pipe) :
    (s.modPipe p f).pending = s.pending ∧ (s.modPipe p f).now = s.now ∧ (s.modPipe p f).freeCount = s.freeCount
    ∧ (s.modPipe p f).part = s.part ∧ (s.modPipe p f).pins = s.pins ∧ (s.modPipe p f).life = s.life
    ∧ (s.modPipe p f).mram = s.mram ∧ (s.modPipe p f).dict = s.dict ∧ (s.modPipe p f).logs = s.logs
    ∧ (s.modPipe p f).sched = s.sched ∧ (s.modPipe p f).lanes = s.lanes ∧ (s.modPipe p f).ports = s.ports
    ∧ (s.modPipe p f).cause = s.cause ∧ (s.modPipe p f).reef = s.reef ∧ (s.modPipe p f).pieces = s.pieces
    ∧ (s.modPipe p f).pieceNext = s.pieceNext ∧ (s.modPipe p f).atoll = s.atoll ∧ (s.modPipe p f).streams = s.streams
    ∧ (s.modPipe p f).motion = s.motion ∧ (s.modPipe p f).net = s.net ∧ (s.modPipe p f).g6 = s.g6
    ∧ (s.modPipe p f).ferry = s.ferry ∧ (s.modPipe p f).harbour = s.harbour ∧ (s.modPipe p f).pcie = s.pcie
    ∧ (s.modPipe p f).power = s.power ∧ (s.modPipe p f).maint = s.maint ∧ (s.modPipe p f).sent = s.sent := by
  and_intros <;> rfl

@[simp] theorem State.modPipe_entries (p : Nat) (f : Pipe → Pipe) (key : Nat) :
    (s.modPipe p f).val key = s.val key ∧ (s.modPipe p f).num key = s.num key ∧ (s.modPipe p f).flag key = s.flag key
    ∧ (s.modPipe p f).int key = s.int key ∧ (s.modPipe p f).lastVal key = s.lastVal key := by
  and_intros <;> rfl

@[simp] theorem State.send_frame (dest : SentTo) (data : List Byte) :
    (s.send dest data).pending = s.pending ∧ (s.send dest data).now = s.now ∧ (s.send dest data).freeCount = s.freeCount
    ∧ (s.send dest data).part = s.part ∧ (s.send dest data).pins = s.pins ∧ (s.send dest data).life = s.life
    ∧ (s.send dest data).mram = s.mram ∧ (s.send dest data).dict = s.dict ∧ (s.send dest data).logs = s.logs
    ∧ (s.send dest data).sched = s.sched ∧ (s.send dest data).lanes = s.lanes ∧ (s.send dest data).ports = s.ports
    ∧ (s.send dest data).pipes = s.pipes ∧ (s.send dest data).cause = s.cause ∧ (s.send dest data).reef = s.reef
    ∧ (s.send dest data).pieces = s.pieces ∧ (s.send dest data).pieceNext = s.pieceNext
    ∧ (s.send dest data).atoll = s.atoll ∧ (s.send dest data).streams = s.streams
    ∧ (s.send dest data).motion = s.motion ∧ (s.send dest data).net = s.net ∧ (s.send dest data).g6 = s.g6
    ∧ (s.send dest data).ferry = s.ferry ∧ (s.send dest data).harbour = s.harbour ∧ (s.send dest data).pcie = s.pcie
    ∧ (s.send dest data).power = s.power ∧ (s.send dest data).maint = s.maint := by
  and_intros <;> rfl

@[simp] theorem State.send_entries (dest : SentTo) (data : List Byte) (key : Nat) :
    (s.send dest data).val key = s.val key ∧ (s.send dest data).num key = s.num key ∧ (s.send dest data).flag key = s.flag key
    ∧ (s.send dest data).int key = s.int key ∧ (s.send dest data).lastVal key = s.lastVal key := by
  and_intros <;> rfl

@[simp] theorem State.raiseHm_frame (n : Nat) :
    (s.raiseHm n).pending = s.pending ∧ (s.raiseHm n).now = s.now ∧ (s.raiseHm n).freeCount = s.freeCount
    ∧ (s.raiseHm n).part = s.part ∧ (s.raiseHm n).pins = s.pins ∧ (s.raiseHm n).life = s.life
    ∧ (s.raiseHm n).mram = s.mram ∧ (s.raiseHm n).dict = s.dict ∧ (s.raiseHm n).logs = s.logs
    ∧ (s.raiseHm n).sched = s.sched ∧ (s.raiseHm n).lanes = s.lanes ∧ (s.raiseHm n).ports = s.ports
    ∧ (s.raiseHm n).pipes = s.pipes ∧ (s.raiseHm n).cause = s.cause ∧ (s.raiseHm n).reef = s.reef
    ∧ (s.raiseHm n).pieces = s.pieces ∧ (s.raiseHm n).pieceNext = s.pieceNext ∧ (s.raiseHm n).atoll = s.atoll
    ∧ (s.raiseHm n).streams = s.streams ∧ (s.raiseHm n).motion = s.motion ∧ (s.raiseHm n).net = s.net
    ∧ (s.raiseHm n).g6 = s.g6 ∧ (s.raiseHm n).ferry = s.ferry ∧ (s.raiseHm n).pcie = s.pcie
    ∧ (s.raiseHm n).power = s.power ∧ (s.raiseHm n).maint = s.maint ∧ (s.raiseHm n).sent = s.sent := by
  and_intros <;> rfl

@[simp] theorem State.raiseHm_entries (n : Nat) (key : Nat) :
    (s.raiseHm n).val key = s.val key ∧ (s.raiseHm n).num key = s.num key ∧ (s.raiseHm n).flag key = s.flag key
    ∧ (s.raiseHm n).int key = s.int key ∧ (s.raiseHm n).lastVal key = s.lastVal key := by
  and_intros <;> rfl

@[simp] theorem State.putWire_frame (code t : Nat) (mark : Bool) :
    (s.putWire code t mark).pending = s.pending ∧ (s.putWire code t mark).now = s.now
    ∧ (s.putWire code t mark).freeCount = s.freeCount ∧ (s.putWire code t mark).part = s.part
    ∧ (s.putWire code t mark).pins = s.pins ∧ (s.putWire code t mark).life = s.life
    ∧ (s.putWire code t mark).mram = s.mram ∧ (s.putWire code t mark).dict = s.dict
    ∧ (s.putWire code t mark).logs = s.logs ∧ (s.putWire code t mark).sched = s.sched
    ∧ (s.putWire code t mark).lanes = s.lanes ∧ (s.putWire code t mark).ports = s.ports
    ∧ (s.putWire code t mark).pipes = s.pipes ∧ (s.putWire code t mark).cause = s.cause
    ∧ (s.putWire code t mark).reef = s.reef ∧ (s.putWire code t mark).pieces = s.pieces
    ∧ (s.putWire code t mark).pieceNext = s.pieceNext ∧ (s.putWire code t mark).atoll = s.atoll
    ∧ (s.putWire code t mark).streams = s.streams ∧ (s.putWire code t mark).net = s.net
    ∧ (s.putWire code t mark).g6 = s.g6 ∧ (s.putWire code t mark).ferry = s.ferry
    ∧ (s.putWire code t mark).harbour = s.harbour ∧ (s.putWire code t mark).pcie = s.pcie
    ∧ (s.putWire code t mark).power = s.power ∧ (s.putWire code t mark).maint = s.maint
    ∧ (s.putWire code t mark).sent = s.sent := by
  and_intros <;> rfl

@[simp] theorem State.putWire_entries (code t : Nat) (mark : Bool) (key : Nat) :
    (s.putWire code t mark).val key = s.val key ∧ (s.putWire code t mark).num key = s.num key ∧ (s.putWire code t mark).flag key = s.flag key
    ∧ (s.putWire code t mark).int key = s.int key ∧ (s.putWire code t mark).lastVal key = s.lastVal key := by
  and_intros <;> rfl

@[simp] theorem State.takeWire_frame (code : Nat) :
    (s.takeWire code).pending = s.pending ∧ (s.takeWire code).now = s.now ∧ (s.takeWire code).freeCount = s.freeCount
    ∧ (s.takeWire code).part = s.part ∧ (s.takeWire code).pins = s.pins ∧ (s.takeWire code).life = s.life
    ∧ (s.takeWire code).mram = s.mram ∧ (s.takeWire code).dict = s.dict ∧ (s.takeWire code).logs = s.logs
    ∧ (s.takeWire code).sched = s.sched ∧ (s.takeWire code).lanes = s.lanes ∧ (s.takeWire code).ports = s.ports
    ∧ (s.takeWire code).pipes = s.pipes ∧ (s.takeWire code).cause = s.cause ∧ (s.takeWire code).reef = s.reef
    ∧ (s.takeWire code).pieces = s.pieces ∧ (s.takeWire code).pieceNext = s.pieceNext
    ∧ (s.takeWire code).atoll = s.atoll ∧ (s.takeWire code).streams = s.streams ∧ (s.takeWire code).net = s.net
    ∧ (s.takeWire code).g6 = s.g6 ∧ (s.takeWire code).ferry = s.ferry ∧ (s.takeWire code).harbour = s.harbour
    ∧ (s.takeWire code).pcie = s.pcie ∧ (s.takeWire code).power = s.power ∧ (s.takeWire code).maint = s.maint
    ∧ (s.takeWire code).sent = s.sent := by
  and_intros <;> rfl

@[simp] theorem State.takeWire_entries (code : Nat) (key : Nat) :
    (s.takeWire code).val key = s.val key ∧ (s.takeWire code).num key = s.num key ∧ (s.takeWire code).flag key = s.flag key
    ∧ (s.takeWire code).int key = s.int key ∧ (s.takeWire code).lastVal key = s.lastVal key := by
  and_intros <;> rfl

@[simp] theorem State.modSession_frame (i : Nat) (f : Session → Session) :
    (s.modSession i f).pending = s.pending ∧ (s.modSession i f).now = s.now ∧ (s.modSession i f).freeCount = s.freeCount
    ∧ (s.modSession i f).part = s.part ∧ (s.modSession i f).pins = s.pins ∧ (s.modSession i f).life = s.life
    ∧ (s.modSession i f).mram = s.mram ∧ (s.modSession i f).dict = s.dict ∧ (s.modSession i f).logs = s.logs
    ∧ (s.modSession i f).sched = s.sched ∧ (s.modSession i f).lanes = s.lanes ∧ (s.modSession i f).ports = s.ports
    ∧ (s.modSession i f).pipes = s.pipes ∧ (s.modSession i f).cause = s.cause ∧ (s.modSession i f).reef = s.reef
    ∧ (s.modSession i f).pieces = s.pieces ∧ (s.modSession i f).pieceNext = s.pieceNext
    ∧ (s.modSession i f).atoll = s.atoll ∧ (s.modSession i f).streams = s.streams
    ∧ (s.modSession i f).motion = s.motion ∧ (s.modSession i f).g6 = s.g6 ∧ (s.modSession i f).ferry = s.ferry
    ∧ (s.modSession i f).harbour = s.harbour ∧ (s.modSession i f).pcie = s.pcie ∧ (s.modSession i f).power = s.power
    ∧ (s.modSession i f).maint = s.maint ∧ (s.modSession i f).sent = s.sent := by
  and_intros <;> rfl

@[simp] theorem State.modSession_entries (i : Nat) (f : Session → Session) (key : Nat) :
    (s.modSession i f).val key = s.val key ∧ (s.modSession i f).num key = s.num key ∧ (s.modSession i f).flag key = s.flag key
    ∧ (s.modSession i f).int key = s.int key ∧ (s.modSession i f).lastVal key = s.lastVal key := by
  and_intros <;> rfl

@[simp] theorem State.queueRecord_frame (e : Option TroubleEntry) (r : RecRecord) :
    (s.queueRecord e r).pending = s.pending ∧ (s.queueRecord e r).now = s.now
    ∧ (s.queueRecord e r).freeCount = s.freeCount ∧ (s.queueRecord e r).part = s.part
    ∧ (s.queueRecord e r).pins = s.pins ∧ (s.queueRecord e r).life = s.life ∧ (s.queueRecord e r).mram = s.mram
    ∧ (s.queueRecord e r).dict = s.dict ∧ (s.queueRecord e r).sched = s.sched ∧ (s.queueRecord e r).lanes = s.lanes
    ∧ (s.queueRecord e r).ports = s.ports ∧ (s.queueRecord e r).pipes = s.pipes ∧ (s.queueRecord e r).cause = s.cause
    ∧ (s.queueRecord e r).reef = s.reef ∧ (s.queueRecord e r).pieces = s.pieces
    ∧ (s.queueRecord e r).pieceNext = s.pieceNext ∧ (s.queueRecord e r).atoll = s.atoll
    ∧ (s.queueRecord e r).streams = s.streams ∧ (s.queueRecord e r).motion = s.motion ∧ (s.queueRecord e r).net = s.net
    ∧ (s.queueRecord e r).g6 = s.g6 ∧ (s.queueRecord e r).ferry = s.ferry ∧ (s.queueRecord e r).harbour = s.harbour
    ∧ (s.queueRecord e r).pcie = s.pcie ∧ (s.queueRecord e r).power = s.power ∧ (s.queueRecord e r).maint = s.maint
    ∧ (s.queueRecord e r).sent = s.sent := by
  and_intros <;> rfl

@[simp] theorem State.queueRecord_entries (e : Option TroubleEntry) (r : RecRecord) (key : Nat) :
    (s.queueRecord e r).val key = s.val key ∧ (s.queueRecord e r).num key = s.num key ∧ (s.queueRecord e r).flag key = s.flag key
    ∧ (s.queueRecord e r).int key = s.int key ∧ (s.queueRecord e r).lastVal key = s.lastVal key := by
  and_intros <;> rfl

@[simp] theorem State.modLife_frame (f : Life → Life) :
    (s.modLife f).pending = s.pending ∧ (s.modLife f).now = s.now ∧ (s.modLife f).freeCount = s.freeCount
    ∧ (s.modLife f).part = s.part ∧ (s.modLife f).pins = s.pins ∧ (s.modLife f).mram = s.mram
    ∧ (s.modLife f).dict = s.dict ∧ (s.modLife f).logs = s.logs ∧ (s.modLife f).sched = s.sched
    ∧ (s.modLife f).lanes = s.lanes ∧ (s.modLife f).ports = s.ports ∧ (s.modLife f).pipes = s.pipes
    ∧ (s.modLife f).cause = s.cause ∧ (s.modLife f).reef = s.reef ∧ (s.modLife f).pieces = s.pieces
    ∧ (s.modLife f).pieceNext = s.pieceNext ∧ (s.modLife f).atoll = s.atoll ∧ (s.modLife f).streams = s.streams
    ∧ (s.modLife f).motion = s.motion ∧ (s.modLife f).net = s.net ∧ (s.modLife f).g6 = s.g6
    ∧ (s.modLife f).ferry = s.ferry ∧ (s.modLife f).harbour = s.harbour ∧ (s.modLife f).pcie = s.pcie
    ∧ (s.modLife f).power = s.power ∧ (s.modLife f).maint = s.maint ∧ (s.modLife f).sent = s.sent := by
  and_intros <;> rfl

@[simp] theorem State.modLife_entries (f : Life → Life) (key : Nat) :
    (s.modLife f).val key = s.val key ∧ (s.modLife f).num key = s.num key ∧ (s.modLife f).flag key = s.flag key
    ∧ (s.modLife f).int key = s.int key ∧ (s.modLife f).lastVal key = s.lastVal key := by
  and_intros <;> rfl

@[simp] theorem State.modPins_frame (f : Pins → Pins) :
    (s.modPins f).pending = s.pending ∧ (s.modPins f).now = s.now ∧ (s.modPins f).freeCount = s.freeCount
    ∧ (s.modPins f).part = s.part ∧ (s.modPins f).life = s.life ∧ (s.modPins f).mram = s.mram
    ∧ (s.modPins f).dict = s.dict ∧ (s.modPins f).logs = s.logs ∧ (s.modPins f).sched = s.sched
    ∧ (s.modPins f).lanes = s.lanes ∧ (s.modPins f).ports = s.ports ∧ (s.modPins f).pipes = s.pipes
    ∧ (s.modPins f).cause = s.cause ∧ (s.modPins f).reef = s.reef ∧ (s.modPins f).pieces = s.pieces
    ∧ (s.modPins f).pieceNext = s.pieceNext ∧ (s.modPins f).atoll = s.atoll ∧ (s.modPins f).streams = s.streams
    ∧ (s.modPins f).motion = s.motion ∧ (s.modPins f).net = s.net ∧ (s.modPins f).g6 = s.g6
    ∧ (s.modPins f).ferry = s.ferry ∧ (s.modPins f).harbour = s.harbour ∧ (s.modPins f).pcie = s.pcie
    ∧ (s.modPins f).power = s.power ∧ (s.modPins f).maint = s.maint ∧ (s.modPins f).sent = s.sent := by
  and_intros <;> rfl

@[simp] theorem State.modPins_entries (f : Pins → Pins) (key : Nat) :
    (s.modPins f).val key = s.val key ∧ (s.modPins f).num key = s.num key ∧ (s.modPins f).flag key = s.flag key
    ∧ (s.modPins f).int key = s.int key ∧ (s.modPins f).lastVal key = s.lastVal key := by
  and_intros <;> rfl

@[simp] theorem State.modMaint_frame (f : Maint → Maint) :
    (s.modMaint f).pending = s.pending ∧ (s.modMaint f).now = s.now ∧ (s.modMaint f).freeCount = s.freeCount
    ∧ (s.modMaint f).part = s.part ∧ (s.modMaint f).pins = s.pins ∧ (s.modMaint f).life = s.life
    ∧ (s.modMaint f).mram = s.mram ∧ (s.modMaint f).dict = s.dict ∧ (s.modMaint f).logs = s.logs
    ∧ (s.modMaint f).sched = s.sched ∧ (s.modMaint f).lanes = s.lanes ∧ (s.modMaint f).ports = s.ports
    ∧ (s.modMaint f).pipes = s.pipes ∧ (s.modMaint f).cause = s.cause ∧ (s.modMaint f).reef = s.reef
    ∧ (s.modMaint f).pieces = s.pieces ∧ (s.modMaint f).pieceNext = s.pieceNext ∧ (s.modMaint f).atoll = s.atoll
    ∧ (s.modMaint f).streams = s.streams ∧ (s.modMaint f).motion = s.motion ∧ (s.modMaint f).net = s.net
    ∧ (s.modMaint f).g6 = s.g6 ∧ (s.modMaint f).ferry = s.ferry ∧ (s.modMaint f).harbour = s.harbour
    ∧ (s.modMaint f).pcie = s.pcie ∧ (s.modMaint f).power = s.power ∧ (s.modMaint f).sent = s.sent := by
  and_intros <;> rfl

@[simp] theorem State.modMaint_entries (f : Maint → Maint) (key : Nat) :
    (s.modMaint f).val key = s.val key ∧ (s.modMaint f).num key = s.num key ∧ (s.modMaint f).flag key = s.flag key
    ∧ (s.modMaint f).int key = s.int key ∧ (s.modMaint f).lastVal key = s.lastVal key := by
  and_intros <;> rfl

@[simp] theorem State.modTrims_frame (f : Trims → Trims) :
    (s.modTrims f).pending = s.pending ∧ (s.modTrims f).now = s.now ∧ (s.modTrims f).freeCount = s.freeCount
    ∧ (s.modTrims f).part = s.part ∧ (s.modTrims f).pins = s.pins ∧ (s.modTrims f).life = s.life
    ∧ (s.modTrims f).dict = s.dict ∧ (s.modTrims f).logs = s.logs ∧ (s.modTrims f).sched = s.sched
    ∧ (s.modTrims f).lanes = s.lanes ∧ (s.modTrims f).ports = s.ports ∧ (s.modTrims f).pipes = s.pipes
    ∧ (s.modTrims f).cause = s.cause ∧ (s.modTrims f).reef = s.reef ∧ (s.modTrims f).pieces = s.pieces
    ∧ (s.modTrims f).pieceNext = s.pieceNext ∧ (s.modTrims f).atoll = s.atoll ∧ (s.modTrims f).streams = s.streams
    ∧ (s.modTrims f).motion = s.motion ∧ (s.modTrims f).net = s.net ∧ (s.modTrims f).g6 = s.g6
    ∧ (s.modTrims f).ferry = s.ferry ∧ (s.modTrims f).harbour = s.harbour ∧ (s.modTrims f).pcie = s.pcie
    ∧ (s.modTrims f).power = s.power ∧ (s.modTrims f).maint = s.maint ∧ (s.modTrims f).sent = s.sent := by
  and_intros <;> rfl

@[simp] theorem State.modTrims_entries (f : Trims → Trims) (key : Nat) :
    (s.modTrims f).val key = s.val key ∧ (s.modTrims f).num key = s.num key ∧ (s.modTrims f).flag key = s.flag key
    ∧ (s.modTrims f).int key = s.int key ∧ (s.modTrims f).lastVal key = s.lastVal key := by
  and_intros <;> rfl

@[simp] theorem State.modEncoder_frame (c : Nat) (f : Encoder → Encoder) :
    (s.modEncoder c f).pending = s.pending ∧ (s.modEncoder c f).now = s.now ∧ (s.modEncoder c f).freeCount = s.freeCount
    ∧ (s.modEncoder c f).part = s.part ∧ (s.modEncoder c f).pins = s.pins ∧ (s.modEncoder c f).life = s.life
    ∧ (s.modEncoder c f).mram = s.mram ∧ (s.modEncoder c f).dict = s.dict ∧ (s.modEncoder c f).logs = s.logs
    ∧ (s.modEncoder c f).sched = s.sched ∧ (s.modEncoder c f).lanes = s.lanes ∧ (s.modEncoder c f).ports = s.ports
    ∧ (s.modEncoder c f).pipes = s.pipes ∧ (s.modEncoder c f).cause = s.cause ∧ (s.modEncoder c f).reef = s.reef
    ∧ (s.modEncoder c f).pieces = s.pieces ∧ (s.modEncoder c f).pieceNext = s.pieceNext
    ∧ (s.modEncoder c f).atoll = s.atoll ∧ (s.modEncoder c f).streams = s.streams ∧ (s.modEncoder c f).net = s.net
    ∧ (s.modEncoder c f).g6 = s.g6 ∧ (s.modEncoder c f).ferry = s.ferry ∧ (s.modEncoder c f).harbour = s.harbour
    ∧ (s.modEncoder c f).pcie = s.pcie ∧ (s.modEncoder c f).power = s.power ∧ (s.modEncoder c f).maint = s.maint
    ∧ (s.modEncoder c f).sent = s.sent := by
  and_intros <;> rfl

@[simp] theorem State.modEncoder_entries (c : Nat) (f : Encoder → Encoder) (key : Nat) :
    (s.modEncoder c f).val key = s.val key ∧ (s.modEncoder c f).num key = s.num key ∧ (s.modEncoder c f).flag key = s.flag key
    ∧ (s.modEncoder c f).int key = s.int key ∧ (s.modEncoder c f).lastVal key = s.lastVal key := by
  and_intros <;> rfl

@[simp] theorem State.modCmp_frame (u : Nat) (f : Compare → Compare) :
    (s.modCmp u f).pending = s.pending ∧ (s.modCmp u f).now = s.now ∧ (s.modCmp u f).freeCount = s.freeCount
    ∧ (s.modCmp u f).part = s.part ∧ (s.modCmp u f).pins = s.pins ∧ (s.modCmp u f).life = s.life
    ∧ (s.modCmp u f).mram = s.mram ∧ (s.modCmp u f).dict = s.dict ∧ (s.modCmp u f).logs = s.logs
    ∧ (s.modCmp u f).sched = s.sched ∧ (s.modCmp u f).lanes = s.lanes ∧ (s.modCmp u f).ports = s.ports
    ∧ (s.modCmp u f).pipes = s.pipes ∧ (s.modCmp u f).cause = s.cause ∧ (s.modCmp u f).reef = s.reef
    ∧ (s.modCmp u f).pieces = s.pieces ∧ (s.modCmp u f).pieceNext = s.pieceNext ∧ (s.modCmp u f).atoll = s.atoll
    ∧ (s.modCmp u f).streams = s.streams ∧ (s.modCmp u f).net = s.net ∧ (s.modCmp u f).g6 = s.g6
    ∧ (s.modCmp u f).ferry = s.ferry ∧ (s.modCmp u f).harbour = s.harbour ∧ (s.modCmp u f).pcie = s.pcie
    ∧ (s.modCmp u f).power = s.power ∧ (s.modCmp u f).maint = s.maint ∧ (s.modCmp u f).sent = s.sent := by
  and_intros <;> rfl

@[simp] theorem State.modCmp_entries (u : Nat) (f : Compare → Compare) (key : Nat) :
    (s.modCmp u f).val key = s.val key ∧ (s.modCmp u f).num key = s.num key ∧ (s.modCmp u f).flag key = s.flag key
    ∧ (s.modCmp u f).int key = s.int key ∧ (s.modCmp u f).lastVal key = s.lastVal key := by
  and_intros <;> rfl

@[simp] theorem State.modTrg_frame (o : Nat) (f : TrigOut → TrigOut) :
    (s.modTrg o f).pending = s.pending ∧ (s.modTrg o f).now = s.now ∧ (s.modTrg o f).freeCount = s.freeCount
    ∧ (s.modTrg o f).part = s.part ∧ (s.modTrg o f).pins = s.pins ∧ (s.modTrg o f).life = s.life
    ∧ (s.modTrg o f).mram = s.mram ∧ (s.modTrg o f).dict = s.dict ∧ (s.modTrg o f).logs = s.logs
    ∧ (s.modTrg o f).sched = s.sched ∧ (s.modTrg o f).lanes = s.lanes ∧ (s.modTrg o f).ports = s.ports
    ∧ (s.modTrg o f).pipes = s.pipes ∧ (s.modTrg o f).cause = s.cause ∧ (s.modTrg o f).reef = s.reef
    ∧ (s.modTrg o f).pieces = s.pieces ∧ (s.modTrg o f).pieceNext = s.pieceNext ∧ (s.modTrg o f).atoll = s.atoll
    ∧ (s.modTrg o f).streams = s.streams ∧ (s.modTrg o f).net = s.net ∧ (s.modTrg o f).g6 = s.g6
    ∧ (s.modTrg o f).ferry = s.ferry ∧ (s.modTrg o f).harbour = s.harbour ∧ (s.modTrg o f).pcie = s.pcie
    ∧ (s.modTrg o f).power = s.power ∧ (s.modTrg o f).maint = s.maint ∧ (s.modTrg o f).sent = s.sent := by
  and_intros <;> rfl

@[simp] theorem State.modTrg_entries (o : Nat) (f : TrigOut → TrigOut) (key : Nat) :
    (s.modTrg o f).val key = s.val key ∧ (s.modTrg o f).num key = s.num key ∧ (s.modTrg o f).flag key = s.flag key
    ∧ (s.modTrg o f).int key = s.int key ∧ (s.modTrg o f).lastVal key = s.lastVal key := by
  and_intros <;> rfl

@[simp] theorem State.modEvChan_frame (k : Nat) (f : Channel → Channel) :
    (s.modEvChan k f).pending = s.pending ∧ (s.modEvChan k f).now = s.now ∧ (s.modEvChan k f).freeCount = s.freeCount
    ∧ (s.modEvChan k f).part = s.part ∧ (s.modEvChan k f).pins = s.pins ∧ (s.modEvChan k f).life = s.life
    ∧ (s.modEvChan k f).mram = s.mram ∧ (s.modEvChan k f).dict = s.dict ∧ (s.modEvChan k f).logs = s.logs
    ∧ (s.modEvChan k f).sched = s.sched ∧ (s.modEvChan k f).lanes = s.lanes ∧ (s.modEvChan k f).ports = s.ports
    ∧ (s.modEvChan k f).pipes = s.pipes ∧ (s.modEvChan k f).cause = s.cause ∧ (s.modEvChan k f).reef = s.reef
    ∧ (s.modEvChan k f).pieces = s.pieces ∧ (s.modEvChan k f).pieceNext = s.pieceNext
    ∧ (s.modEvChan k f).atoll = s.atoll ∧ (s.modEvChan k f).streams = s.streams ∧ (s.modEvChan k f).net = s.net
    ∧ (s.modEvChan k f).g6 = s.g6 ∧ (s.modEvChan k f).ferry = s.ferry ∧ (s.modEvChan k f).harbour = s.harbour
    ∧ (s.modEvChan k f).pcie = s.pcie ∧ (s.modEvChan k f).power = s.power ∧ (s.modEvChan k f).maint = s.maint
    ∧ (s.modEvChan k f).sent = s.sent := by
  and_intros <;> rfl

@[simp] theorem State.modEvChan_entries (k : Nat) (f : Channel → Channel) (key : Nat) :
    (s.modEvChan k f).val key = s.val key ∧ (s.modEvChan k f).num key = s.num key ∧ (s.modEvChan k f).flag key = s.flag key
    ∧ (s.modEvChan k f).int key = s.int key ∧ (s.modEvChan k f).lastVal key = s.lastVal key := by
  and_intros <;> rfl

@[simp] theorem State.modDomain_frame (d : Nat) (f : Domain → Domain) :
    (s.modDomain d f).pending = s.pending ∧ (s.modDomain d f).now = s.now ∧ (s.modDomain d f).freeCount = s.freeCount
    ∧ (s.modDomain d f).part = s.part ∧ (s.modDomain d f).pins = s.pins ∧ (s.modDomain d f).life = s.life
    ∧ (s.modDomain d f).mram = s.mram ∧ (s.modDomain d f).dict = s.dict ∧ (s.modDomain d f).logs = s.logs
    ∧ (s.modDomain d f).sched = s.sched ∧ (s.modDomain d f).lanes = s.lanes ∧ (s.modDomain d f).ports = s.ports
    ∧ (s.modDomain d f).pipes = s.pipes ∧ (s.modDomain d f).cause = s.cause ∧ (s.modDomain d f).reef = s.reef
    ∧ (s.modDomain d f).pieces = s.pieces ∧ (s.modDomain d f).pieceNext = s.pieceNext
    ∧ (s.modDomain d f).atoll = s.atoll ∧ (s.modDomain d f).streams = s.streams ∧ (s.modDomain d f).motion = s.motion
    ∧ (s.modDomain d f).g6 = s.g6 ∧ (s.modDomain d f).ferry = s.ferry ∧ (s.modDomain d f).harbour = s.harbour
    ∧ (s.modDomain d f).pcie = s.pcie ∧ (s.modDomain d f).power = s.power ∧ (s.modDomain d f).maint = s.maint
    ∧ (s.modDomain d f).sent = s.sent := by
  and_intros <;> rfl

@[simp] theorem State.modDomain_entries (d : Nat) (f : Domain → Domain) (key : Nat) :
    (s.modDomain d f).val key = s.val key ∧ (s.modDomain d f).num key = s.num key ∧ (s.modDomain d f).flag key = s.flag key
    ∧ (s.modDomain d f).int key = s.int key ∧ (s.modDomain d f).lastVal key = s.lastVal key := by
  and_intros <;> rfl

@[simp] theorem State.modPtp_frame (i : Nat) (f : Ptp → Ptp) :
    (s.modPtp i f).pending = s.pending ∧ (s.modPtp i f).now = s.now ∧ (s.modPtp i f).freeCount = s.freeCount
    ∧ (s.modPtp i f).part = s.part ∧ (s.modPtp i f).pins = s.pins ∧ (s.modPtp i f).life = s.life
    ∧ (s.modPtp i f).mram = s.mram ∧ (s.modPtp i f).dict = s.dict ∧ (s.modPtp i f).logs = s.logs
    ∧ (s.modPtp i f).sched = s.sched ∧ (s.modPtp i f).lanes = s.lanes ∧ (s.modPtp i f).ports = s.ports
    ∧ (s.modPtp i f).pipes = s.pipes ∧ (s.modPtp i f).cause = s.cause ∧ (s.modPtp i f).reef = s.reef
    ∧ (s.modPtp i f).pieces = s.pieces ∧ (s.modPtp i f).pieceNext = s.pieceNext ∧ (s.modPtp i f).atoll = s.atoll
    ∧ (s.modPtp i f).streams = s.streams ∧ (s.modPtp i f).motion = s.motion ∧ (s.modPtp i f).g6 = s.g6
    ∧ (s.modPtp i f).ferry = s.ferry ∧ (s.modPtp i f).harbour = s.harbour ∧ (s.modPtp i f).pcie = s.pcie
    ∧ (s.modPtp i f).power = s.power ∧ (s.modPtp i f).maint = s.maint ∧ (s.modPtp i f).sent = s.sent := by
  and_intros <;> rfl

@[simp] theorem State.modPtp_entries (i : Nat) (f : Ptp → Ptp) (key : Nat) :
    (s.modPtp i f).val key = s.val key ∧ (s.modPtp i f).num key = s.num key ∧ (s.modPtp i f).flag key = s.flag key
    ∧ (s.modPtp i f).int key = s.int key ∧ (s.modPtp i f).lastVal key = s.lastVal key := by
  and_intros <;> rfl

@[simp] theorem State.modNode_frame (k : Nat) (f : Node → Node) :
    (s.modNode k f).pending = s.pending ∧ (s.modNode k f).now = s.now ∧ (s.modNode k f).freeCount = s.freeCount
    ∧ (s.modNode k f).part = s.part ∧ (s.modNode k f).pins = s.pins ∧ (s.modNode k f).life = s.life
    ∧ (s.modNode k f).mram = s.mram ∧ (s.modNode k f).dict = s.dict ∧ (s.modNode k f).logs = s.logs
    ∧ (s.modNode k f).sched = s.sched ∧ (s.modNode k f).lanes = s.lanes ∧ (s.modNode k f).ports = s.ports
    ∧ (s.modNode k f).pipes = s.pipes ∧ (s.modNode k f).cause = s.cause ∧ (s.modNode k f).reef = s.reef
    ∧ (s.modNode k f).pieces = s.pieces ∧ (s.modNode k f).pieceNext = s.pieceNext ∧ (s.modNode k f).atoll = s.atoll
    ∧ (s.modNode k f).streams = s.streams ∧ (s.modNode k f).motion = s.motion ∧ (s.modNode k f).g6 = s.g6
    ∧ (s.modNode k f).ferry = s.ferry ∧ (s.modNode k f).harbour = s.harbour ∧ (s.modNode k f).pcie = s.pcie
    ∧ (s.modNode k f).power = s.power ∧ (s.modNode k f).maint = s.maint ∧ (s.modNode k f).sent = s.sent := by
  and_intros <;> rfl

@[simp] theorem State.modNode_entries (k : Nat) (f : Node → Node) (key : Nat) :
    (s.modNode k f).val key = s.val key ∧ (s.modNode k f).num key = s.num key ∧ (s.modNode k f).flag key = s.flag key
    ∧ (s.modNode k f).int key = s.int key ∧ (s.modNode k f).lastVal key = s.lastVal key := by
  and_intros <;> rfl

@[simp] theorem State.modFerry_frame (ch : Nat) (f : FerryChan → FerryChan) :
    (s.modFerry ch f).pending = s.pending ∧ (s.modFerry ch f).now = s.now ∧ (s.modFerry ch f).freeCount = s.freeCount
    ∧ (s.modFerry ch f).part = s.part ∧ (s.modFerry ch f).pins = s.pins ∧ (s.modFerry ch f).life = s.life
    ∧ (s.modFerry ch f).mram = s.mram ∧ (s.modFerry ch f).dict = s.dict ∧ (s.modFerry ch f).logs = s.logs
    ∧ (s.modFerry ch f).sched = s.sched ∧ (s.modFerry ch f).lanes = s.lanes ∧ (s.modFerry ch f).ports = s.ports
    ∧ (s.modFerry ch f).pipes = s.pipes ∧ (s.modFerry ch f).cause = s.cause ∧ (s.modFerry ch f).reef = s.reef
    ∧ (s.modFerry ch f).pieces = s.pieces ∧ (s.modFerry ch f).pieceNext = s.pieceNext
    ∧ (s.modFerry ch f).atoll = s.atoll ∧ (s.modFerry ch f).streams = s.streams ∧ (s.modFerry ch f).motion = s.motion
    ∧ (s.modFerry ch f).net = s.net ∧ (s.modFerry ch f).g6 = s.g6 ∧ (s.modFerry ch f).harbour = s.harbour
    ∧ (s.modFerry ch f).pcie = s.pcie ∧ (s.modFerry ch f).power = s.power ∧ (s.modFerry ch f).maint = s.maint
    ∧ (s.modFerry ch f).sent = s.sent := by
  and_intros <;> rfl

@[simp] theorem State.modFerry_entries (ch : Nat) (f : FerryChan → FerryChan) (key : Nat) :
    (s.modFerry ch f).val key = s.val key ∧ (s.modFerry ch f).num key = s.num key ∧ (s.modFerry ch f).flag key = s.flag key
    ∧ (s.modFerry ch f).int key = s.int key ∧ (s.modFerry ch f).lastVal key = s.lastVal key := by
  and_intros <;> rfl

@[simp] theorem State.modTarget_frame (t : Nat) (f : HmTarget → HmTarget) :
    (s.modTarget t f).pending = s.pending ∧ (s.modTarget t f).now = s.now ∧ (s.modTarget t f).freeCount = s.freeCount
    ∧ (s.modTarget t f).part = s.part ∧ (s.modTarget t f).pins = s.pins ∧ (s.modTarget t f).life = s.life
    ∧ (s.modTarget t f).mram = s.mram ∧ (s.modTarget t f).dict = s.dict ∧ (s.modTarget t f).logs = s.logs
    ∧ (s.modTarget t f).sched = s.sched ∧ (s.modTarget t f).lanes = s.lanes ∧ (s.modTarget t f).ports = s.ports
    ∧ (s.modTarget t f).pipes = s.pipes ∧ (s.modTarget t f).cause = s.cause ∧ (s.modTarget t f).reef = s.reef
    ∧ (s.modTarget t f).pieces = s.pieces ∧ (s.modTarget t f).pieceNext = s.pieceNext
    ∧ (s.modTarget t f).atoll = s.atoll ∧ (s.modTarget t f).streams = s.streams ∧ (s.modTarget t f).motion = s.motion
    ∧ (s.modTarget t f).net = s.net ∧ (s.modTarget t f).g6 = s.g6 ∧ (s.modTarget t f).ferry = s.ferry
    ∧ (s.modTarget t f).pcie = s.pcie ∧ (s.modTarget t f).power = s.power ∧ (s.modTarget t f).maint = s.maint
    ∧ (s.modTarget t f).sent = s.sent := by
  and_intros <;> rfl

@[simp] theorem State.modTarget_entries (t : Nat) (f : HmTarget → HmTarget) (key : Nat) :
    (s.modTarget t f).val key = s.val key ∧ (s.modTarget t f).num key = s.num key ∧ (s.modTarget t f).flag key = s.flag key
    ∧ (s.modTarget t f).int key = s.int key ∧ (s.modTarget t f).lastVal key = s.lastVal key := by
  and_intros <;> rfl

@[simp] theorem State.modEngine_frame (e : Nat) (f : Engine → Engine) :
    (s.modEngine e f).pending = s.pending ∧ (s.modEngine e f).now = s.now ∧ (s.modEngine e f).freeCount = s.freeCount
    ∧ (s.modEngine e f).part = s.part ∧ (s.modEngine e f).pins = s.pins ∧ (s.modEngine e f).life = s.life
    ∧ (s.modEngine e f).mram = s.mram ∧ (s.modEngine e f).dict = s.dict ∧ (s.modEngine e f).logs = s.logs
    ∧ (s.modEngine e f).sched = s.sched ∧ (s.modEngine e f).lanes = s.lanes ∧ (s.modEngine e f).ports = s.ports
    ∧ (s.modEngine e f).pipes = s.pipes ∧ (s.modEngine e f).cause = s.cause ∧ (s.modEngine e f).reef = s.reef
    ∧ (s.modEngine e f).pieces = s.pieces ∧ (s.modEngine e f).pieceNext = s.pieceNext
    ∧ (s.modEngine e f).atoll = s.atoll ∧ (s.modEngine e f).motion = s.motion ∧ (s.modEngine e f).net = s.net
    ∧ (s.modEngine e f).g6 = s.g6 ∧ (s.modEngine e f).ferry = s.ferry ∧ (s.modEngine e f).harbour = s.harbour
    ∧ (s.modEngine e f).pcie = s.pcie ∧ (s.modEngine e f).power = s.power ∧ (s.modEngine e f).maint = s.maint
    ∧ (s.modEngine e f).sent = s.sent := by
  and_intros <;> rfl

@[simp] theorem State.modEngine_entries (e : Nat) (f : Engine → Engine) (key : Nat) :
    (s.modEngine e f).val key = s.val key ∧ (s.modEngine e f).num key = s.num key ∧ (s.modEngine e f).flag key = s.flag key
    ∧ (s.modEngine e f).int key = s.int key ∧ (s.modEngine e f).lastVal key = s.lastVal key := by
  and_intros <;> rfl

@[simp] theorem State.modReef_frame (f : Reef → Reef) :
    (s.modReef f).pending = s.pending ∧ (s.modReef f).now = s.now ∧ (s.modReef f).freeCount = s.freeCount
    ∧ (s.modReef f).part = s.part ∧ (s.modReef f).pins = s.pins ∧ (s.modReef f).life = s.life
    ∧ (s.modReef f).mram = s.mram ∧ (s.modReef f).dict = s.dict ∧ (s.modReef f).logs = s.logs
    ∧ (s.modReef f).sched = s.sched ∧ (s.modReef f).lanes = s.lanes ∧ (s.modReef f).ports = s.ports
    ∧ (s.modReef f).pipes = s.pipes ∧ (s.modReef f).cause = s.cause ∧ (s.modReef f).pieces = s.pieces
    ∧ (s.modReef f).pieceNext = s.pieceNext ∧ (s.modReef f).atoll = s.atoll ∧ (s.modReef f).streams = s.streams
    ∧ (s.modReef f).motion = s.motion ∧ (s.modReef f).net = s.net ∧ (s.modReef f).g6 = s.g6
    ∧ (s.modReef f).ferry = s.ferry ∧ (s.modReef f).harbour = s.harbour ∧ (s.modReef f).pcie = s.pcie
    ∧ (s.modReef f).power = s.power ∧ (s.modReef f).maint = s.maint ∧ (s.modReef f).sent = s.sent := by
  and_intros <;> rfl

@[simp] theorem State.modReef_entries (f : Reef → Reef) (key : Nat) :
    (s.modReef f).val key = s.val key ∧ (s.modReef f).num key = s.num key ∧ (s.modReef f).flag key = s.flag key
    ∧ (s.modReef f).int key = s.int key ∧ (s.modReef f).lastVal key = s.lastVal key := by
  and_intros <;> rfl

@[simp] theorem State.modAtoll_frame (f : Atoll → Atoll) :
    (s.modAtoll f).pending = s.pending ∧ (s.modAtoll f).now = s.now ∧ (s.modAtoll f).freeCount = s.freeCount
    ∧ (s.modAtoll f).part = s.part ∧ (s.modAtoll f).pins = s.pins ∧ (s.modAtoll f).life = s.life
    ∧ (s.modAtoll f).mram = s.mram ∧ (s.modAtoll f).dict = s.dict ∧ (s.modAtoll f).logs = s.logs
    ∧ (s.modAtoll f).sched = s.sched ∧ (s.modAtoll f).lanes = s.lanes ∧ (s.modAtoll f).ports = s.ports
    ∧ (s.modAtoll f).pipes = s.pipes ∧ (s.modAtoll f).cause = s.cause ∧ (s.modAtoll f).reef = s.reef
    ∧ (s.modAtoll f).pieces = s.pieces ∧ (s.modAtoll f).pieceNext = s.pieceNext ∧ (s.modAtoll f).streams = s.streams
    ∧ (s.modAtoll f).motion = s.motion ∧ (s.modAtoll f).net = s.net ∧ (s.modAtoll f).g6 = s.g6
    ∧ (s.modAtoll f).ferry = s.ferry ∧ (s.modAtoll f).harbour = s.harbour ∧ (s.modAtoll f).pcie = s.pcie
    ∧ (s.modAtoll f).power = s.power ∧ (s.modAtoll f).maint = s.maint ∧ (s.modAtoll f).sent = s.sent := by
  and_intros <;> rfl

@[simp] theorem State.modAtoll_entries (f : Atoll → Atoll) (key : Nat) :
    (s.modAtoll f).val key = s.val key ∧ (s.modAtoll f).num key = s.num key ∧ (s.modAtoll f).flag key = s.flag key
    ∧ (s.modAtoll f).int key = s.int key ∧ (s.modAtoll f).lastVal key = s.lastVal key := by
  and_intros <;> rfl

@[simp] theorem State.modGeo_frame (n : Nat) (f : Geo → Geo) :
    (s.modGeo n f).pending = s.pending ∧ (s.modGeo n f).now = s.now ∧ (s.modGeo n f).freeCount = s.freeCount
    ∧ (s.modGeo n f).part = s.part ∧ (s.modGeo n f).pins = s.pins ∧ (s.modGeo n f).life = s.life
    ∧ (s.modGeo n f).mram = s.mram ∧ (s.modGeo n f).dict = s.dict ∧ (s.modGeo n f).logs = s.logs
    ∧ (s.modGeo n f).sched = s.sched ∧ (s.modGeo n f).lanes = s.lanes ∧ (s.modGeo n f).ports = s.ports
    ∧ (s.modGeo n f).pipes = s.pipes ∧ (s.modGeo n f).reef = s.reef ∧ (s.modGeo n f).pieces = s.pieces
    ∧ (s.modGeo n f).pieceNext = s.pieceNext ∧ (s.modGeo n f).atoll = s.atoll ∧ (s.modGeo n f).streams = s.streams
    ∧ (s.modGeo n f).motion = s.motion ∧ (s.modGeo n f).net = s.net ∧ (s.modGeo n f).g6 = s.g6
    ∧ (s.modGeo n f).ferry = s.ferry ∧ (s.modGeo n f).harbour = s.harbour ∧ (s.modGeo n f).pcie = s.pcie
    ∧ (s.modGeo n f).power = s.power ∧ (s.modGeo n f).maint = s.maint ∧ (s.modGeo n f).sent = s.sent := by
  and_intros <;> rfl

@[simp] theorem State.modGeo_entries (n : Nat) (f : Geo → Geo) (key : Nat) :
    (s.modGeo n f).val key = s.val key ∧ (s.modGeo n f).num key = s.num key ∧ (s.modGeo n f).flag key = s.flag key
    ∧ (s.modGeo n f).int key = s.int key ∧ (s.modGeo n f).lastVal key = s.lastVal key := by
  and_intros <;> rfl

@[simp] theorem State.modStrip_frame (k : Nat) (f : Strip → Strip) :
    (s.modStrip k f).pending = s.pending ∧ (s.modStrip k f).now = s.now ∧ (s.modStrip k f).freeCount = s.freeCount
    ∧ (s.modStrip k f).part = s.part ∧ (s.modStrip k f).pins = s.pins ∧ (s.modStrip k f).life = s.life
    ∧ (s.modStrip k f).mram = s.mram ∧ (s.modStrip k f).dict = s.dict ∧ (s.modStrip k f).logs = s.logs
    ∧ (s.modStrip k f).lanes = s.lanes ∧ (s.modStrip k f).ports = s.ports ∧ (s.modStrip k f).pipes = s.pipes
    ∧ (s.modStrip k f).cause = s.cause ∧ (s.modStrip k f).reef = s.reef ∧ (s.modStrip k f).pieces = s.pieces
    ∧ (s.modStrip k f).pieceNext = s.pieceNext ∧ (s.modStrip k f).atoll = s.atoll
    ∧ (s.modStrip k f).streams = s.streams ∧ (s.modStrip k f).motion = s.motion ∧ (s.modStrip k f).net = s.net
    ∧ (s.modStrip k f).g6 = s.g6 ∧ (s.modStrip k f).ferry = s.ferry ∧ (s.modStrip k f).harbour = s.harbour
    ∧ (s.modStrip k f).pcie = s.pcie ∧ (s.modStrip k f).power = s.power ∧ (s.modStrip k f).maint = s.maint
    ∧ (s.modStrip k f).sent = s.sent := by
  and_intros <;> rfl

@[simp] theorem State.modStrip_entries (k : Nat) (f : Strip → Strip) (key : Nat) :
    (s.modStrip k f).val key = s.val key ∧ (s.modStrip k f).num key = s.num key ∧ (s.modStrip k f).flag key = s.flag key
    ∧ (s.modStrip k f).int key = s.int key ∧ (s.modStrip k f).lastVal key = s.lastVal key := by
  and_intros <;> rfl

@[simp] theorem State.modCheck_frame (p : Nat) (f : Check → Check) :
    (s.modCheck p f).pending = s.pending ∧ (s.modCheck p f).now = s.now ∧ (s.modCheck p f).freeCount = s.freeCount
    ∧ (s.modCheck p f).part = s.part ∧ (s.modCheck p f).pins = s.pins ∧ (s.modCheck p f).life = s.life
    ∧ (s.modCheck p f).mram = s.mram ∧ (s.modCheck p f).dict = s.dict ∧ (s.modCheck p f).logs = s.logs
    ∧ (s.modCheck p f).lanes = s.lanes ∧ (s.modCheck p f).ports = s.ports ∧ (s.modCheck p f).pipes = s.pipes
    ∧ (s.modCheck p f).cause = s.cause ∧ (s.modCheck p f).reef = s.reef ∧ (s.modCheck p f).pieces = s.pieces
    ∧ (s.modCheck p f).pieceNext = s.pieceNext ∧ (s.modCheck p f).atoll = s.atoll
    ∧ (s.modCheck p f).streams = s.streams ∧ (s.modCheck p f).motion = s.motion ∧ (s.modCheck p f).net = s.net
    ∧ (s.modCheck p f).g6 = s.g6 ∧ (s.modCheck p f).ferry = s.ferry ∧ (s.modCheck p f).harbour = s.harbour
    ∧ (s.modCheck p f).pcie = s.pcie ∧ (s.modCheck p f).power = s.power ∧ (s.modCheck p f).maint = s.maint
    ∧ (s.modCheck p f).sent = s.sent := by
  and_intros <;> rfl

@[simp] theorem State.modCheck_entries (p : Nat) (f : Check → Check) (key : Nat) :
    (s.modCheck p f).val key = s.val key ∧ (s.modCheck p f).num key = s.num key ∧ (s.modCheck p f).flag key = s.flag key
    ∧ (s.modCheck p f).int key = s.int key ∧ (s.modCheck p f).lastVal key = s.lastVal key := by
  and_intros <;> rfl

/-! ## Dictionary values (02 R43, R46) -/

theorem State.val_eq (k : Nat) : s.val k = tblGet s.dict.vals (keyDefault k) k := by
  rw [← find_eq_tblGet, State.val]
  cases s.dict.vals.find? _ <;> rfl

/-- A value put in effect reads back. -/
@[simp] theorem State.val_setVal_same (k : Nat) (v : Slot) : (s.setVal k v).val k = v := by
  rw [State.val_eq]; exact tblGet_tblPut_same ..

/-- A value put in effect leaves every other entry alone. -/
theorem State.val_setVal_other {k m : Nat} (v : Slot) (h : m ≠ k) : (s.setVal k v).val m = s.val m := by
  simp only [State.val_eq, State.setVal]
  exact tblGet_tblPut_other _ _ _ v h

/-- A number below 2^64 put in effect reads back. -/
theorem State.num_setNum_same {k n : Nat} (h : n < 2 ^ 64) : (s.setNum k n).num k = n := by
  rw [State.num, State.setNum, State.val_setVal_same]
  exact Nat.mod_eq_of_lt h

/-- A number put in effect leaves every other entry alone. -/
theorem State.num_setNum_other {k m : Nat} (n : Nat) (h : m ≠ k) : (s.setNum k n).num m = s.num m := by
  simp [State.num, State.setNum, State.val_setVal_other s _ h]

/-- A value put in effect changes neither the pending values nor any other part of the dictionary (02 R34). -/
@[simp] theorem State.setVal_dict (k : Nat) (v : Slot) :
    (s.setVal k v).dict.pend = s.dict.pend ∧ (s.setVal k v).dict.blobs = s.dict.blobs
    ∧ (s.setVal k v).dict.pendBlobs = s.dict.pendBlobs ∧ (s.setVal k v).dict.sources = s.dict.sources
    ∧ (s.setVal k v).dict.owners = s.dict.owners ∧ (s.setVal k v).dict.journal = s.dict.journal
    ∧ (s.setVal k v).dict.nextSeq = s.dict.nextSeq ∧ (s.setVal k v).dict.held = s.dict.held := by
  and_intros <;> rfl

/-! ## Counters (log entry 11) -/

/-- A counter that stays inside its type rises by n. -/
theorem State.num_add_same {k n : Nat} (h : s.num k + n < pow2 (keyBits k)) (hb : keyBits k ≤ 64) :
    (s.add k n).num k = s.num k + n := by
  have hw : s.num k + n < 2 ^ 64 := Nat.lt_of_lt_of_le h (Nat.pow_le_pow_right (by decide) hb)
  simp only [State.add, h, if_true]
  exact State.num_setNum_same s hw

/-- A counter raised leaves every other entry alone. -/
theorem State.num_add_other {k m : Nat} (n : Nat) (h : m ≠ k) : (s.add k n).num m = s.num m := by
  simp only [State.add]
  split
  · exact State.num_setNum_other s _ h
  · rw [State.num_setNum_other _ _ h]; exact (State.stepFree_entries s m).2.1

/-! ## Ports (04) -/

@[simp] theorem State.port_modPort_same (n : Nat) (f : Port → Port) : (s.modPort n f).port n = f (s.port n) := by
  simp [State.port, State.modPort, State.setPort]

theorem State.port_modPort_other {n m : Nat} (f : Port → Port) (h : m ≠ n) : (s.modPort n f).port m = s.port m := by
  simp only [State.port, State.modPort, State.setPort]
  exact tblGet_tblPut_other _ _ _ _ h

/-! ## The queue and the step -/

@[simp] theorem State.setPending_setPending (q r : List Instr) : (s.setPending q).setPending r = s.setPending r := rfl

end Sys2Proof.Machine
end

