-- ==== Sys2Proof/Laws/Ops.lean ====
section
/-! SUPPORT. What each shared operation can do, said once: counters, bytes of the memory, the journal, the recorder and the
trouble log, notices to the supervisors, and a write of the dictionary. -/

namespace Sys2Proof.Machine

open Sys2Proof

variable (s : State)

/-! ## The parts of the state that a log or a notice leaves alone -/

/-- The state without its counters and free values, its dictionary, logs, field traffic, interrupt requests and what has left
the chip: what no log entry, notice or count touches. -/
def State.rest (s : State) : State :=
  { s with freeCount := 0, dict := {}, logs := {}, net := {}, harbour := {}, sent := [] }

/-- A state with the same rest differs from the other in those parts alone. -/
theorem State.eq_of_rest {s t : State} (h : t.rest = s.rest) :
    t = { s with freeCount := t.freeCount, dict := t.dict, logs := t.logs, net := t.net, harbour := t.harbour, sent := t.sent } := by
  cases s; cases t; simp only [State.rest, State.mk.injEq] at h; simp_all

/-- A fold over numbers keeps what each of its steps keeps. -/
theorem State.forN_keeps {β : Type} (g : State → β) (n : Nat) {f : State → Nat → State} (h : ∀ s i, g (f s i) = g s) :
    g (s.forN n f) = g s := by
  simp only [State.forN]
  generalize List.range n = l
  induction l generalizing s with
  | nil => rfl
  | cons i l ih => rw [List.foldl_cons, ih, h]

/-- A fold over a list keeps what each of its steps keeps. -/
theorem State.foldl_keeps {α β : Type} (g : State → β) (l : List α) {f : State → α → State} (h : ∀ s a, g (f s a) = g s) :
    g (l.foldl f s) = g s := by
  induction l generalizing s with
  | nil => rfl
  | cons a l ih => rw [List.foldl_cons, ih, h]

/-- A change made where a condition holds keeps what the change keeps. -/
theorem State.when_keeps {β : Type} (g : State → β) (b : Bool) {f : State → State} (h : ∀ s, g (f s) = g s) : g (s.when b f) = g s := by
  cases b
  · rfl
  · exact h s

/-! ## Counters (log entry 11) -/

/-- A counter raised changes the dictionary, and past its type the count of free values; nothing else. -/
theorem State.add_frame (k n : Nat) : s.add k n = { s with freeCount := (s.add k n).freeCount, dict := (s.add k n).dict } := by
  simp only [State.add]; split <;> rfl

/-- A counter that stays inside its type takes no free value. -/
theorem State.add_inside {k n : Nat} (h : s.num k + n < pow2 (keyBits k)) : s.add k n = s.setNum k (s.num k + n) := by
  simp [State.add, h]

@[simp] theorem State.rest_setVal (k : Nat) (v : Slot) : (s.setVal k v).rest = s.rest := rfl

@[simp] theorem State.rest_setNum (k n : Nat) : (s.setNum k n).rest = s.rest := rfl

@[simp] theorem State.rest_add (k n : Nat) : (s.add k n).rest = s.rest := by rw [State.add_frame]; rfl

@[simp] theorem State.rest_bump (k : Nat) : (s.bump k).rest = s.rest := State.rest_add s k 1

@[simp] theorem State.rest_bumpIf (b : Bool) (k : Nat) : (s.bumpIf b k).rest = s.rest := by
  cases b
  · rfl
  · exact State.rest_bump s k

/-! ## The memory (12 R349, R353) -/

/-- Bytes stored keep the canonical form. -/
theorem State.wf_store (a : Nat) (bs : List Byte) (h : Memory.wf s.g6.mem = true) : Memory.wf (s.store a bs).g6.mem = true :=
  Memory.wf_write a bs h

/-- Bytes stored at an address of either space keep the canonical form. -/
theorem State.wf_writeTo (a : Nat) (bs : List Byte) (h : Memory.wf s.g6.mem = true) : Memory.wf (s.writeTo a bs).g6.mem = true := by
  simp only [State.writeTo]
  split
  · exact h
  · split
    · exact h
    · exact State.wf_store s a bs h

/-- The memory as reset leaves it is in canonical form. -/
theorem State.wf_reset : Memory.wf State.reset.g6.mem = true := rfl

/-- Bytes stored read back, and every other byte reads as before. -/
theorem State.store_bytes (a : Nat) (bs : List Byte) :
    memRead (s.store a bs).g6.mem a bs.length = bs
    ∧ ∀ x, x < a ∨ a + bs.length ≤ x → memByte (s.store a bs).g6.mem x = memByte s.g6.mem x :=
  ⟨memRead_memWrite s.g6.mem a bs,
   fun _ h => h.elim (memByte_memWrite_below bs) (memByte_memWrite_above bs)⟩

/-- A unit marked uncorrectable stays so unless it is written whole. -/
theorem State.mem_store_bad (a : Nat) (bs : List Byte) (u : Nat) :
    u ∈ (s.store a bs).g6.bad ↔ u ∈ s.g6.bad ∧ ¬ (a ≤ 64 * u ∧ 64 * u + 64 ≤ a + bs.length) := by
  simp only [State.store, State.setMem, List.mem_filter, Bool.not_eq_true', and_congr_right_iff, Bool.and_eq_false_iff,
    decide_eq_false_iff_not]
  intro _; omega

/-! ## The journal (02 R64–R68) -/

/-- While the journal runs an entry comes first in it, with the next SEQ. -/
theorem State.journalStrip_on (src target : Nat) (value : Slot) (result : Nat) (strip : Option Nat) (h : s.life.logsOn = true) :
    (s.journalStrip src target value result strip).dict.nextSeq = s.dict.nextSeq + 1
    ∧ ∃ e : JournalEntry, (s.journalStrip src target value result strip).dict.journal.head? = some e
      ∧ e.seq = s.dict.nextSeq ∧ e.time = s.wNow ∧ e.source = src ∧ e.target = target ∧ e.value = value.toNat ∧ e.result = result := by
  simp only [State.journalStrip, h, if_true]
  exact ⟨trivial, _, rfl, rfl, rfl, rfl, rfl, rfl, rfl⟩

/-- Before it starts nothing is journalled. -/
theorem State.journalStrip_off (src target : Nat) (value : Slot) (result : Nat) (strip : Option Nat) (h : s.life.logsOn = false) :
    s.journalStrip src target value result strip = s := by simp [State.journalStrip, h]

/-- A journal entry changes the journal and its SEQ; no value, no claim, no other part. -/
theorem State.journalStrip_frame (src target : Nat) (value : Slot) (result : Nat) (strip : Option Nat) :
    let t := s.journalStrip src target value result strip
    t = { s with dict := { s.dict with journal := t.dict.journal, nextSeq := t.dict.nextSeq } } := by
  simp only [State.journalStrip]; split <;> rfl

@[simp] theorem State.journalStrip_vals (src target : Nat) (value : Slot) (result : Nat) (strip : Option Nat) :
    (s.journalStrip src target value result strip).dict.vals = s.dict.vals := by rw [State.journalStrip_frame]

@[simp] theorem State.rest_journalStrip (src target : Nat) (value : Slot) (result : Nat) (strip : Option Nat) :
    (s.journalStrip src target value result strip).rest = s.rest := by rw [State.journalStrip_frame]; rfl

@[simp] theorem State.rest_journalAdd (src target : Nat) (value : Slot) (result : Nat) :
    (s.journalAdd src target value result).rest = s.rest := State.rest_journalStrip s ..

@[simp] theorem State.rest_journalEvent (target value : Nat) : (s.journalEvent target value).rest = s.rest := State.rest_journalAdd s ..

/-! ## The recorder and the trouble log (15 R440–R446) -/

@[simp] theorem State.rest_startFlush : s.startFlush.rest = s.rest := by
  simp only [State.startFlush]
  split
  · rfl
  · split
    · rfl
    · rw [State.rest_bump]; rfl

@[simp] theorem State.rest_stageRecord (r : RecRecord) : (s.stageRecord r).rest = s.rest := by
  simp only [State.stageRecord]
  split
  · rw [State.rest_bump]
  · split
    · rw [State.rest_bump]; rfl
    · split
      · rw [State.rest_startFlush]; rfl
      · rfl

@[simp] theorem State.rest_stage (code unit detail : Nat) : (s.stage code unit detail).rest = s.rest := by
  simp only [State.stage]
  split
  · rfl
  · exact State.rest_stageRecord s _

@[simp] theorem State.rest_countQueueDrop (p : Nat) : (countQueueDrop p s).rest = s.rest := State.rest_bump s _

@[simp] theorem State.rest_sendField (p c : Nat) (f : Frame) : (s.sendField p c f (countQueueDrop p)).rest = s.rest := by
  simp only [State.sendField]
  split
  · rfl
  · split
    · rfl
    · exact State.rest_countQueueDrop s p

@[simp] theorem State.rest_sendSession (i cls msgType : Nat) (body : List Byte) : (s.sendSession i cls msgType body).rest = s.rest := by
  simp only [State.sendSession]
  split
  · rfl
  · rw [State.rest_sendField]; rfl

@[simp] theorem State.rest_notifySessions (b code : Nat) (data : List Byte) : (s.notifySessions b code data).rest = s.rest := by
  refine State.forN_keeps s State.rest 16 fun s i => ?_
  split
  · exact State.rest_sendSession s ..
  · rfl

@[simp] theorem State.rest_raiseHm (n : Nat) : (s.raiseHm n).rest = s.rest := rfl

@[simp] theorem State.rest_enterTrouble (e : TroubleEntry) (r : RecRecord) : (s.enterTrouble e r).rest = s.rest := by
  simp only [State.enterTrouble]
  repeat' split
  all_goals simp only [State.rest_stageRecord, State.rest_notifySessions, State.rest_raiseHm, State.rest_bump]
  all_goals rfl

@[simp] theorem State.rest_troubleStrip (code unit sev detail strip : Nat) :
    (s.troubleStrip code unit sev detail strip).rest = s.rest := by
  simp only [State.troubleStrip]
  split
  · split
    · rfl
    · exact State.rest_enterTrouble s ..
  · rfl

@[simp] theorem State.rest_trouble (code unit sev detail : Nat) : (s.trouble code unit sev detail).rest = s.rest :=
  State.rest_troubleStrip s ..

/-- All that a trouble log entry can touch. -/
theorem State.trouble_frame (code unit sev detail : Nat) :
    let t := s.trouble code unit sev detail
    t = { s with freeCount := t.freeCount, dict := t.dict, logs := t.logs, net := t.net, harbour := t.harbour, sent := t.sent } :=
  State.eq_of_rest (State.rest_trouble s ..)

@[simp] theorem State.rest_releaseRecords : s.releaseRecords.rest = s.rest := by
  simp only [State.releaseRecords]
  rw [State.foldl_keeps _ State.rest _ fun s w => ?_]
  · rfl
  · split
    · exact State.rest_enterTrouble s ..
    · exact State.rest_stageRecord s _

/-! ## Writes of the dictionary (02 R34, R42, R49, R64) -/

/-- What a source learns of its write touches the dictionary, the session's count and the count of free values. -/
theorem State.report_frame (src : Source) (k result seq : Nat) :
    let t := s.report src k result seq
    t = { s with freeCount := t.freeCount, dict := t.dict, net := t.net } := by
  cases src with
  | processor => rfl
  | host =>
    simp only [State.report]
    split
    · rfl
    · rw [State.bump, State.add_frame]; rfl
  | session i =>
    simp only [State.report]
    split <;> rfl

/-- A write waits while the dictionary is not served, and behind one that waits (02 R42, 13 R390). -/
theorem State.command_waits (src : Source) (k : Nat) (v : Slot) (extra : Slot → List Nat) (eff : Slot → State → State)
    (h : s.life.state ≠ .off) (hw : s.life.dictServed = false ∨ s.dict.held ≠ []) :
    s.command src k v extra eff = { s with dict := { s.dict with
      held := s.dict.held ++ [⟨src, BitVec.ofNat 16 (k / 256), BitVec.ofNat 8 (k % 256), naturalSize src k, v⟩] } } := by
  have hb : (!s.life.dictServed || !s.dict.held.isEmpty) = true := by
    rcases hw with h | h
    · simp [h]
    · simp [h]
  simp only [State.command, State.attempt, h, hb, if_true, if_false]

/-- In OFF nothing takes a write. -/
theorem State.command_off (src : Source) (k : Nat) (v : Slot) (extra : Slot → List Nat) (eff : Slot → State → State)
    (h : s.life.state = .off) : s.command src k v extra eff = s := by simp [State.command, State.attempt, h]

/-- An admitted write whose own checks pass is journalled, then has its effect, and its source is told (02 R34, R49, R64). -/
theorem State.command_accepted (src : Source) (k : Nat) (v : Slot) (extra : Slot → List Nat) (eff : Slot → State → State)
    (h : s.admits src k v) (hx : extra (writeValue src k (naturalSize src k) v) = []) :
    let w := writeValue src k (naturalSize src k) v
    s.command src k v extra eff
      = (eff w (s.journalStrip (Source.code src) k w 0 (s.writeStrip (keyAccess k)))).report src k 0 s.dict.nextSeq := by
  obtain ⟨⟨ho, hs, hh⟩, hf⟩ := h
  simp only [State.command, State.attempt, ho, hs, hh, hf, hx, State.conclude]
  rfl

/-- An admitted write that a check of its own refuses changes nothing but what its source learns, and the journal where a
refusal is journalled (02 R34, R49, R64). -/
theorem State.command_refused (src : Source) (k : Nat) (v : Slot) (extra : Slot → List Nat) (eff : Slot → State → State)
    (h : s.admits src k v) (hx : firstCode (extra (writeValue src k (naturalSize src k) v)) ≠ 0) :
    let w := writeValue src k (naturalSize src k) v
    let code := firstCode (extra w)
    s.command src k v extra eff
      = (if refusalJournalled k then s.journalAdd (Source.code src) k w code else s).report src k code 0 := by
  obtain ⟨⟨ho, hs, hh⟩, hf⟩ := h
  simp only [State.command, State.attempt, ho, hs, hh, hf, State.conclude, List.isEmpty_nil, Bool.not_true, Bool.or_self,
    Bool.false_eq_true, if_false, List.nil_append, hx]

/-- A write of a block whose checks pass is journalled, then has its effect (02 R51, R66). -/
theorem State.attemptBlock_accepted (src : Source) (k : Nat) (data : List Byte) (extra : List Nat) (eff : State → State)
    (hs : s.life.dictServed = true) (h : s.blockFails src k data = []) (hx : extra = []) :
    (s.attemptBlock src k data extra eff).state
      = (eff (s.journalStrip (Source.code src) k (blockValue data) 0 (s.writeStrip (keyAccess k)))).report src k 0 s.dict.nextSeq := by
  subst hx
  simp only [State.attemptBlock, hs, h, State.conclude]
  rfl

end Sys2Proof.Machine
end

