-- ==== Sys2Proof/Laws/Harbour.lean ====
section
/-! SUPPORT. What routing and signalling of the interrupts can touch, and what it leaves of every source (13 R394–R400). -/

namespace Sys2Proof.Machine

open Sys2Proof

variable (s : State)

/-- The state without what Harbourmaster's settling touches. -/
def State.hmRest (s : State) : State := { s with freeCount := 0, dict := {}, harbour := {}, pcie := { s.pcie with pba := [] }, sent := [] }

/-- The parts of a source that routing leaves alone: its request, service, further edge and level. -/
def HmSource.request (x : HmSource) : Bool × Bool × Bool × Bool := (x.pending, x.service, x.again, x.level)

@[simp] theorem State.hmRest_add (k n : Nat) : (s.add k n).hmRest = s.hmRest := by rw [State.add_frame]; rfl

@[simp] theorem State.hmRest_bump (k : Nat) : (s.bump k).hmRest = s.hmRest := State.hmRest_add s k 1

@[simp] theorem State.hmRest_modHm (host : Bool) (n : Nat) (f : HmSource → HmSource) : (s.modHm host n f).hmRest = s.hmRest := by
  cases host <;> rfl

@[simp] theorem State.hmRest_sendMsix (v : Nat) : (s.sendMsix v).hmRest = s.hmRest := by
  simp only [State.sendMsix]; split <;> rfl

@[simp] theorem State.hmRest_hmMessage (t : Nat) : (s.hmMessage t).hmRest = s.hmRest := State.hmRest_sendMsix s _

@[simp] theorem State.hmRest_hmDue (t : Nat) : (s.hmDue t).hmRest = s.hmRest := by
  simp only [State.hmDue]
  repeat' split
  · exact State.hmRest_hmMessage s t
  · rfl
  · exact State.hmRest_bump _ _

@[simp] theorem State.hmRest_hmRouteAll (host : Bool) : (s.hmRouteAll host).hmRest = s.hmRest :=
  State.foldl_keeps s State.hmRest _ fun s _ => State.hmRest_modHm s ..

@[simp] theorem State.hmRest_hmWake (host : Bool) : (s.hmWake host).hmRest = s.hmRest := by
  refine State.foldl_keeps s State.hmRest _ fun s n => ?_
  dsimp only
  have hb : ∀ ts : List Nat, ((ts.foldl (fun s t => s.bump (Key.hmWakeRequests t)) (s.modHm host n fun x => { x with waking := true }))).hmRest
      = s.hmRest := fun ts => by
    rw [State.foldl_keeps _ State.hmRest ts fun s t => State.hmRest_bump s _, State.hmRest_modHm]
  split
  · split
    · exact hb _
    · exact hb _
  · split
    · exact State.hmRest_modHm s ..
    · rfl

@[simp] theorem State.hmRest_hmSignal (t : Nat) : (s.hmSignal t).hmRest = s.hmRest := by
  simp only [State.hmSignal]
  repeat' split
  · rw [State.hmRest_hmDue]; rfl
  · rfl
  · rfl
  · rfl

@[simp] theorem State.hmRest_settleHm : s.settleHm.hmRest = s.hmRest := by
  simp only [State.settleHm]
  rw [State.forN_keeps _ State.hmRest 6 fun s t => State.hmRest_hmSignal s t, State.hmRest_hmWake, State.hmRest_hmWake,
    State.hmRest_hmRouteAll, State.hmRest_hmRouteAll]

/-- All that settling can touch: counts, sources and targets, the PBA, and messages that leave. -/
theorem State.settleHm_frame :
    s.settleHm = { s with freeCount := s.settleHm.freeCount, dict := s.settleHm.dict, harbour := s.settleHm.harbour,
                          pcie := { s.pcie with pba := s.settleHm.pcie.pba }, sent := s.settleHm.sent } := by
  have h := State.hmRest_settleHm s
  generalize s.settleHm = t at h ⊢
  have hp : { t.pcie with pba := [] } = { s.pcie with pba := [] } := congrArg State.pcie h
  have hq : t.pcie = { s.pcie with pba := t.pcie.pba } := by
    generalize t.pcie = q at hp ⊢
    generalize s.pcie = p at hp ⊢
    cases p; cases q; simp only [Pcie.mk.injEq] at hp ⊢; simp [hp]
  rw [← hq]
  cases s; cases t
  simp only [State.hmRest, State.mk.injEq] at h
  simp [h]

end Sys2Proof.Machine
end

