-- ==== Sys2Proof/Tests/Slice0.lean ====
section
/-! SUPPORT. The model's own tests: ill-formed commands that the checks refuse, worked examples of the spec, and a state and
operands that meet the hypotheses of each statement. -/

namespace Sys2Proof.Tests

set_option Elab.async false

open Sys2Proof Sys2Proof.Machine

/-! ## Helpers -/

/-- The machine in a state, with its dictionary served and its logs running. -/
def inState (d : DevState) : State :=
  { State.reset with life := { State.reset.life with state := d, dictServed := true, logsOn := true },
                     pins := { State.reset.pins with suppliesValid := true, sysResetN := true } }

/-- The machine in READY. -/
def ready : State := inState .ready

/-- The machine in RUN. -/
def running : State := inState .run

/-- Whether a command answers a next state of which p holds. -/
def gives (c : Instr) (s : State) (p : State → Bool) : Bool :=
  match exec c s with
  | .next t => p t
  | _ => false

/-- Whether a write is admitted. -/
def adm (s : State) (src : Source) (k : Nat) (v : Slot) : Bool :=
  decide (s.life.state ≠ .off) && s.life.dictServed && s.dict.held.isEmpty && (s.commonFails src k (naturalSize src k) v).isEmpty

/-- What `adm` tests is what the statements assume. -/
theorem adm_admits {s : State} {src : Source} {k : Nat} {v : Slot} (h : adm s src k v = true) : s.admits src k v := by
  simp only [adm, Bool.and_eq_true, decide_eq_true_eq, List.isEmpty_iff] at h
  exact ⟨⟨h.1.1.1, h.1.1.2, h.1.2⟩, h.2⟩

/-! ## Well-formed commands: each check refuses a command that breaks it -/

/-- A peer whose UDP port is too wide. -/
def badPeer : Peer := ⟨0, 0, 65536⟩

/-- A peer. -/
def somePeer : Peer := ⟨0, 0x0A000001, 40000⟩

theorem test_wf_refuses_boot_dictionary : [Instr.slotVerifyComplete false [] [], .initFail 65536 0 none, .initFail 0 4294967296 none,
    .saveComplete true 8388608, .dictWrite .host 0 0 0 0, .dictWrite .host 0 0 9 0, .rcRead .host 0 0 4 5].all (!·.wf) = true := by
  decide

theorem test_wf_refuses_camera : [Instr.alignmentMarker 0 [0] 0, .packetStart 0 0, .packetStart 0 65573, .linePacketHeader 0 [0],
    .tunnelRequest .host 0 [], .refStoreWriteData .host [], .nodeCmdWrite .host 0 [], .keyLoad .host []].all (!·.wf) = true := by
  decide

theorem test_wf_refuses_long_status : (Instr.statusPacket 0 (List.replicate 65573 0)).wf = false := by
  show decide ((List.replicate 65573 (0 : Byte)).length ≤ 65572) = false
  rw [List.length_replicate]; decide

theorem test_wf_refuses_long_response : (Instr.tunnelResponse 0 (List.replicate 65573 0)).wf = false := by
  show decide ((List.replicate 65573 (0 : Byte)).length ≤ 65572) = false
  rw [List.length_replicate]; decide

theorem test_wf_refuses_long_block : (Instr.keyLoad .host (List.replicate 65537 0)).wf = false := by
  show (decide (1 ≤ (List.replicate 65537 (0 : Byte)).length) && decide ((List.replicate 65537 (0 : Byte)).length ≤ 65536)) = false
  rw [List.length_replicate]; decide

theorem test_wf_refuses_long_echo : (Instr.icmpEcho somePeer 0 (List.replicate 1481 0)).wf = false := by
  show (somePeer.wf && decide (0 < pow2 32) && decide ((List.replicate 1481 (0 : Byte)).length ≤ 1480)) = false
  rw [List.length_replicate]; decide

theorem test_wf_refuses_long_payload : (Instr.linePacketEnd 0 (List.replicate 65537 0) 0 true).wf = false := by
  show decide ((List.replicate 65537 (0 : Byte)).length + 36 ≤ 65572) = false
  rw [List.length_replicate]; decide

theorem test_wf_refuses_long_datagram : (Instr.sessionOpen somePeer (List.replicate 1473 0)).wf = false := by
  show (somePeer.wf && decide ((List.replicate 1473 (0 : Byte)).length ≤ 1472)) = false
  rw [List.length_replicate]; decide

theorem test_wf_refuses_descriptors : [Instr.compressionUnitStart 0 [0] [], .compressionBufferFull 0 [0],
    .ferryFetchComplete 0 [0] false].all (!·.wf) = true := by decide

theorem test_wf_refuses_announce_arp : [Instr.ptpAnnounce 0 0 ⟨256, 0, 0, 0, 0⟩, .ptpAnnounce 0 0 ⟨0, 4294967296, 0, 0, 0⟩,
    .ptpAnnounce 0 0 ⟨0, 0, 256, 0, 0⟩, .ptpAnnounce 0 0 ⟨0, 0, 0, 18446744073709551616, 0⟩, .ptpAnnounce 0 0 ⟨0, 0, 0, 0, 65536⟩,
    .arpRequest 0 281474976710656 0 0, .arpRequest 0 0 4294967296 0, .arpRequest 0 0 0 4294967296,
    .icmpEcho badPeer 0 [], .icmpEcho somePeer 4294967296 [], .icmpEcho ⟨0, 4294967296, 0⟩ 0 []].all (!·.wf) = true := by decide

theorem test_wf_refuses_datagrams : [Instr.sessionOpen badPeer [], .dictRead badPeer [], .dictWriteJfp badPeer [], .retransmission badPeer [],
    .segInitDownload badPeer [], .segInitUpload badPeer [], .segInitAbort badPeer [], .segDataDownload badPeer [],
    .segDataRequest badPeer [], .cyclicIn badPeer [], .nodeAck badPeer [], .eventNotify badPeer []].all (!·.wf) = true := by decide

theorem test_wf_refuses_memory_host : [Instr.g6Access 0 17179869184 none 0 0 0 .none, .g6Access 0 0 (some (0, [])) 0 0 0 .none,
    .g6Access 0 0 (some (63, [1, 2])) 0 0 0 .none, .hmSourceEvent 0, .hmLevelFall 0, .bar2Read 4294967295 2 false,
    .bar2Write 4294967296 [1]].all (!·.wf) = true := by decide

theorem test_wf_refuses_measurements : [Instr.thermConversion [], .thermConversion (List.replicate 16 32768), .regulatorPoll [],
    .regulatorPoll (List.replicate 8 (some ⟨65536, 0, 0, 0⟩)), .regulatorPoll (List.replicate 8 (some ⟨0, 0, 0, 32768⟩)),
    .energySample [], .recorderFlushComplete [65536], .calBankComplete (List.replicate 9 none)].all (!·.wf) = true := by decide

theorem test_wf_takes_sound_commands : [Instr.saveComplete true 0, .dictWrite .host 0 0 8 0, .packetStart 0 40,
    .linePacketHeader 0 (zeros 32), .sessionOpen somePeer [], .g6Access 0 0 (some (0, [1])) 0 0 0 .none, .hmSourceEvent 1,
    .energySample [0, 0, 0, 0], .stripTick].all (·.wf) = true := by decide

/-! ## The queue, reset and the device states (01, 15) -/

theorem test_step_runs_front : step { ready with pending := [.lrefLoss false, .stripTick] }
    = exec (.lrefLoss false) { ready with pending := [.stripTick] } := by rfl

theorem test_idle_step : (match step State.reset with | .next t => t.now = 1 && t.life.state = .off | _ => false) = true := by
  decide +kernel

theorem test_missing_address_faults : (let s := ready.setNum Key.g6LocalTop 1023
    s.g6On && (match exec (.g6Access 0 16 none 0 0 0 .none) s with | .fault .noSuchLocalAddress => true | _ => false)) = true := by decide +kernel

theorem test_reset_memory_canonical : Memory.wf State.reset.g6.mem = true := by decide

theorem test_written_memory_canonical : Memory.wf ((State.reset.store 70 [1, 0, 2]).store 72 [0]).g6.mem = true := by decide

theorem test_reset_trigger_levels : ((List.range 40).map State.reset.trgLevel)
    = List.replicate 16 (some false) ++ List.replicate 24 none := by decide

/-- The machine with its supplies valid in BOOT. -/
def booting : State := { State.reset with life := { State.reset.life with state := .boot } }

theorem test_supplies_boot : gives (.suppliesValid true 1) State.reset (fun t => t.life.state = .boot && t.life.slotB
    && t.mram.powerCycles = 1 && t.mram.epoch = State.reset.mram.epoch + 1) = true := by decide +kernel

theorem test_supplies_low_or_again : (gives (.suppliesValid false 0) State.reset (fun t => t.life.state = .off && t.pins.suppliesValid)
    && gives (.suppliesValid true 0) ready (fun t => t = ready)) = true := by decide +kernel

theorem test_programming_hold : gives (.suppliesValid true 3) State.reset (fun t => t.life.state = .boot && !t.pins.faultN
    && t.pins.qspiHighZ) = true := by decide +kernel

theorem test_reset_release : (gives (.sysResetRelease 0) { State.reset with pins := { State.reset.pins with suppliesValid := true } }
      (fun t => t.life.state = .boot)
    && gives (.sysResetRelease 0) State.reset (fun t => t.life.state = .off && t.pins.sysResetN)
    && gives (.sysResetRelease 0) ready (fun t => t = ready)) = true := by decide +kernel

theorem test_supply_loss : gives .supplyLoss running (fun t => t.life.state = .off && !t.pins.suppliesValid && t.mram = running.mram)
    = true := by decide +kernel

theorem test_sys_reset : gives .sysResetAssert running (fun t => t.life.state = .off && t.pins.suppliesValid && !t.pins.sysResetN)
    = true := by decide +kernel

/-- The header of a slot image without body: magic, version 7, rollback 0, length 0 and the SHA-256 of nothing (15 R434). -/
def emptyHeader : List Byte :=
  leBytes 4 0x52504C31 ++ leBytes 4 7 ++ zeros 8
    ++ [0xe3, 0xb0, 0xc4, 0x42, 0x98, 0xfc, 0x1c, 0x14, 0x9a, 0xfb, 0xf4, 0xc8, 0x99, 0x6f, 0xb9, 0x24,
        0x27, 0xae, 0x41, 0xe4, 0x64, 0x9b, 0x93, 0x4c, 0xa4, 0x95, 0x99, 0x1b, 0x78, 0x52, 0xb8, 0x55] ++ zeros 208

theorem test_sha256_of_nothing : (emptyHeader.length = 256 && decide (sha256 [] = bytesAt emptyHeader 16 32)) = true := by
  decide +kernel

theorem test_slot_causes : (booting.slotCause true emptyHeader [] = 4 && booting.slotCause false (zeros 256) [] = 1
    && booting.slotCause false (emptyHeader.take 16 ++ zeros 240) [] = 2) = true := by decide +kernel

theorem test_first_slot_fails : gives (.slotVerifyComplete true [] []) booting (fun t => t.life.state = .boot && t.life.slotTried = 1
    && t.life.slotB) = true := by decide +kernel

theorem test_second_slot_fails : gives (.slotVerifyComplete true [] []) { booting with life := { booting.life with slotTried := 1 } }
    (fun t => t.life.state = .fault && t.life.bootCause = 4 && !t.pins.faultN && t.sent.length = 1) = true := by decide +kernel

theorem test_slot_outside_boot : gives (.slotVerifyComplete true [] []) ready (fun t => t = ready) = true := by decide +kernel

theorem test_init_complete : gives .initComplete (inState .init) (fun t => t.life.state = .ready && t.g6.mem = []
    && t.num Key.g6LocalTop = 24 * 1073741824 - 1) = true := by decide +kernel

theorem test_init_resumes : gives .initComplete { inState .init with life := { (inState .init).life with resumePending := true } }
    (fun t => t.life.state = .run) = true := by decide +kernel

theorem test_init_fails : (gives (.initFail 3 9 none) (inState .init) (fun t => t.life.state = .fault && t.life.bootCause = 5)
    && gives (.initFail 3 9 none) ready (fun t => t = ready) && gives .initComplete ready (fun t => t = ready)) = true := by
  decide +kernel

/-- READY with what RUN asks for: memory, no lookback ring, the web encoder, and leave to run without W. -/
def runReady : State :=
  (((ready.setNum Key.g6LocalTop (24 * 1073741824 - 1)).setNum Key.s0RingEn 0).setNum (Key.encEnable 0) 1).setNum Key.wFreeRunOk 1

theorem test_run_request : (adm runReady .host Key.stateRequest 4 && !runReady.changing && runReady.checkResult.isNone
    && gives (.stateRequestRun .host) runReady (fun t => t.life.state = .run && t.sched.strips.map (·.index) = [0]
      && t.num Key.hostLastResult = 0)) = true := by decide +kernel

/-- READY with the web encoder off. -/
def noEncoder : State := runReady.setNum (Key.encEnable 0) 0

theorem test_run_outside_ready : (adm running .host Key.stateRequest 4
    && gives (.stateRequestRun .host) running (fun t => t.life.state = .run && t.num Key.hostLastResult = 3)) = true := by
  decide +kernel

theorem test_run_check_fails : noEncoder.checkResult = some (Key.encEnable 0, 0x0A) := by decide +kernel

theorem test_ready_request : (adm running .host Key.stateRequest 3
    && gives (.stateRequestReady .host true) running (fun t => t.life.readyRequested && t.life.state = .run)
    && (inState .safe).mayLeaveSafe && gives (.stateRequestReady .host true) (inState .safe) (fun t => t.life.state = .init)
    && gives (.stateRequestReady .host true) (inState .fault) (fun t => t.life.state = .init)
    && gives (.stateRequestReady .host false) (inState .safe) (fun t => t.life.state = .safe && t.num Key.hostLastResult = 3)
    && gives (.stateRequestReady .host true) ready (fun t => t.life = ready.life)) = true := by decide +kernel

theorem test_safe_request : (adm running .host Key.stateRequest 6
    && gives (.stateRequestSafe .host) running (fun t => t.life.state = .safe)
    && gives (.stateRequestSafe .host) (inState .safe) (fun t => t.num Key.hostLastResult = 3)) = true := by decide +kernel

/-- RUN that has stopped at a strip whose work is done. -/
def drained : State :=
  { running with life := { running.life with draining := true }, sched := { running.sched with strips := [{ lineEnd := some 0 }] } }

theorem test_drain_ends : (drained.drainedStrip.isSome && gives .runDrainComplete drained (fun t => t.life.state = .ready
    && !t.life.draining && t.sched.strips = []) && gives .runDrainComplete ready (fun t => t = ready)) = true := by decide +kernel

theorem test_fault_entry : (gives (.faultEntry 0x16 0) running (fun t => t.life.state = .fault && t.life.faultFromRun
      && !t.pins.faultN && !t.life.recoverable)
    && gives (.faultEntry 0x31 3) ready (fun t => t.life.recoverable && t.life.lostDevice = some 3)
    && gives (.faultEntry 0x16 0) (inState .safe) (fun t => t.life.state = .safe)) = true := by decide +kernel

/-- FAULT after the loss of device 3. -/
def lostDevice3 : State := { inState .fault with life := { (inState .fault).life with recoverable := true, lostDevice := some 3 } }

theorem test_auto_resume : (let s := lostDevice3.setNum Key.autoResume 1
    s.resumeWaits && (activeChannels 8).length = 22 && gives .autoResume s (fun t => t.life.state = .init && t.num Key.g6ExcludeMask = 8)
    && gives .autoResume ready (fun t => t = ready)) = true := by decide +kernel

theorem test_pfail : (gives .pfail running (fun t => t.life.state = .safe && t.life.lanesStopped && t.mram.pfails = 1
      && t.logs.flushing.isSome)
    && gives .pfail booting (fun t => t.life.state = .boot && !t.pins.pfailN)) = true := by decide +kernel

/-! ## The dictionary (02) and the logs' readers (15) -/

theorem test_save_asked : (let s := { ready with dict := { ready.dict with saving := some ([], 1) } }
    adm s .host Key.saveCommand 1 && adm ready .host Key.saveCommand 1 && s.dict.saving.isSome && ready.dict.saving.isNone) = true := by
  decide +kernel

theorem test_save_ends : (let s := { ready with dict := { ready.dict with saving := some ([], 5) } }
    gives (.saveComplete true 0) s (fun t => t.num Key.saveStatus = 2 && t.mram.imageA.valid && t.mram.imageA.gen = 5)
    && gives (.saveComplete false 0) s (fun t => t.num Key.saveStatus = 3 && t.mram.imageA = s.mram.imageA)
    && gives (.saveComplete true 0) ready (fun t => t = ready)) = true := by decide +kernel

/-- READY with an image that sets `JournalSev`'s neighbour `WorldWidth` to 4096, and the entry at 100. -/
def withImage : State :=
  { ready.setNum Key.worldWidth 100 with mram := { ready.mram with
      imageA := { valid := true, gen := 9, entries := [⟨Key.worldWidth, leBytes 4 4096⟩] } } }

theorem test_restore_defaults : (adm withImage .host Key.restoreCommand 2
    && gives (.restoreDefaults .host) withImage (fun t => t.val Key.worldWidth = keyDefault Key.worldWidth)
    && gives (.restoreDefaults .host) { withImage with dict := { withImage.dict with saving := some ([], 1) } } (fun t =>
      t.num Key.hostLastResult = 8)
    && gives (.restoreDefaults .host) running (fun t => t.num Key.hostLastResult = 3)) = true := by decide +kernel

theorem test_restore_image : (adm withImage .host Key.restoreCommand 1
    && gives (.restoreImage .host) withImage (fun t => t.num Key.worldWidth = 4096
      && (t.dict.journal.head?.map (·.target)) = some 0xA01)
    && adm ready .host Key.restoreCommand 1 && ready.newestImage.isNone
    && gives (.restoreImage .host) ready (fun t => (t.dict.journal.head?.map (·.target)) = some 0xA02)
    && gives (.restoreImage .host) running (fun t => t.num Key.hostLastResult = 3)) = true := by decide +kernel

theorem test_write_in_run_waits : gives (.dictWrite .host 0x6480 4 8 77) running (fun t =>
    t.lastNum 0x648004 = 77 && t.val 0x648004 = running.val 0x648004 && (t.dict.journal.head?.map (·.stripLo)) = some 1) = true := by
  decide +kernel

theorem test_write_in_ready : gives (.dictWrite .host 0x6480 4 8 77) ready (fun t => t.num 0x648004 = 77 && t.lastNum 0x648004 = 77)
    = true := by decide +kernel

theorem test_write_refused : (gives (.dictWrite .host 0x6480 7 8 1) ready (fun t => t.num Key.hostLastResult = 2
      && t.num Key.hostRefusedCount = 1 && t.num Key.hostLastTarget = 0x648007)
    && gives (.dictWrite .host 0x7C00 1 8 0) ready (fun t => t.num Key.hostLastResult = 4 && t.num Key.ferryChainLimit = 0x10000)) = true := by
  decide +kernel

theorem test_write_rw : gives (.dictWrite .host 0x7C00 1 4 9) running (fun t => t.num Key.ferryChainLimit = 9) = true := by
  decide +kernel

theorem test_write_waits_unserved : (gives (.dictWrite .host 0x7C00 1 8 9) (inState .boot |> fun s => { s with life := { s.life with
      dictServed := false } }) (fun t => t.dict.held.length = 1 && t.num Key.ferryChainLimit = 0x10000)
    && gives (.dictWrite .host 0x7C00 1 8 9) State.reset (fun t => t = State.reset)) = true := by decide +kernel

theorem test_held_writes : (let s := { ready with dict := { ready.dict with held := [⟨.host, 0x7C00, 1, 8, 9⟩] } }
    gives .heldWritesApply s (fun t => t.num Key.ferryChainLimit = 9 && t.dict.held = [])
    && gives .heldWritesApply ready (fun t => t = ready) && gives .heldWritesApply State.reset (fun t => t = State.reset)) = true := by
  decide +kernel

theorem test_shadow_hold : (adm ready .host Key.shadowHold 1 && gives (.shadowHold .host 1) ready (fun t => t.flag Key.shadowHold)
    && (let s := (ready.setNum Key.shadowHold 1).setPend 0x648004 5
        adm s .host Key.shadowHold 0 && gives (.shadowHold .host 0) s (fun t => t.num 0x648004 = 5 && t.dict.pend = []))) = true := by
  decide +kernel

/-- RUN under a hold that has lasted its limit, with one value waiting. -/
def heldLong : State :=
  let s := ((running.setNum Key.shadowHold 1).setNum Key.shadowHoldLimit 3).setPend 0x648004 5
  { s with dict := { s.dict with holdTicks := 3 } }

theorem test_hold_limit : (heldLong.holdExpired && gives .shadowHoldLimit heldLong (fun t => t.dict.pend = [] && t.num 0x648004 = 5
      && t.dict.journal.any fun e => e.target = 0xB00 && e.value = 1)
    && gives .shadowHoldLimit ready (fun t => t = ready)) = true := by decide +kernel

theorem test_effective_query : (let s := running.setPend 0x648004 5
    adm s .host Key.effectiveQuery 0x648004 && gives (.effectiveQuery .host 0x648004) s (fun t =>
      (t.source .host).effTarget = 0x648004 && t.readValue .host Key.effectivePending = 1
        && t.readValue .host Key.effectiveValue = s.val 0x648004)
    && gives (.effectiveQuery .host 0x7C0001) s (fun t => t.readValue .host Key.effectivePending = 0)
    && gives (.effectiveQuery .host (BitVec.ofNat 32 (Key.knotMap 0))) s (fun t => t.num Key.hostLastResult = 5)
    && gives (.effectiveQuery .host 0x000102) s (fun t => t.num Key.hostLastResult = 1)) = true := by decide +kernel

theorem test_rc_read : (let s := running.setNum Key.ferryCplTimeoutCount 6
    gives (.rcRead .host 0x7C00 2 8 0) s (fun t => t.num Key.ferryCplTimeoutCount = 0
      && (t.sent.map (·.data)) = [leBytes 8 6])
    && gives (.rcRead .host 0x7C00 2 8 0) State.reset (fun t => t = State.reset)
    && gives (.rcRead .host 0x7C00 2 4 0) { s with life := { s.life with dictServed := false } }
        (fun t => t.dict = s.dict && (t.sent.map (·.data)) = [zeros 4])) = true := by decide +kernel

/-- READY with range 3 owned by session 0 under token 7. -/
def owned3 : State := { ready with dict := { ready.dict with owners := [(3, ⟨Source.code (.session 0), 7, none⟩)] } }

theorem test_claim : (adm ready .host Key.claimRange 3 && gives (.claimRange (.session 0) 4) owned3 (fun t =>
      ((t.owner 4).map (·.token)) = some 7 && t.owner 3 = owned3.owner 3)
    && gives (.claimRange (.session 0) 3) owned3 (fun t => t.dict.owners = owned3.dict.owners)
    && adm owned3 .host Key.claimRange 3 && gives (.claimRange .host 3) owned3 (fun t => t.num Key.hostLastResult = 6)) = true := by
  decide +kernel

theorem test_release_break : (adm owned3 (.session 0) Key.releaseRange 3
    && gives (.releaseRange (.session 0) 3) owned3 (fun t => (t.owner 3).isNone)
    && adm owned3 .host Key.releaseRange 3 && gives (.releaseRange .host 3) owned3 (fun t => t.num Key.hostLastResult = 6)
    && adm owned3 .host Key.breakRange 3 && gives (.breakRange .host 3) owned3 (fun t => (t.owner 3).isNone)
    && gives (.breakRange .host 4) owned3 (fun t => t.dict.owners = owned3.dict.owners)
    && gives (.releaseRange .host 4) owned3 (fun t => t.dict.owners = owned3.dict.owners)) = true := by decide +kernel

theorem test_reclaim : (adm owned3 .host Key.reclaimToken 7
    && gives (.reclaimToken .host 7) owned3 (fun t => ((t.owner 3).map (·.source)) = some (Source.code .host))
    && gives (.reclaimToken (.session 0) 7) owned3 (fun t => t.dict.owners = owned3.dict.owners)
    && gives (.reclaimToken .host 8) owned3 (fun t => t.num Key.hostLastResult = 4)) = true := by decide +kernel

theorem test_claims_lapse : gives (.claimHoldExpiry 0) { ready with dict := { ready.dict with
    owners := [(3, ⟨sessionCode 0, 7, some 0⟩), (4, ⟨sessionCode 0, 7, some 9⟩)] } } (fun t => t.dict.owners.map (·.1) = [4]) = true := by
  decide +kernel

theorem test_journal_read : (adm ready .host Key.journalReadSeq 0 && gives (.journalReadSeq .host 0) ready (fun t =>
      (t.source .host).journal.result = 0 && (t.source .host).journal.index = 0)
    && adm ready .host Key.troubleReadSeq 2 && gives (.troubleReadSeq .host 2) ready (fun t => (t.source .host).trouble.result = 2)
    && adm ready .host Key.recReadIndex 2 && gives (.recReadIndex .host 2) ready (fun t => (t.source .host).recorder.index = 2)) = true := by
  decide +kernel

theorem test_ledger_read : (adm ready .host (Key.ledgerReadSeq 1) 5
    && gives (.ledgerReadSeq .host 1 5) ready (fun t => (tblGet (t.source .host).ledger {} 1).result = 2)
    && gives (.ledgerReadSeq .host 1 5) (ready.setPort 1 { issued := true, nextSeq := 6, ledger := [(5, { valid := true, seq := 5 })] })
        (fun t => (tblGet (t.source .host).ledger {} 1).result = 0)) = true := by decide +kernel

/-- READY with one record staged for the recorder. -/
def staged1 : State := { ready with logs := { ready.logs with staged := [{}] }, now := 10000000000 }

theorem test_flush : (adm staged1 .host Key.recFlush 1 && gives (.recFlush .host 1) staged1 (fun t => t.logs.flushing = some (1, staged1.now)
      && t.num Key.recGeneration = staged1.num Key.recGeneration + 1)
    && gives .recorderFlushTimer staged1 (fun t => t.logs.flushing = some (1, staged1.now))
    && gives .recorderFlushTimer ready (fun t => t = ready)
    && (let s := { staged1 with logs := { staged1.logs with flushing := some (1, 0) } }
        gives (.recFlush .host 1) s (fun t => t.logs.flushAgain)
        && gives (.recorderFlushComplete []) s (fun t => t.logs.staged = [] && t.mram.recHead = s.mram.recHead + 1))
    && gives (.recFlush .host 1) { staged1 with logs := { staged1.logs with stopped := true } } (fun t => t.logs.flushing.isNone)
    && gives (.recorderFlushComplete []) ready (fun t => t = ready)) = true := by decide +kernel

theorem test_operating_seconds : (gives .operatingSecondsSave { ready with now := 60000000000 } (fun t =>
      t.logs.lastSecondSave = 60000000000 && t.mram.opSeconds = 60)
    && gives .operatingSecondsSave ready (fun t => t = ready)) = true := by decide +kernel

/-- The host's transfer copies set for a download of 32 bytes into `FieldClassMask`, or an upload of it. -/
def segReady (mode : Nat) : State :=
  ready.modSource .host fun _ =>
    { segTarget := Key.fieldClassMask, segMode := mode, segLength := 32, segCrc := crc32 (zeros 32) }

/-- RUN, a transfer of 32 zero bytes with n of them taken or given; `crc` is the CRC announced. -/
def segBusy (download : Bool) (n crc : Nat) : State :=
  let tr : Transfer := { target := Key.fieldClassMask, download := download, length := 32, crc := crc,
                         data := if download then zeros n else zeros 32, offset := n }
  let s := running.modSource .host fun _ => { segTarget := Key.fieldClassMask, segLength := 32, transfer := some tr }
  { s with now := 5 }

theorem test_seg_start : (adm (segReady 1) .host Key.segStart 1
    && gives (.segStart .host) (segReady 1) (fun t => ((t.source .host).transfer.map fun x => (x.download, x.length)) = some (true, 32))
    && adm (segReady 2) .host Key.segStart 1
    && gives (.segStart .host) (segReady 2) (fun t => ((t.source .host).transfer.map fun x => x.download) = some false)
    && adm (segBusy true 0 0) .host Key.segStart 1
    && gives (.segStart .host) (segBusy true 0 0) (fun t => t.num Key.hostLastResult = 8)
    && gives (.segStart .host) ready (fun t => t.num Key.hostLastResult = 1)) = true := by decide +kernel

theorem test_seg_abort : (adm (segBusy true 8 0) .host Key.segStart 2
    && gives (.segAbort .host) (segBusy true 8 0) (fun t => (t.source .host).transfer.isNone && (t.source .host).segResult = 0x0D)
    && gives (.segAbort .host) ready (fun t => t.dict.sources = ready.dict.sources)) = true := by decide +kernel

theorem test_seg_download : (adm (segBusy true 8 0) .host Key.segStep 8
    && gives (.segStepDownload .host 8) (segBusy true 8 0) (fun t => ((t.source .host).transfer.map (·.offset)) = some 16)
    && gives (.segStepDownload .host 24) (segBusy true 8 0) (fun t => (t.source .host).segResult = 0x0C)
    && gives (.segStepDownload .host 24) (segBusy true 8 (crc32 (zeros 32))) (fun t => (t.source .host).segResult = 0
      && t.lastBlob Key.fieldClassMask = zeros 32)
    && gives (.segStepDownload .host 2000) (segBusy true 8 0) (fun t => t.num Key.hostLastResult = 5)
    && gives (.segStepDownload .host 8) ready (fun t => t.num Key.hostLastResult = 0x0D)) = true := by decide +kernel

theorem test_seg_upload : (gives (.segStepUpload .host 8) (segBusy false 8 0) (fun t =>
      ((t.source .host).transfer.map (·.offset)) = some 16 && (t.source .host).slotBytes.take 8 = zeros 8)
    && gives (.segStepUpload .host 24) (segBusy false 8 0) (fun t => (t.source .host).segStatus = 2)
    && gives (.segStepUpload .host 8) ready (fun t => t.num Key.hostLastResult = 0x0D)) = true := by decide +kernel

theorem test_seg_timeout : (let s := { segBusy true 8 0 with now := 100000000000 }
    s.transferLate .host && gives (.segTimeout .host) s (fun t => (t.source .host).segResult = 0x0D && tblGet t.harbour.req 0 73 = 1)
    && gives (.segTimeout .host) (segBusy true 8 0) (fun t => t = segBusy true 8 0)) = true := by decide +kernel

/-! ## Ticks (03), lanes and links (04) -/

/-- RUN in time mode with strip 0 open since 0 and its tick due. -/
def tickDue0 : State :=
  let s := (running.setNum Key.tickSource 2).setNum Key.tickPeriod 1000000
  { s with now := 1000000, sched := { s.sched with strips := [{}] } }

/-! What a tick measures of the motion is a free value (log entry 22), so the kernel evaluates no state after one: these
tests show states in which a tick is taken. -/

theorem test_strip_tick_due : (tickDue0.ticking && tickDue0.sched.deferredAt.isNone && (tickDue0.takeWire 0x0060).tickDue false
    && tickDue0.sched.lastTick + tickMin ≤ tickDue0.now && tickDue0.lineStart = 0) = true := by decide +kernel

theorem test_early_tick_deferred : (let s := { tickDue0 with sched := { tickDue0.sched with lastTick := 999000 } }
    gives .stripTick s (fun t => t.sched.deferredAt = some 1015000 && t.num Key.deferredTickCount = 1 && t.num Key.stripIndex = 0))
    = true := by decide +kernel

theorem test_no_tick : (gives .stripTick ready (fun t => t = ready) && gives .stripTick { tickDue0 with now := 0 } (fun t =>
    t.num Key.stripIndex = 0)) = true := by decide +kernel

theorem test_tick_events_merge : (let s := (running.setNum Key.tickSource 3).putWire 0x0060 10 false
    let s := { s with sched := { s.sched with deferredAt := some 5 } }
    gives .stripTick s (fun t => t.num Key.mergedTickEvents = 1 && t.wire 0x0060 = [])) = true := by decide +kernel

theorem test_forced_tick : (let s := { tickDue0 with now := 16000000 }
    s.ticking && s.forcedDue && s.sched.lastTick + tickMin ≤ s.now
    && gives .forcedTick tickDue0 (fun t => t = tickDue0)) = true := by decide +kernel

theorem test_deferred_tick : (let s := { tickDue0 with sched := { tickDue0.sched with deferredAt := some 900000 } }
    s.ticking && 900000 ≤ s.now && gives .deferredTick { s with now := 800000 } (fun t => t.num Key.stripIndex = 0)
    && gives .deferredTick tickDue0 (fun t => t = tickDue0)) = true := by decide +kernel

/-- RUN with strip 0 done and strip 1 open, strip 0's deadline at d. -/
def doneAt (d : Nat) : State :=
  { running with now := 500, sched := { running.sched with strips := [{ lineEnd := some 0 }, { index := 1 }], deadlines := [(0, d)] } }

theorem test_strip_complete : ((doneAt 900).doneStrip.isSome && (doneAt 400).strayed { lineEnd := some 0 }
    && gives .stripComplete (doneAt 900) (fun t => t.sched.strips.map (·.index) = [1] && t.num Key.lateStripCount = 0)
    && gives .stripComplete (doneAt 400) (fun t => t.num Key.lateStripCount = 1)
    && gives .stripComplete ready (fun t => t = ready)) = true := by decide +kernel

/-- RUN with a check of pipeline 2 granted in strip 6. -/
def checking : State := { running with sched := { running.sched with checks := [(2, { granted := some 6 })] } }

theorem test_pipeline_check : (checking.flag (Key.pipelineInService 2) && gives (.pipelineCheck 2 true) checking (fun t =>
      t.num (Key.checkLastPass 2) = 6 && t.check 2 = {})
    && gives (.pipelineCheck 2 false) checking (fun t => !t.flag (Key.pipelineInService 2) && tblGet t.harbour.req 0 59 = 1)
    && gives (.pipelineCheck 3 false) checking (fun t => t = checking)) = true := by decide +kernel

/-- READY with port 1 in a state, and its lanes 4 to 7 in another, one logical lane each. -/
def withLanes (port : Nat) (st : LaneState) : State :=
  let bound : Tbl Lane := (List.range 4).map fun i => (4 + i, { state := st, logical := i })
  { (ready.setNum (Key.laneCount 1) 4) with ports := [(1, { state := port })], now := 1000000, lanes := bound }

theorem test_cdr_lock : ((withLanes 1 .cdr).laneBound 4 && gives (.laneCdrLock 4) (withLanes 1 .cdr) (fun t => (t.lane 4).state = .block)
    && gives (.laneCdrLock 4) (withLanes 1 .block) (fun t => t = withLanes 1 .block)) = true := by decide +kernel

theorem test_no_signal : (gives (.laneNoSignal 4) (withLanes 1 .cdr) (fun t => (t.lane 4).noSignal
      && (t.logs.trouble.head?.map fun e => (e.code, e.unit, e.detail)) = some (0x10, 4, 1))
    && gives (.laneNoSignal 4) { withLanes 1 .cdr with now := 999999 } (fun t => !(t.lane 4).noSignal)) = true := by decide +kernel

theorem test_block_lock_and_slip : (gives (.blockLock 4) (withLanes 1 .block) (fun t => (t.lane 4).state = .marker)
    && gives (.blockSlip 4) (withLanes 1 .block) (fun t => t.num (Key.headerErrors 1) = 16 && (t.lane 4).state = .block)
    && gives (.blockSlip 4) (withLanes 1 .marker) (fun t => t = withLanes 1 .marker)
    && gives (.markerTimeout 4) (withLanes 1 .marker) (fun t => (t.lane 4).state = .block && t.num (Key.markerErrors 1) = 1)) = true := by
  decide +kernel

/-- The alignment marker of logical lane i with BIP b (04 R104). -/
def marker (i b : Byte) : List Byte := [0xA5, 0x5A, i, b, 0x5A, 0xA5, ~~~i, ~~~b]

/-- READY with port 1 down, lanes 5 to 7 locked and lane 4 after its first marker. -/
def lastLane (missed : Nat) (st : LaneState) : State :=
  (withLanes 1 .locked).modLane 4 fun _ => { state := st, logical := 0, markers := 1, missed := missed }

theorem test_marker_locks : (gives (.alignmentMarker 4 (marker 0 7) 7) (lastLane 0 .marker) (fun t => (t.lane 4).state = .locked
      && (t.port 1).state = 2 && t.num (Key.bipErrors 1) = 0)
    && gives (.alignmentMarker 4 (marker 2 7) 6) (lastLane 0 .marker) (fun t => (t.lane 4).state = .marker && (t.lane 4).logical = 2
      && t.num (Key.bipErrors 1) = 1)
    && gives (.alignmentMarker 4 (zeros 8) 0) (lastLane 0 .marker) (fun t => (t.lane 4).markers = 0)) = true := by decide +kernel

theorem test_marker_in_locked : (gives (.alignmentMarker 4 (marker 0 7) 7) (lastLane 2 .locked) (fun t => (t.lane 4).missed = 0)
    && gives (.alignmentMarker 4 (zeros 8) 0) (lastLane 2 .locked) (fun t => (t.lane 4).missed = 3)
    && gives (.alignmentMarker 4 (zeros 8) 0) (lastLane 3 .locked) (fun t => (t.lane 4).state = .block && t.num (Key.markerErrors 1) = 1)
    && gives (.alignmentMarker 4 (zeros 8) 0) ready (fun t => t = ready)) = true := by decide +kernel

theorem test_lane_lost : (gives (.laneLost 4 false) (withLanes 4 .locked) (fun t => (t.port 1).state = 1 && (t.lane 4).state = .block
      && t.num (Key.linkDownCount 1) = 1 && t.num (Key.markerErrors 1) = 1)
    && gives (.laneLost 4 false) (withLanes 4 .marker) (fun t => t = withLanes 4 .marker)) = true := by decide +kernel

theorem test_deskew : (gives (.portDeskew 1 180) (withLanes 2 .locked) (fun t => (t.port 1).state = 3 && (t.port 1).limit = 512
      && t.num (Key.skew 1) = 180 && t.sent.map (·.dest) = [.downlink 1, .downlink 1])
    && gives (.portDeskew 1 181) (withLanes 2 .locked) (fun t => (t.port 1).state = 1 && (t.port 1).deskewFail = some 1000000)
    && gives (.portDeskew 1 0) (withLanes 3 .locked) (fun t => t = withLanes 3 .locked)) = true := by decide +kernel

theorem test_deskew_retry : (let s := (withLanes 1 .locked).modPort 1 fun p => { p with deskewFail := some 0 }
    gives (.deskewRetry 1) s (fun t => (t.port 1).state = 2 && (t.port 1).deskewFail.isNone)
    && gives (.deskewRetry 1) { s with now := 999999 } (fun t => (t.port 1).state = 1)
    && gives (.deskewRetry 1) ready (fun t => t = ready)) = true := by decide +kernel

theorem test_camera_silent : (let s := (withLanes 4 .locked).setNum (Key.camSilentTimeout 1) 1
    gives (.camSilentTimeout 1) s (fun t => (t.port 1).state = 5 && (t.logs.trouble.head?.map (·.code)) = some 0x13)
    && gives (.camSilentTimeout 1) { s with now := 999999 } (fun t => (t.port 1).state = 4)) = true := by decide +kernel

theorem test_power_l0 : (let s := (withLanes 0 .off).setNum (Key.portEnable 1) 1
    adm s .host (Key.portPowerRequest 1) 0 && gives (.portPowerL0 .host 1) s (fun t => (t.port 1).state = 1)
    && gives (.portPowerL0 .host 1) (s.modPort 1 fun p => { p with state := 6 }) (fun t => (t.port 1).state = 4)) = true := by decide +kernel

theorem test_power_l1_l2 : (let s := (withLanes 4 .locked).setNum (Key.portEnable 1) 1
    adm s .host (Key.portPowerRequest 1) 1 && gives (.portPowerL1 .host 1) s (fun t => (t.port 1).state = 6)
    && adm s .host (Key.portPowerRequest 1) 2
    && gives (.portPowerL2 .host 1) s (fun t => (t.port 1).state = 0 && (t.lane 5).state = .off)
    && gives (.portPowerL2 .host 1) { s with life := running.life } (fun t => (t.port 1).state = 4 && t.num Key.hostLastResult = 9)
    && gives (.portPowerL1 .host 1) { s with life := running.life } (fun t => (t.port 1).state = 4 && t.num Key.hostLastResult = 9)) = true := by
  decide +kernel

theorem test_power_up : (let s := (withLanes 1 .off).modPort 1 fun p => { p with poweredAt := some 0 }
    gives (.portPowerUpComplete 1) s (fun t => (t.lane 4).state = .cdr && (t.lane 7).state = .cdr && (t.port 1).poweredAt.isNone)
    && gives (.portPowerUpComplete 1) ready (fun t => t = ready)) = true := by decide +kernel

/-! ## Packets, triggers and the pixel pipelines (04, 05) -/

/-- RUN with port 0 active, mono 8-bit lines of 8 pixels under triggers, 100 credits and trigger 5 of the ledger open. -/
def streaming : State :=
  let s := (((running.setNum (Key.camLineLength 0) 8).setNum (Key.pixelFormat 0) 1).setNum (Key.triggerMode 0) 1).setNum (Key.portEnable 0) 1
  s.setPort 0 { state := 4, limit := 100, nextSeq := 6, issued := true,
                ledger := [(5, { valid := true, seq := 5, worldPos := 65536, trigTime := 77 })] }

/-- The machine with a packet of a length in reception on port 0. -/
def receiving (n : Nat) : State := streaming.modPort 0 fun p => { p with rx := some { length := n } }

/-- The header of the line packet of trigger 5 from port 0, flags given (04 R113). -/
def lineHeader (flags : Byte) : List Byte :=
  let h := [0x01, 0x00, 0x01, flags, 8, 0, 0, 0] ++ leBytes 4 5 ++ leBytes 4 40 ++ zeros 8 ++ leBytes 4 20
  h ++ leBytes 4 (crc32 h)

/-- The pixels of that line. -/
def linePixels : List Byte := [1, 2, 3, 4, 5, 6, 7, 8]

theorem test_packet_start : (streaming.decoding 0 && gives (.packetStart 0 44) streaming (fun t => ((t.port 0).rx.map (·.length)) = some 44
      && (t.port 0).consumed = 1 && (t.port 0).fill = 256)
    && gives (.packetStart 0 25601) streaming (fun t => (t.port 0).violated && t.num (Key.creditViolations 0) = 1
      && (t.port 0).limit = 201)
    && gives (.packetStart 0 65573) (streaming.modPort 0 fun p => { p with limit := 300 }) (fun t => t.num (Key.framingErrors 0) = 1)
    && gives (.packetStart 0 44) (receiving 300) (fun t => t.num (Key.framingErrors 0) = 1 && ((t.port 0).rx.map (·.length)) = some 44)
    && gives (.packetStart 0 44) ready (fun t => t = ready)) = true := by decide +kernel

theorem test_line_header_taken : (streaming.headOk 0 (lineHeader 1) && gives (.linePacketHeader 0 (lineHeader 1)) (receiving 44) (fun t =>
      ((t.port 0).buffer.map fun b => (b.head.seq, b.head.trigTime, b.head.worldPos, b.length)) = [(5, 77, 65536, 44)]
      && t.num (Key.linePackets 0) = 1 && ((t.port 0).rx.map (·.taken)) = some true)) = true := by decide +kernel

theorem test_line_header_dropped : (gives (.linePacketHeader 0 ([1] ++ zeros 31)) (receiving 44) (fun t => t.num (Key.hdrCrcErrors 0) = 1
      && ((t.port 0).rx.map (·.discard)) = some true && (t.port 0).limit = 101)
    && gives (.linePacketHeader 0 (zeros 32)) (receiving 44) (fun t => t.num (Key.framingErrors 0) = 1)
    && gives (.linePacketHeader 0 (lineHeader 1)) (receiving 48) (fun t => t.num (Key.framingErrors 0) = 1)
    && gives (.linePacketHeader 0 (lineHeader 0)) (receiving 44) (fun t => t.num (Key.modeMismatchCount 0) = 1)
    && gives (.linePacketHeader 0 (lineHeader 1)) { receiving 44 with life := ready.life } (fun t => t.num (Key.linesOutsideRun 0) = 1)
    && gives (.linePacketHeader 0 (lineHeader 1)) streaming (fun t => t = streaming)) = true := by decide +kernel

/-- The machine with the header of that line taken. -/
def headerTaken : State :=
  streaming.modPort 0 fun p =>
    let h : LineHead := { format := 1, triggered := true, pixels := 8, seq := 5, trigTime := 77, worldPos := 65536 }
    { p with rx := some { length := 44, matched := some h, taken := true }, buffer := [{ head := h, length := 44 }] }

theorem test_line_end : (gives (.linePacketEnd 0 linePixels (BitVec.ofNat 32 (crc32 linePixels)) true) headerTaken (fun t =>
      ((t.port 0).buffer.map fun b => (b.payload, b.crcOk)) = [(some linePixels, true)]
      && ((t.port 0).entry 5).planes = 1)
    && gives (.linePacketEnd 0 linePixels 0 true) headerTaken (fun t => t.num (Key.payloadCrcErrors 0) = 1 && ((t.port 0).entry 5).planes = 0)
    && gives (.linePacketEnd 0 linePixels 0 true) (receiving 44) (fun t => t.num (Key.framingErrors 0) = 1)) = true := by decide +kernel

/-- A status packet with the given status bits, 3 lines held and 9 dropped (04 R115). -/
def statusOf (bits : Nat) : List Byte :=
  let h := [0x02, 0x00] ++ leBytes 2 bits ++ leBytes 4 3 ++ leBytes 4 9 ++ zeros 16
  h ++ leBytes 4 (crc32 h)

theorem test_status_packet : (gives (.statusPacket 0 (statusOf 1)) (receiving 32) (fun t => t.num (Key.camStatus 0) = 1
      && t.num (Key.camLinesHeld 0) = 3 && t.num (Key.camLinesDropped 0) = 9)
    && gives (.statusPacket 0 (statusOf 1)) ((receiving 32).modPort 0 fun p => { p with state := 3 }) (fun t => (t.port 0).state = 4
      && t.num (Key.linkUpCount 0) = 1)
    && gives (.statusPacket 0 ((statusOf 1).take 28 ++ zeros 4)) (receiving 32) (fun t => t.num (Key.hdrCrcErrors 0) = 1)
    && gives (.statusPacket 0 [2]) (receiving 32) (fun t => t.num (Key.framingErrors 0) = 1)) = true := by decide +kernel

theorem test_credit_packets : (let s := { streaming.modPort 0 fun p => { p with creditDue := true } with now := 100000 }
    s.linked 0 && gives (.creditPacket 0) s (fun t => t.sent.map (fun x => (x.dest, fieldAt x.data 4 4)) = [(.downlink 0, 100)]
      && !(t.port 0).creditDue)
    && gives (.creditPacket 0) streaming (fun t => t = streaming)
    && gives (.creditPacketPeriodic 0) s (fun t => t.sent.length = 1) && gives (.creditPacketPeriodic 0) streaming (fun t => t = streaming)
    && gives (.timeBeacon 0) { s with now := 100000000 } (fun t => (t.port 0).beaconSeq = 1 && t.sent.length = 1)
    && gives (.timeBeacon 0) { s with now := 1 } (fun t => t.sent = [])) = true := by decide +kernel

theorem test_tunnel_request : ((streaming.blockFails .host (Key.tunnelRequest 0) [9, 9]).isEmpty
    && gives (.tunnelRequest .host 0 [9, 9]) streaming (fun t => t.num (Key.tunnelStatus 0) = 1 && (t.port 0).tunTag = 1
      && t.sent.map (·.data) = [tunnelBytes 0x14 1 [9, 9]])
    && gives (.tunnelRequest .host 0 [9, 9]) (streaming.setNum (Key.tunnelStatus 0) 1) (fun t => t.num Key.hostLastResult = 8)
    && gives (.tunnelRequest .host 0 [9, 9]) ready (fun t => t.num (Key.tunnelStatus 0) = 4)) = true := by decide +kernel

theorem test_tunnel_response : (let p := tunnelBytes 4 0 [7, 8, 9]
    let s := ((receiving p.length).setNum (Key.tunnelStatus 0) 1).modPort 0 fun x => { x with tunSent := some 0 }
    gives (.tunnelResponse 0 p) s (fun t => t.num (Key.tunnelStatus 0) = 2 && t.blob (Key.tunnelResponse 0) = [7, 8, 9])
    && gives (.tunnelResponse 0 p) (s.modPort 0 fun x => { x with tunTag := 1 }) (fun t => t.num (Key.tunnelStatus 0) = 1)
    && gives (.tunnelResponse 0 (p.take (p.length - 4) ++ zeros 4)) s (fun t => t.num (Key.hdrCrcErrors 0) = 1)
    && gives (.tunnelTimeout 0) { s with now := 1000000 * s.num (Key.tunnelTimeout 0) } (fun t => t.num (Key.tunnelStatus 0) = 3)
    && gives (.tunnelTimeout 0) { s with now := 1 } (fun t => t.num (Key.tunnelStatus 0) = 1)
    && gives (.tunnelTimeout 0) ready (fun t => t = ready)) = true := by decide +kernel

theorem test_line_trigger_too_soon : (let s := (streaming.modPort 0 fun p => { p with lastTrig := some 50 }).putWire 0x20 149 false
    gives (.lineTrigger 0) s (fun t => t.num (Key.triggerMergedCount 0) = 1 && (t.port 0).nextSeq = 6)
    && gives (.lineTrigger 0) { s with life := ready.life } (fun t => (t.port 0).nextSeq = 6)
    && gives (.lineTrigger 0) streaming (fun t => t = streaming)) = true := by decide +kernel

theorem test_line_trigger_taken : (let s := (streaming.modPort 0 fun p => { p with lastTrig := some 50 }).putWire 0x20 150 false
    s.inRun && !s.life.draining && s.wire 0x20 = [(150, false)]) = true := by decide +kernel

theorem test_ledger_timeout : (let s := { streaming with now := 1000 * streaming.num (Key.trigLineTimeout 0) }
    gives (.ledgerEntryTimeout 0 5) s (fun t => ((t.port 0).entry 5).lost && t.num (Key.linesLost 0) = 1)
    && gives (.ledgerEntryTimeout 0 5) streaming (fun t => t = streaming)) = true := by decide +kernel

/-- The machine with the line of trigger 5 in the buffer of port 0. -/
def buffered : State :=
  headerTaken.modPort 0 fun p => { p with rx := none, buffer := p.buffer.map fun b => { b with payload := some linePixels, crcOk := true } }

theorem test_plane_process : (buffered.flag (Key.pipelineInService 0) && buffered.nextPort 0 = some 0
    && gives (.planeProcess 0) buffered (fun t => (t.port 0).buffer = [] && (t.port 0).limit = 101 && (t.port 0).output.length = 1
      && t.num (Key.pipeSamples 0) = 8 && t.sched.arrived = 8)
    && gives (.planeProcess 0) (buffered.modPort 0 fun p => { p with ledger := [] }) (fun t => (t.port 0).output = []
      && t.num (Key.planesDiscarded 0) = 1)
    && gives (.planeProcess 1) buffered (fun t => t = buffered)) = true := by decide +kernel

theorem test_plane_missing : (let s := streaming.modPort 0 fun p => { p with held := [{ head := { counter := 3 } }] }
    gives (.planeMissingTimeout 0) { s with now := 1000 * s.num (Key.trigLineTimeout 0) } (fun t => (t.port 0).held = []
      && (t.port 0).missing.length = 1)
    && gives (.planeMissingTimeout 0) s (fun t => t = s)) = true := by decide +kernel

theorem test_table_load : (let s := { streaming.modPort 0 fun p => { p with loading := true } with now := 30000 }
    gives (.tableLoadComplete 0) s (fun t => !(t.port 0).loading && t.num (Key.tableLoadCount 0) = 1 && t.num (Key.tableLoadLast 0) = 30000)
    && gives (.tableLoadComplete 0) streaming (fun t => t = streaming)) = true := by decide +kernel

/-! ## World lines, Reef, pieces and Atoll (06–08) -/

/-- RUN with port 0 enabled in a world of 8 columns, its line of trigger 5 at line 1 corrected and waiting for Causeway. -/
def arriving : State :=
  let s := (streaming.setNum Key.expCentreEn 0).setNum Key.worldWidth 8
  s.modPort 0 fun p => { p with output := [{ head := { triggered := true, seq := 5, worldPos := 65536 },
                                             planes := [[1, 2, 3, 4, 5, 6, 7, 8]], filled := [0, 0, 0, 0, 0, 0, 0, 0] }] }

theorem test_camera_line_used : (arriving.linePosition 0 { triggered := true, worldPos := 65536 }).1 = 65536
    ∧ gives (.cameraLineArrival 0) arriving (fun t => (t.port 0).output = [] && t.num (Key.portLinesUsed 0) = 1
      && (t.geo 0).used.map (·.y) = [65536] && (t.geo 0).lastY = some 65536) = true := by decide +kernel

theorem test_camera_line_backward : (gives (.cameraLineArrival 0) (arriving.modGeo 0 fun g => { g with lastY := some 65536 }) (fun t =>
      t.num Key.backwardLines = 1 && (t.geo 0).used = [])
    && gives (.cameraLineArrival 0) (arriving.modGeo 0 fun g => { g with spillHold := true }) (fun t => (t.port 0).output.length = 1)
    && gives (.cameraLineArrival 1) arriving (fun t => t = arriving)) = true := by decide +kernel

theorem test_late_line : (let open_ := arriving.modGeo 0 fun g => { g with spans := [{ first := 0, cause := 2 }] }
    let behind := { open_ with cause := { open_.cause with nextLine := 3 } }
    gives (.cameraLineArrival 0) behind (fun t => t.num Key.lateLines = 1 && (t.geo 0).used = [] && (t.geo 0).resume = 3
      && !(t.geo 0).isOpen && !t.inSpan 0 3)
    && gives (.cameraLineArrival 0) open_ (fun t => t.num (Key.portLinesUsed 0) = 1 && (t.geo 0).resume = 1 && t.inSpan 0 0 && !t.inSpan 0 1)
    && gives (.cameraLineArrival 0) (arriving.modGeo 0 fun g => { g with resume := 2 }) (fun t =>
      t.num Key.lateLines = 1 && (t.geo 0).used = [])) = true := by decide +kernel

theorem test_missing_line : (let s := (streaming.modPort 0 fun p => { p with missing := [{ pos := 300000 }] }).modGeo 0 fun g =>
      { g with lastY := some 65536 }
    gives (.missingLineReport 0) s (fun t => (t.port 0).missing = [] && ((t.geo 0).spans.map (·.cause)) = [1] && t.num Key.spanCount = 1)
    && gives (.missingLineReport 0) (s.modPort 0 fun p => { p with missing := [{ pos := 130000 }] }) (fun t => (t.geo 0).missing = [130000])
    && gives (.missingLineReport 0) (s.modPort 0 fun p => { p with missing := [{ half := true }] }) (fun t => (t.port 0).missing.length = 1)
    && gives (.missingLineReport 0) streaming (fun t => t = streaming)) = true := by decide +kernel

theorem test_port_wait : (let s := { streaming.modGeo 0 fun g => { g with waitSince := some 0 } with now := 1000 * streaming.num Key.portWaitMax }
    s.awaited 0 && gives (.portWaitExpired 0) s (fun t => ((t.geo 0).spans.map (·.cause)) = [2] && t.num Key.portWaitExpired = 1)
    && gives (.portWaitExpired 0) streaming (fun t => t = streaming)) = true := by decide +kernel

/-- RUN with port 0 settled for world line 0: it has used lines at 0 and 1. -/
def formable : State :=
  let u (y : Int) (v : Nat) : UsedLine := { y := y, planes := [List.replicate 8 v], filled := List.replicate 8 false }
  (arriving.setNum Key.alongKernel 0).modGeo 0 fun g => { g with used := [u 0 100, u 65536 200, u 131072 300], lastY := some 131072 }

theorem test_world_line_ready : (formable.enabledPorts = [0] && formable.portSettled 0 0 && !formable.linesEnded && !formable.recordHold
    && !formable.inSpan 0 0 && gives .worldLineForm ready (fun t => t = ready)
    && gives .worldLineForm formable (fun t => t.cause.nextLine = 1 && t.num Key.worldLinesFormed = 1)) = true := by decide +kernel

theorem test_span_keeps_older_lines : (let s := formable.modGeo 0 fun g => { g with missing := [200000] }
    let t := s.placeLine 0 { y := 327680 } (327680, 0)
    (t.geo 0).spans = [{ first := 2, cause := 1, reported := 2, stop := some 5 }] && ((t.geo 0).linesAt 0).length = 3
    && ((t.geo 0).linesAt 5).map (·.y) = [327680] && t.inSpan 0 4 && !t.inSpan 0 5 && t.portSettled 0 1 && !t.portSettled 0 5) = true := by
  decide +kernel

/-- A formed world line of 8 columns. -/
def line0 : WorldLine := { planes := [List.replicate 8 500], marks := List.replicate 8 0, ports := List.replicate 8 1 }

/-- RUN with world line 0 formed, strip 0 open, and no port that bears on what follows. -/
def formed0 : State :=
  let s := (running.setNum Key.worldWidth 8).setNum Key.reefEnable 0
  { s with cause := { s.cause with nextLine := 1, formed := [line0] }, sched := { s.sched with strips := [{}] } }

theorem test_reef_line_off : (formed0.nextReefLine.isSome && gives .reefLine formed0 (fun t => t.reef.nextLine = 1 && t.reef.columns = [])
    && gives .reefLine running (fun t => t = running)) = true := by decide +kernel

theorem test_reef_warms_up : (let s := (formed0.setNum Key.reefEnable 1).setNum Key.refModel 0
    let s := { s with reef := { s.reef with warmLeft := 2 } }
    s.nextReefLine.isSome && gives .reefLine s (fun t => t.reef.warmLeft = 1 && t.column 3 = { mean := 128000, mad := 0, valid := true })) = true := by decide +kernel

theorem test_reef_resume : (let s := { formed0 with now := 40, reef := { formed0.reef with stalled := some 15 } }
    gives .reefResume s (fun t => t.reef.stalled.isNone && t.num Key.reefStallTime = 25)
    && gives .reefResume formed0 (fun t => t = formed0)) = true := by decide +kernel

theorem test_column_model_clear : (let s := { ready with reef := { ready.reef with columns := [(1, { valid := true })] } }
    adm s .host Key.colModelClear 1 && gives (.colModelClear .host 1) s (fun t => t.reef.columns = [])
    && adm running .host Key.colModelClear 1 && gives (.colModelClear .host 1) running (fun t => t.num Key.hostLastResult = 3)) = true := by
  decide +kernel

theorem test_reference_store : (let s := ((ready.setNum Key.refStoreSize 4096).setNum Key.refStoreBase 8192).setNum Key.refStoreWriteAddr 12284
    (s.blockFails .host Key.refStoreWriteData [1, 2, 3, 4]).isEmpty
    && gives (.refStoreWriteData .host [1, 2, 3, 4]) s (fun t => memRead t.g6.mem 12283 5 = [0, 1, 2, 3, 4] && t.num Key.refStoreWriteAddr = 12288)
    && gives (.refStoreWriteData .host [1, 2, 3, 4, 5]) s (fun t => t.num Key.hostLastResult = 4 && t.g6 = s.g6)) = true := by decide +kernel

/-- RUN with pieces on, and an event of the piece-start input waiting. -/
def starting : State := ((running.setNum Key.pieceEnable 1).setNum Key.pieceLength 50).putWire 0x61 10 false

theorem test_piece_start : (gives .pieceStart starting (fun t => t.pieceNext = 1 && t.wire 0x61 = []
      && t.pieces.map (fun p => (p.id, p.line, p.lineEnd)) = [(1, 0, some 50)])
    && gives .pieceStart { starting with life := ready.life } (fun t => t.pieces = [] && t.wire 0x61 = [])
    && gives .pieceStart running (fun t => t = running)) = true := by decide +kernel

/-- RUN with one piece open that ends at an event, and that event waiting. -/
def endingPiece : State :=
  { (running.setNum Key.pieceEnable 1).putWire 0x62 10 false with pieces := [{ id := 1, line := 4, endMode := 1 }] }

theorem test_piece_end : (gives .pieceEndEvent endingPiece (fun t => t.pieces.map (·.lineEnd) = [some 5])
    && gives .pieceEndEvent { endingPiece with pieces := [] } (fun t => t.num Key.pieceEndIgnored = 1)
    && gives .pieceEndEvent { endingPiece with pieces := [{ id := 1, lineEnd := some 9 }] } (fun t => t.num Key.pieceEndIgnored = 1)
    && gives .pieceEndEvent { endingPiece with life := ready.life } (fun t => t.pieces.map (·.lineEnd) = [none])
    && gives .pieceEndEvent running (fun t => t = running)) = true := by decide +kernel

theorem test_atoll_line : (let s := formed0.setNum Key.atollEnable 1
    s.nextAtollLine.isSome && gives .atollLine s (fun t => t.atoll.nextLine = 1 && t.atoll.grids = [])
    && gives .atollLine formed0 (fun t => t = formed0)
    && (let h := { s with now := 40, atoll := { s.atoll with stalled := some 15 } }
        gives .atollResume h (fun t => t.atoll.stalled.isNone && t.num Key.atollStallTime = 25))
    && gives .atollResume formed0 (fun t => t = formed0)) = true := by decide +kernel

/-! ## Encoders, compare units, outputs, motion filter, Narrows (10) -/

/-- READY at 5,000 ns with encoder channel 2 enabled, its levels A = 1 and B = 0. -/
def counting : State :=
  { (ready.setNum (Key.encEnable 2) 1).modEncoder 2 (fun e => { e with a := true }) with now := 5000 }

theorem test_encoder_counts : (gives (.encoderEdge 2 true true) counting (fun t => t.num (Key.encCount 2) = 1 && ((t.encoder 2).stamps.map (·.up)) = [true])
    && gives (.encoderEdge 2 false false) counting (fun t => t.num (Key.encCount 2) = 2 ^ 48 - 1 && t.num (Key.encCount 3) = 0)
    && gives (.encoderEdge 2 false false) (counting.setNum (Key.encInvert 2) 1) (fun t => t.num (Key.encCount 2) = 1)) = true := by
  decide +kernel

theorem test_encoder_errors : (gives (.encoderEdge 2 false true) counting (fun t => t.num (Key.encErrors 2) = 1
      && t.num (Key.encCount 2) = 0 && (t.encoder 2).b)
    && gives (.encoderEdge 2 true false) counting (fun t => t.motion = counting.motion)
    && gives (.encoderEdge 4 true false) counting (fun t => t.num (Key.encCount 4) = 0 && (t.encoder 4).a)) = true := by decide +kernel

theorem test_encoder_index : (gives (.encoderIndex 2) (counting.setNum (Key.encCount 2) 77) (fun t => t.num (Key.encIndexLatch 2) = 77
      && t.num (Key.encIndexCount 2) = 1)
    && gives (.encoderIndex 4) counting (fun t => t = counting)) = true := by decide +kernel

theorem test_intervals : (let s := { counting with now := 16000000 }
    gives .narrowsGuardInterval (s.modEvChan 9 fun x => { x with carried := 5 }) (fun t => (t.evChan 9).carried = 0
      && t.motion.intervalStart = 16000000)
    && gives .encIllegalInterval s (fun t => t.motion.encIntervalStart = 16000000)
    && gives .encIllegalInterval counting (fun t => t = counting)
    && gives .narrowsGuardInterval { running with now := 16000000 } (fun t => t.motion.intervalStart = 0)) = true := by decide +kernel

theorem test_cmp_arm : (adm counting .host (Key.cmpArm 5) 1
    && gives (.cmpArm .host 5 1) (counting.setNum (Key.cmpMode 5) 1) (fun t => t.num (Key.cmpArmed 5) = 1)
    && gives (.cmpArm .host 5 1) ((counting.setNum (Key.cmpMode 5) 2).setNum (Key.cmpPhase 5) 8) (fun t => (t.cmp 5).acc = 8)
    && adm (inState .safe) .host (Key.cmpArm 5) 1
    && gives (.cmpArm .host 5 1) ((inState .safe).setNum (Key.cmpMode 5) 1) (fun t => t.num (Key.cmpArmed 5) = 0)) = true := by decide +kernel

theorem test_cmp_arm_event : (let s := (counting.setNum (Key.cmpMode 5) 4).putWire 0x35 100 false
    gives (.cmpArmEvent 5) s (fun t => (t.cmp 5).rt = s.wAt 102 && (t.cmp 5).next = 0 && t.wire 0x35 = [])
    && gives (.cmpArmEvent 5) counting (fun t => t = counting)) = true := by decide +kernel

/-- A unit of count 1 at its target fires as the count reaches it. -/
theorem test_compare_at_target : (let s := ((((counting.setNum (Key.cmpMode 5) 1).setNum (Key.cmpArmed 5) 1).setNum (Key.cmpTarget 5) 1).setNum
      (Key.cmpEncoder 5) 2)
    gives (.encoderEdge 2 true true) s (fun t => t.num (Key.cmpFireCount 5) = 1 && t.num (Key.cmpArmed 5) = 0
      && t.num (Key.cmpLastFireCount 5) = 1)) = true := by decide +kernel

theorem test_compare_time : (let s := (counting.setNum (Key.cmpMode 5) 3).setNum (Key.cmpArmed 5) 1
    s.inService && gives (.compareTimeFire 5) s (fun t => t.num (Key.cmpFireCount 5) = 1 && t.num (Key.cmpArmed 5) = 0)
    && gives (.compareTimeFire 5) (s.modCmp 5 fun x => { x with rt := 5005 }) (fun t => t.num (Key.cmpFireCount 5) = 0)
    && gives (.compareTimeFire 5) (s.modCmp 5 fun x => { x with rt := 5004 }) (fun t => t.num (Key.cmpFireCount 5) = 1)) = true := by
  decide +kernel

/-- READY with output 3 enabled, and events of levels 0 and 1 in the cycle of counter value 100. -/
def pulsing : State :=
  ((((ready.setNum (Key.trgEnable 3) 1).setNum (Key.trgCoarseDelay 3) 10).setNum (Key.trgPulseWidth 3) 5).putWire 3 100 false).putWire
    3 101 true

theorem test_output_schedules : (gives (.triggerOutputEvent 3) pulsing (fun t => (t.trg 3).queue = [⟨120, 130, 0⟩]
      && t.num (Key.trgCollision 3) = 1 && t.num (Key.trgCollisionCount 3) = 1 && t.wire 3 = [])
    && gives (.triggerOutputEvent 3) (pulsing.modTrg 3 fun x => { x with lastEnd := some 119 }) (fun t => t.num (Key.trgOverlap 3) = 1
      && (t.trg 3).queue = [])
    && gives (.triggerOutputEvent 3) (pulsing.modTrg 3 fun x => { x with lastEnd := some 118 }) (fun t => t.num (Key.trgOverlap 3) = 0)
    && gives (.triggerOutputEvent 3) (pulsing.modTrg 3 fun x => { x with queue := List.replicate 256 ⟨1, 2, 0⟩ }) (fun t =>
      t.num (Key.trgQueueFull 3) = 1)) = true := by decide +kernel

theorem test_output_disabled : (gives (.triggerOutputEvent 3) (pulsing.setNum (Key.trgEnable 3) 0) (fun t => (t.trg 3).queue = []
      && t.num (Key.trgCollision 3) = 0 && t.wire 3 = [])
    && gives (.triggerOutputEvent 4) pulsing (fun t => t = pulsing)) = true := by decide +kernel

theorem test_pulse : (let s := { pulsing.modTrg 3 (fun x => { x with queue := [⟨120, 130, 0⟩] }) with now := 120 }
    gives (.triggerPulseStart 3) s (fun t => (t.trg 3).current = some ⟨120, 130, 0⟩ && (t.trg 3).queue = [] && t.num (Key.trgPulses 3) = 1)
    && gives (.triggerPulseStart 3) { s with now := 119 } (fun t => (t.trg 3).current = none)
    && (let r := pulsing.modTrg 3 (fun x => { x with current := some ⟨120, 130, 0⟩ })
        gives (.triggerPulseEnd 3) { r with now := 130 } (fun t => (t.trg 3).current = none && (t.trg 3).lastEnd = some 130)
        && gives (.triggerPulseEnd 3) { r with now := 129 } (fun t => (t.trg 3).current.isSome))) = true := by decide +kernel

/-- READY with an event of channel 7 in the cycle of counter value 100, one Narrows and one injected. -/
def carrying : State := (ready.putWire (chanWire 7) 100 false).putWire (chanWire 7) 101 true

theorem test_narrows_hop : (gives (.narrowsHop 7) carrying (fun t => t.num (Key.chanSeen 7) = 1 && t.num (Key.chanCount 7) = 1
      && t.num (Key.chanInjectMerge 7) = 1 && (t.evChan 7).carried = 1 && (t.evChan 7).lastHop = some 100)
    && gives (.narrowsHop 7) ((carrying.setNum (Key.chanHoldOff 7) 10).modEvChan 7 fun x => { x with lastHop := some 80 }) (fun t =>
      t.num (Key.chanSeen 7) = 0 && (t.evChan 7).carried = 0)
    && gives (.narrowsHop 7) ((carrying.setNum (Key.chanHoldOff 7) 9).modEvChan 7 fun x => { x with lastHop := some 80 }) (fun t =>
      t.num (Key.chanSeen 7) = 1)
    && gives (.narrowsHop 8) carrying (fun t => t = carrying)) = true := by decide +kernel

theorem test_narrows_trips : (let s := (carrying.setNum (Key.chanGuardMax 7) 3).modEvChan 7 fun x => { x with carried := 3 }
    gives (.narrowsHop 7) s (fun t => t.num (Key.chanGuardTripped 7) = 1 && t.num Key.guardTripCount = 1 && t.num (Key.chanCount 7) = 0)
    && gives (.narrowsHop 7) (carrying.setNum (Key.chanGuardTripped 7) 1) (fun t => t.num (Key.chanSeen 7) = 0)) = true := by decide +kernel

theorem test_inject : (adm ready .host Key.inject 7
    && gives (.inject .host 7) ready (fun t => t.wire (chanWire 7) = [(0, true)])
    && gives (.inject .host 7) (ready.setNum (Key.chanGuardTripped 7) 1) (fun t => t.wire (chanWire 7) = []
      && t.num Key.hostLastResult = 0x0A)) = true := by decide +kernel

theorem test_event_input : (gives (.eventInputEdge 4 true) ready (fun t => t.num (Key.eviLevel 4) = 1)
    && gives (.eventInputEdge 4 false) ready (fun t => t = ready)
    && gives (.eventInputEdge 4 false) (ready.setNum (Key.eviInvert 4) 1) (fun t => t.num (Key.eviLevel 4) = 1)) = true := by decide +kernel

theorem test_raw_sample : (let s := (counting.setNum (Key.standstillTime 2) 1).setNum (Key.velWindow 2) 1
    gives (.motionRawSample 2) s (fun t => (t.encoder 2).raws = [(4250, 0)])
    && gives (.motionRawSample 2) (s.modEncoder 2 fun e => { e with raws := [(4250, 9)] }) (fun t => (t.encoder 2).raws = [(4250, 9)])
    && gives (.motionRawSample 2) (s.modEncoder 2 fun e => { e with stamps := [⟨4000, 2, true⟩, ⟨3500, 1, true⟩] }) (fun t =>
      (t.encoder 2).raws.map (·.2) = [(s.num (Key.encPitch 2) : Int) * 2 ^ 32 / 500])) = true := by decide +kernel

theorem test_motion_output : (outputInstant (counting.num Key.motionOutRate) counting.now = 0
    && gives (.motionOutput 2) (counting.modEncoder 2 fun e => { e with lastOut := some 5000 }) (fun t => (t.encoder 2).lastOut = some 5000)
    && (counting.encoder 2).lastOut.isNone && counting.num (Key.thresholdEvents 2) = 0) = true := by decide +kernel

/-! ## Chips, shares, batches, rings and engines (09, 12 R383) -/

/-- RUN with a chip request whose one line has been passed by, so that the chip is filled. -/
def cutting : State :=
  let s := (running.setNum (Key.route 4) 3).setNum Key.chipFillValue 256
  { s with now := 9000
           streams := { s.streams with chips := [{ recSeq := 6, width := 2, height := 1, line := 4, endLine := 4, avail := 9000 }] }
           cause := { s.cause with never := [(4, 5)], nextLine := 5 } }

theorem test_chip_cut : ((match cutting.nextChip with | some c => cutting.chipReady c && !cutting.chipMissed c | none => false)
    && gives .chipCut cutting (fun t => t.streams.chips = [] && t.num Key.chipsCut = 1
      && ((t.arrivals 4).map fun u => (u.bytes.take 8, u.bytes.length)) = [([6, 0, 0, 0, 0, 0, 0, 0], 128)])
    && gives .chipCut { cutting with now := 8999 } (fun t => t.streams.chips.length = 1)
    && gives .chipCut running (fun t => t = running)) = true := by decide +kernel

theorem test_chip_missed : (gives .chipCut { cutting with cause := { cutting.cause with never := [] } } (fun t => t.streams.chips = []
    && t.num Key.chipsMissed = 1 && t.arrivals 4 = [])) = true := by decide +kernel

/-- RUN with a unit of 70 bytes of stream 2 on its way to its host share and to engine 1. -/
def arrived : State :=
  let u : SUnit := { bytes := List.replicate 70 7, engine := 1, strip := 3 }
  let s := ((running.setNum (Key.hostRingSize 2) 4096).setNum Key.stagingSize 65536).setNum Key.hmHostAttach 1
  ({ s with pcie := { s.pcie with linkUp := true, busMaster := true } }.setArrivals 2 [u]).setArrivals 10 [u]

theorem test_staging_host : (arrived.shareHost 2 = [] && !arrived.detached && 70 ≤ arrived.shareSize
    && gives (.stagingUnit 2 false) arrived (fun t => t.arrivals 2 = [] && t.shareHost 2 = [] && t.num (Key.hostRingProducer 2) = 128
      && t.num (Key.unitsDelivered 2) = 1)
    && gives (.stagingUnit 2 false) (arrived.setNum (Key.hostRingSize 2) 127) (fun t => (t.shareHost 2).length = 1
      && t.num (Key.hostRingProducer 2) = 0)
    && gives (.stagingUnit 2 false) (arrived.setNum Key.stagingSize 1104) (fun t => t.num (Key.unitsDiscarded 2) = 1)
    && gives (.stagingUnit 3 false) arrived (fun t => t = arrived)) = true := by decide +kernel

theorem test_staging_engine : (gives (.stagingUnit 2 true) arrived (fun t =>
    (t.engine 1).ready = [{ source := 2, strip := 3, parts := [List.replicate 70 7] }] && t.arrivals 10 = [])) = true := by decide +kernel

theorem test_batches : (let s := { running.setBatch false { records := List.replicate 23 (zeros 64), opened := 0 } with now := 1 }
    gives (.recordBatchSend false) s (fun t => (t.batch false).records.length = 1)
    && gives (.recordBatchSend true) s (fun t => t = s)
    && gives (.recordBatchTimeout false) { s with now := 1000 * s.num Key.recordBatchTime } (fun t => (t.batch false).records.length = 1)
    && gives (.recordBatchTimeout false) { s with now := 1000 * s.num Key.recordBatchTime - 1 } (fun t => (t.batch false).records.length = 23))
    = true := by decide +kernel

theorem test_host_ring_consumer : (let s := (arrived.setNum (Key.hostRingProducer 2) 128).setNum (Key.hostRingSize 2) 128
    let s := s.setShareHost 2 (s.arrivals 2)
    adm s .host (Key.hostRingConsumer 2) 128
    && gives (.hostRingConsumer .host 2 128) s (fun t => t.num (Key.hostRingConsumer 2) = 128 && t.num (Key.hostRingProducer 2) = 256)
    && gives (.hostRingConsumer .host 2 129) s (fun t => t.num (Key.hostRingConsumer 2) = 0 && t.num Key.hostLastResult = 0x0A)
    && gives (.hbRingCons 2 128) s (fun t => t.num (Key.hostRingConsumer 2) = 128 && t.shareHost 2 = [])
    && gives (.hbRingCons 2 129) s (fun t => t.pcie.badAccess = 1 && t.num (Key.hostRingConsumer 2) = 0)) = true := by decide +kernel

/-- READY with a unit of stream 2 ready at engine 1, whose rings lie in device memory. -/
def ready1 : State :=
  let s := ((((ready.setNum Key.g6LocalTop 0x3FFFFFFF).setNum (Key.bufRingEntries 1) 16).setNum (Key.complRingEntries 1) 16).setNum (Key.bufRingBase 1) 4096).setNum
    (Key.complRingBase 1) 8192
  s.modEngine 1 fun x => { x with ready := [{ source := 2, strip := 3, parts := [[1, 2, 3]] }] }

/-- That engine with a buffer of 64 KiB at 1 MiB. -/
def ready2 : State :=
  (ready1.setNum (Key.bufProducer 1) 1).store 4096 (leBytes 8 0x100000 ++ leBytes 4 0x10000 ++ leBytes 4 77)

theorem test_unit_start : (ready1.noBuffers 1 && gives (.compressionUnitStart 1 [] []) ready1 (fun t => (t.engine 1).state = 2
      && (t.engine 1).ready = [] && ((t.engine 1).work.map (·.parts)) = some [[1, 2, 3]])
    && gives (.compressionUnitStart 0 [] []) ready1 (fun t => t = ready1)
    && gives (.compressionUnitStart 1 [] []) (inState .safe) (fun t => t = inState .safe)) = true := by decide +kernel

theorem test_unit_start_with_buffer : (!ready2.noBuffers 1 && ready2.bufferOk 0x100000 0x10000
    && gives (.compressionUnitStart 1 [] []) ready2 (fun t => (t.engine 1).state = 1 && (t.engine 1).hasBuf && (t.engine 1).bufTag = 77
      && (t.engine 1).bufAddr = 0x100000 && (t.engine 1).bufLen = 0x10000 && t.num (Key.bufConsumer 1) = 1)) = true := by decide +kernel

/-- A job descriptor that decompresses five bytes in hand to 512 bytes at 1 MiB; op 3 is no operation. -/
def jobDesc (op : Nat) : List Byte :=
  leBytes 1 op ++ zeros 7 ++ leBytes 8 0x8000000000000000 ++ leBytes 4 8 ++ leBytes 4 512 ++ leBytes 8 0x100000 ++ zeros 8 ++ leBytes 4 9
    ++ zeros 20

/-- READY with a job waiting at engine 1 in a job ring of host memory. -/
def job1 : State :=
  (((ready1.modEngine 1 fun x => { x with ready := [] }).setNum (Key.jobRingBase 1) 0x8000000000000000).setNum (Key.jobRingEntries 1) 16).setNum
    (Key.jobProducer 1) 1

theorem test_job_start : (busAddr (job1.num (Key.jobRingBase 1)) && job1.ringAhead 1 2 = 1 && (jobDesc 3).length = 64 && job1.jobBad (jobDesc 3)
    && !job1.jobBad (jobDesc 2)
    && gives (.compressionUnitStart 1 (jobDesc 2) [1, 3, 0, 252, 255, 65, 66, 67]) job1 (fun t => (t.engine 1).state = 1
      && t.num (Key.jobConsumer 1) = 1)
    && gives (.compressionUnitStart 1 (jobDesc 2) []) { job1 with life := { job1.life with state := .safe } } (fun t => (t.engine 1).state = 0)) = true := by
  decide +kernel

theorem test_job_bad : (gives (.compressionUnitStart 1 (jobDesc 3) []) job1 (fun t => (t.engine 1).state = 0 && (t.engine 1).work.isNone
    && (t.engine 1).unitSeq = 1 && t.num (Key.complProducer 1) = 1 && t.num (Key.unitsDone 1) = 1)) = true := by decide +kernel

/-- A job that decompresses a stored block of "ABC". -/
def inflating : State :=
  job1.modEngine 1 fun x => { x with
    state := 1, work := some { source := 0xFF, decompress := true, parts := [[1, 3, 0, 252, 255, 65, 66, 67]], dstAddr := 0x100000, dstLen := 512,
                               tag := 9 } }

theorem test_unit_end : (gives (.compressionUnitEnd 1) inflating (fun t => (t.engine 1).state = 0 && (t.engine 1).unitSeq = 1
      && memRead t.g6.mem 0x100000 4 = [65, 66, 67, 0] && memRead t.g6.mem 8192 4 = [9, 0, 0, 0] && fieldAt (memRead t.g6.mem 8192 32) 28 4 = 3)
    && gives (.compressionUnitEnd 0) inflating (fun t => t = inflating)) = true := by decide +kernel

theorem test_indexes : (adm job1 .host (Key.bufProducer 1) 5 && gives (.bufProducer .host 1 5) job1 (fun t => t.num (Key.bufProducer 1) = 5)
    && gives (.bufProducer .host 1 17) job1 (fun t => t.num (Key.bufProducer 1) = 17 && (t.engine 1).overrun = 1)
    && adm job1 .host (Key.jobProducer 1) 2 && gives (.jobProducer .host 1 2) job1 (fun t => t.num (Key.jobProducer 1) = 2)
    && gives (.hbCompIdx 1 0 5) job1 (fun t => t.num (Key.bufProducer 1) = 5)
    && gives (.hbCompIdx 1 3 5) job1 (fun t => t.num (Key.complConsumer 1) = 5)
    && gives (.hbCompIdx 1 4 5) job1 (fun t => t.num (Key.jobProducer 1) = 5)
    && gives (.hbCompIdx 1 1 5) job1 (fun t => t.pcie.badAccess = 1)) = true := by decide +kernel

/-- Engine 1 waits for a buffer, the deadline of its unit's strip passed. -/
def late1 : State :=
  let s := ready1.modEngine 1 fun x => { x with state := 2, ready := [], work := some { source := 2, strip := 3, parts := [[1, 2, 3]] } }
  { s with now := 1000000000, sched := { s.sched with deadlines := [(3, 5)] } }

theorem test_chain_deadline : (late1.noBuffers 1 && late1.workLate { source := 2, strip := 3, parts := [[1, 2, 3]] }
    && gives (.chainDeadline 0) late1 (fun t => t = late1)
    && gives (.chainDeadline 1) { late1 with now := 1 } (fun t => t.num (Key.overflowNoChain 1) = 0)) = true := by decide +kernel

/-- Engine 1 in its fallback with a buffer, its input "ABC" whole. -/
def falling : State :=
  late1.modEngine 1 fun x => { x with
    state := 3, hasBuf := true, bufAddr := 0x100000, bufLen := 4096, bufTag := 77
    work := some { source := 0xFF, parts := [[65, 66, 67]], fallback := true } }

theorem test_fallback : (gives (.fallbackComplete 1) falling (fun t => (t.engine 1).state = 0 && t.num (Key.unitsDone 1) = 1
      && memRead t.g6.mem 0x100000 9 = [1, 3, 0, 252, 255, 65, 66, 67, 0])
    && gives (.fallbackComplete 0) falling (fun t => t = falling)) = true := by decide +kernel

theorem test_fallback_deadline : (let s := falling.modEngine 1 fun x => { x with hasBuf := false, ready := [{ source := 2, strip := 3 }] }
    (s.engine 1).state = 3 && s.workLate { source := 2, strip := 3 }
    && gives (.fallbackDeadline 1) falling (fun t => t = falling)) = true := by decide +kernel

theorem test_bus_error : (gives (.compressionBusError 1) falling (fun t => (t.engine 1).state = 0 && t.num (Key.complProducer 1) = 1
      && fieldAt (memRead t.g6.mem 8192 32) 24 1 = 6)
    && gives (.compressionBusError 0) falling (fun t => t = falling)) = true := by decide +kernel

theorem test_buffer_full : (let s := ready2.modEngine 1 fun x => { x with
        state := 1, ready := [], hasBuf := true, bufAddr := 0x100000, bufLen := 64, work := some { source := 2, strip := 3 } }
    let s := { s with sched := { s.sched with strips := [{ index := 3 }] }, dict := (s.setNum (Key.bufProducer 1) 0).dict }
    s.outputSize 1 { source := 2, strip := 3 } = none && s.noBuffers 1 && s.ringAhead 1 1 = 0
    && gives (.compressionBufferFull 0 []) s (fun t => t = s)) = true := by decide +kernel

/-! ## Time (11 R312–R322) -/

/-- READY with D0 locked at 1,000 ns ahead of the counter, and W aligned on it. -/
def locked : State :=
  let s := ready.setNum (Key.domState 0) 3
  { s with now := 5000
           net := { s.net with domains := [(0, ⟨65536000, 0, 0⟩)], w := ⟨65536000, 0, 0⟩, wAligned := true } }

theorem test_w_follows : (gives .wUpdate locked (fun t => t.net.w.at16 5000 = 6000 * 65536 && t.net.w.rate = 0 && t.num Key.wState = 0
      && t.num Key.wSource = 0)
    && gives .wUpdate { locked with net := { locked.net with w := ⟨65536000 + 655360, 0, 0⟩ } } (fun t => t.int Key.wError = 10
      && t.num Key.wState = 1 && t.net.w.rate < 0)) = true := by decide +kernel

theorem test_w_switches : (let s := (locked.setNum (Key.domState 0) 2).setNum (Key.domState 1) 3
    s.markD0.pickSource = 1 && gives .wUpdate s (fun t => t.num Key.wSource = 1 && t.num Key.wSwitchCount = 1)) = true := by decide +kernel

theorem test_w_diverges : (let s := { locked with life := running.life, net := { locked.net with w := ⟨65536 * 2000000, 0, 0⟩ } }
    gives .wUpdate s (fun t => t.net.wDiverged && t.num Key.wState = 3 && t.net.w = s.net.w)) = true := by decide +kernel

theorem test_w_steps : (let s := { locked with net := { locked.net with wAligned := false, w := {} } }
    gives .wUpdate s (fun t => t.net.wAligned && t.net.w.at16 5000 = 6000 * 65536)
    && gives .wUpdate { s with life := running.life } (fun t => !t.net.wAligned && t.net.w = {})) = true := by decide +kernel

theorem test_wselect : (adm locked .host Key.wSelect 1
    && gives (.wSelect .host 1) locked (fun t => t.num Key.wSource = 1 && t.net.w.at16 5000 = 5000 * 65536)
    && gives (.wSelect .host 0) locked (fun t => t.num Key.wSource = 0 && t.net.w = locked.net.w)) = true := by decide +kernel

theorem test_domain_writes : (adm locked .host (Key.domOffset 2) 77 && gives (.domOffset .host 2 77) locked (fun t => (t.domain 2).offset = 77 * 65536)
    && adm locked .host (Key.domRate 2) 1000 && gives (.domRate .host 2 1000) locked (fun t => (t.domain 2).rate = 1000 && (t.domain 2).anchor = 5000)
    && gives (.domOffset .host 0 77) locked (fun t => t.num Key.hostLastResult = 2 && t.domain 0 = locked.domain 0)
    && gives (.domRate .host 1 7) locked (fun t => t.num Key.hostLastResult = 2)) = true := by decide +kernel

/-- READY with gPTP instance 0 on field port 1, its priority 248. -/
def ptp0 : State := ((locked.setNum (Key.ptpEnable 0) 1).setNum (Key.ptpPortMask 0) 2).setNum (Key.ptpPriority1 0) 248

/-- An Announce of priority p. -/
def announce (p : Nat) : Announce := { priority1 := p, clockQuality := 0, priority2 := 0, gmIdentity := 99, stepsRemoved := 0 }

theorem test_announce : (ptp0.ptpOn 0 1 && gives (.ptpAnnounce 0 1 (announce 1)) ptp0 (fun t => t.num (Key.domState 0) = 2
      && t.num (Key.ptpGmIdentity 0) = 99 && (t.ptp 0).masterPort = 1)
    && gives (.ptpAnnounce 0 1 (announce 255)) ptp0 (fun t => t.num (Key.domState 0) = 5 && t.num (Key.ptpSlavePort 0) = 255)
    && gives (.ptpAnnounce 0 0 (announce 1)) ptp0 (fun t => t = ptp0)) = true := by decide +kernel

theorem test_announce_timeout : (gives (.ptpAnnounceTimeout 0) ptp0 (fun t => t.num (Key.domState 0) = 5)
    && gives (.ptpAnnounceTimeout 0) (ptp0.setNum (Key.ptpPriority1 0) 255) (fun t => t.num (Key.domState 0) = 1)
    && gives (.ptpAnnounceTimeout 1) ptp0 (fun t => t = ptp0)) = true := by decide +kernel

/-- The same following a master on port 1. -/
def slave0 : State := (ptp0.setNum (Key.domState 0) 2).modPtp 0 fun x => { x with master := some (announce 1), masterPort := 1, good := 15 }

theorem test_sync_steps : (gives (.ptpSync 0 1 (7000 * 65536)) slave0 (fun t => t.domain 0 = ⟨7000 * 65536, 5000, 0⟩
      && t.num (Key.domStepCount 0) = 1 && t.int (Key.domMasterOffset 0) = -1000 && t.num (Key.domState 0) = 2)
    && gives (.ptpSync 0 1 (7000 * 65536)) (slave0.setNum (Key.ptpLockThreshold 0) 1000) (fun t => t.num (Key.domState 0) = 3)
    && gives (.ptpSync 0 2 0) slave0 (fun t => t = slave0)) = true := by decide +kernel

theorem test_sync_timeout : (let s := { slave0.setNum (Key.domState 0) 3 with now := 10000000000 }
    gives (.ptpSyncTimeout 0) s (fun t => t.num (Key.domState 0) = 4 && (t.ptp 0).good = 0)
    && gives (.ptpSyncTimeout 0) slave0 (fun t => t = slave0)) = true := by decide +kernel

theorem test_sync_transmit : (let s := (ptp0.setNum (Key.domState 0) 5).setNum (Key.fldLinkUp 1) 1
    gives (.ptpSyncTransmit 0) s (fun t => t.sent.map (fun x => x.data.take 1) = [[0x0B], [0x10]] && (t.ptp 0).lastSent = 5000)
    && gives (.ptpSyncTransmit 0) ptp0 (fun t => t = ptp0)
    && gives (.ptpPdelay 1 300 true) ptp0 (fun t => t.num (Key.ptpMeanLinkDelay 1) = 300 && t.num (Key.ptpAsCapable 1) = 1)) = true := by
  decide +kernel

/-! ## Field ports, supervisors, nodes, marks, keys (11 R323–R348) -/

/-- READY with field port 1 linked at 10.0.0.1 of a network of 24 bits. -/
def fielded : State :=
  let s := ((ready.setNum (Key.fldMode 1) 1).setNum (Key.fldLinkUp 1) 1).setNum (Key.fldIpAddr 1) 0x0A000001
  (s.setNum (Key.fldNetMask 1) 0xFFFFFF00)

/-- A peer on that port. -/
def peer1 : Peer := ⟨1, 0x0A000002, 5000⟩

theorem test_field_link : (gives (.fieldLinkChange 1 false) fielded (fun t => t.num (Key.fldLinkUp 1) = 0
      && tblGet t.harbour.req 0 66 = 1)
    && gives (.fieldLinkChange 1 true) fielded (fun t => t = fielded)
    && gives (.fieldLinkChange 1 true) ((fielded.setNum (Key.fldLinkUp 1) 0).queueFrame 1 { cls := 2, bytes := [5] }) (fun t =>
      t.sent.map (·.data) = [[5]] && tblGet t.net.queues [] (queueKey 1 2) = [])) = true := by decide +kernel

theorem test_preempt : (let s := fielded.setNum (Key.fldPreemptEn 1) 1
    gives (.preemptVerify 1) s (fun t => t.num (Key.fldPreemptActive 1) = 1)
    && gives (.preemptVerify 1) (fielded.setNum (Key.fldPreemptEn 1) 0) (fun t => t.num (Key.fldPreemptActive 1) = 0)
    && gives (.frameDiscard 1) fielded (fun t => t.num (Key.fldRxDiscards 1) = 1)) = true := by decide +kernel

theorem test_arp : (gives (.arpRequest 1 0x112233445566 0x0A000002 0x0A000001) fielded (fun t =>
      t.sent.map (fun x => x.data.drop 18) = [beBytes 6 0x112233445566 ++ beBytes 4 0x0A000002])
    && gives (.arpRequest 1 7 0x0A000002 0x0A000009) fielded (fun t => t = fielded)) = true := by decide +kernel

/-- An echo of one word 0x0102: the checksum is 0xFEFD. -/
theorem test_icmp : (gives (.icmpEcho peer1 0x0A000001 [1, 2]) fielded (fun t => t.sent.map (·.data) = [[0, 0, 0xFE, 0xFD, 1, 2]])
    && gives (.icmpEcho peer1 0x0A000009 [1, 2]) fielded (fun t => t.num (Key.fldRxDiscards 1) = 1)
    && gives (.icmpEcho { peer1 with ip := 0x0B000002 } 0x0A000001 [1, 2]) fielded (fun t => t = fielded)) = true := by decide +kernel

theorem test_class7 : (let f (l : Nat) : Frame := { cls := 7, launch := some l, bytes := [BitVec.ofNat 8 l] }
    let s := { (fielded.queueFrame 1 (f 200)).queueFrame 1 (f 100) with now := 150 }
    let at_ (w : Int) := { s with net := { s.net with w := ⟨(w - 150) * 65536, 0, 0⟩ } }
    (at_ 150).wNow = 150
    && gives (.class7Launch 1) (at_ 150) (fun t => t.sent.map (·.data) = [[100]] && t.num (Key.tc7LateCount 1) = 0)
    && gives (.class7Launch 1) (at_ 221) (fun t => t.num (Key.tc7LateCount 1) = 1)
    && gives (.class7Launch 1) (at_ 99) (fun t => t.sent = [])
    && gives (.class7Launch 0) s (fun t => t = s)) = true := by decide +kernel

/-- A datagram of a supervisor. -/
def request (msg session seq : Nat) (body : List Byte) : List Byte := jfpDatagram msg session seq 0 body none

/-- The same machine with session 3 open for that peer, its last request numbered 7. -/
def sessionOpen : State :=
  { fielded.modSession 3 (fun _ => { peer := some peer1, lastSeq := 7, authSlot := 0xFF, answer := [9, 9] }) with now := 5 }

/-- The list of one entry to read. -/
def readOne (k : Nat) : List Byte := [1, 0, 0, 0] ++ leBytes 4 k

theorem test_session_opens : (gives (.sessionOpen peer1 (request 1 0xFF 40 (readOne Key.tickSource))) fielded (fun t =>
      (t.session 0).peer = some peer1 && (t.session 0).lastSeq = 40 && t.sent.length = 1
      && (t.dict.journal.head?.map (·.target)) = some 0x800)
    && gives (.sessionOpen peer1 (request 1 0xFF 40 [0, 0, 0, 0])) fielded (fun t => t.num Key.jfpRxDiscards = 1)
    && gives (.sessionOpen peer1 (request 1 0xFF 40 (readOne Key.tickSource))) (fielded.setNum Key.authRequired 1) (fun t =>
      t.num Key.authFailures = 1 && (t.session 0).peer.isNone)
    && gives (.sessionOpen peer1 [1, 2, 3]) fielded (fun t => t.num Key.jfpRxDiscards = 1)) = true := by decide +kernel

theorem test_session_waits : (gives (.dictRead peer1 [1]) { fielded with life := { fielded.life with dictServed := false } } (fun t =>
      t.net.waiting = [(peer1, [1])])
    && gives (.dictRead peer1 [1]) (fielded.setNum (Key.fldLinkUp 1) 0) (fun t => t.net.waiting = [] && t.sent = [])) = true := by decide +kernel

theorem test_dict_read : (gives (.dictRead peer1 (request 1 3 8 (readOne (Key.trgPulseWidth 0)))) sessionOpen (fun t =>
      t.sent.map (fun x => x.data.drop 16) = [leBytes 4 8 ++ [1, 0, 1, 0] ++ zeros 8
        ++ leBytes 4 (Key.trgPulseWidth 0) ++ [0, 4, 0, 0] ++ leBytes 8 (sessionOpen.num (Key.trgPulseWidth 0)) ++ zeros 8])
    && gives (.dictRead peer1 (request 1 3 8 (readOne 0xFFFFFF))) sessionOpen (fun t =>
      t.sent.map (fun x => fieldAt x.data 36 1) = [1])) = true := by decide +kernel

theorem test_retransmission : (gives (.retransmission peer1 (request 1 3 7 (readOne Key.tickSource))) sessionOpen (fun t =>
      t.sent.map (·.data) = [[9, 9]] && (t.session 3).lastTime = 5)
    && gives (.retransmission peer1 (request 1 3 6 (readOne Key.tickSource))) sessionOpen (fun t => t.sent = []
      && t.num Key.replayDiscards = 1)) = true := by decide +kernel

/-- The list of one entry to write, of n bytes. -/
def writeOne (k n v : Nat) : List Byte := [1, 0, 0, 0] ++ leBytes 4 k ++ leBytes 1 n ++ zeros 3 ++ leBytes 8 v

theorem test_dict_write : (gives (.dictWriteJfp peer1 (request 2 3 8 (writeOne Key.pieceLength 4 500))) sessionOpen (fun t =>
      t.lastNum Key.pieceLength = 500 && t.sent.map (fun x => fieldAt x.data 36 1) = [0])
    && gives (.dictWriteJfp peer1 (request 2 3 8 (writeOne Key.pieceLength 2 500))) sessionOpen (fun t =>
      t.lastNum Key.pieceLength = sessionOpen.lastNum Key.pieceLength && t.sent.map (fun x => fieldAt x.data 36 1) = [5]
      && (t.session 3).refused = 1)) = true := by decide +kernel

/-- The body of a SEG_INIT. -/
def segInitBody (k mode n crc : Nat) : List Byte := leBytes 4 k ++ leBytes 1 mode ++ zeros 3 ++ leBytes 4 n ++ leBytes 4 crc

theorem test_segments_down : (gives (.segInitDownload peer1 (request 4 3 8 (segInitBody Key.chipClassTable 1 1024 0))) sessionOpen (fun t =>
      ((t.source (.session 3)).transfer.map fun x => (x.download, x.length, x.offset)) = some (true, 1024, 0))
    && (let s := sessionOpen.modSource (.session 3) fun x => { x with transfer := some { target := Key.chipClassTable, download := true, length := 1024 } }
        gives (.segDataDownload peer1 (request 5 3 8 (leBytes 4 Key.chipClassTable ++ leBytes 4 0 ++ leBytes 2 8 ++ [0, 0, 1, 2, 3, 4, 5, 6, 7, 8]))) s
          (fun t => ((t.source (.session 3)).transfer.map fun x => (x.offset, x.data)) = some (8, [1, 2, 3, 4, 5, 6, 7, 8])))
    && gives (.segDataDownload peer1 (request 5 3 8 (leBytes 4 Key.chipClassTable ++ leBytes 4 0 ++ leBytes 2 4 ++ [0, 0, 1, 2, 3, 4]))) sessionOpen
      (fun t => t.sent.map (fun x => fieldAt x.data 36 1) = [13])) = true := by decide +kernel

theorem test_segments_up : (let s := sessionOpen.modSource (.session 3) fun x =>
      { x with transfer := some { target := Key.chipClassTable, length := 8, data := [1, 2, 3, 4, 5, 6, 7, 8] } }
    gives (.segDataRequest peer1 (request 5 3 8 (leBytes 4 Key.chipClassTable ++ leBytes 4 2 ++ leBytes 2 3 ++ [1, 0]))) s (fun t =>
      t.sent.map (fun x => x.data.drop 16) = [leBytes 4 Key.chipClassTable ++ leBytes 4 2 ++ leBytes 2 3 ++ [0, 0, 3, 4, 5]])
    && gives (.segInitAbort peer1 (request 4 3 8 (segInitBody Key.chipClassTable 3 0 0))) s (fun t => (t.source (.session 3)).transfer.isNone)
    && gives (.segInitUpload peer1 (request 4 3 8 (segInitBody Key.chipClassTable 2 0 0))) sessionOpen (fun t =>
      ((t.source (.session 3)).transfer.map (·.length)) = some (sessionOpen.readBlob Key.chipClassTable).length)) = true := by decide +kernel

theorem test_session_timeout : (let s := { sessionOpen with now := 1000000000000 }
    s.sessionSilent 3 && gives (.sessionTimeout 3) s (fun t => (t.session 3).peer.isNone
      && (t.dict.journal.head?.map (·.target)) = some 0x903)
    && gives (.sessionTimeout 3) sessionOpen (fun t => t = sessionOpen)) = true := by decide +kernel

theorem test_session_close : (adm sessionOpen .host Key.sessionClose 3
    && gives (.sessionClose .host 3) sessionOpen (fun t => (t.session 3).peer.isNone)
    && gives (.sessionClose .host 4) sessionOpen (fun t => (t.session 3).peer.isSome)
    && adm sessionOpen (.session 2) Key.sessionClose 3
    && gives (.sessionClose (.session 2) 3) sessionOpen (fun t => (t.session 3).peer.isSome && (t.session 2).refused = 1)) = true := by
  decide +kernel

/-- The same machine with node 5 up at that peer's address, W at 10 ms. -/
def nodes : State :=
  let s := (((fielded.setNum (Key.nodeState 5) 2).setNum (Key.nodeIp 5) peer1.ip).setNum (Key.nodeUdpPort 5) peer1.udp).setNum (Key.nodePort 5) 1
  { (s.setNum (Key.nodeKeySlot 5) 0xFF).setNum (Key.nodeCyclicPeriod 5) 1000 with
      net := { s.net with w := ⟨10000000 * 65536, 0, 0⟩ } }

/-- A datagram of node 5. -/
def ofNode (msg seq : Nat) (body : List Byte) : List Byte := jfpDatagram msg 0xFE seq 5 body none

theorem test_cyclic_out : (nodes.wNow = 10000000
    && gives (.cyclicOut 5) nodes (fun t => (t.node 5).cycCount = 1 && (t.node 5).missed = 1 && t.num (Key.nodeState 5) = 2
      && t.sent.map (fun x => (fieldAt x.data 3 1, fieldAt x.data 24 8)) = [(0x10, 10000000)])
    && gives (.cyclicOut 5) (nodes.modNode 5 fun x => { x with missed := nodes.num Key.nodeMissMax }) (fun t => t.num (Key.nodeState 5) = 3
      && tblGet t.harbour.req 0 77 = 1)
    && gives (.cyclicOut 6) nodes (fun t => t = nodes)) = true := by decide +kernel

theorem test_node_probe : (let s := { nodes.setNum (Key.nodeCyclicPeriod 5) 0 with net := { nodes.net with w := ⟨1000000000000 * 65536, 0, 0⟩ } }
    gives (.nodeProbe 5) s (fun t => (t.node 5).waiting.map (fun c => (c.id, c.code)) = [(0, 0)] && t.sent.length = 1)
    && gives (.nodeProbe 5) nodes (fun t => t = nodes)) = true := by decide +kernel

theorem test_cyclic_in : (gives (.cyclicIn peer1 (ofNode 0x11 3 (zeros 16 ++ [4, 5]))) (nodes.setNum (Key.nodeState 5) 3) (fun t =>
      t.blob (Key.nodeCyclicIn 5) = [4, 5] && t.num (Key.nodeState 5) = 2 && (t.node 5).lastSeq = some 3)
    && gives (.cyclicIn peer1 [1]) nodes (fun t => t.num Key.jfpRxDiscards = 1)) = true := by decide +kernel

theorem test_node_ack : (let s := nodes.modNode 5 fun x => { x with waiting := [⟨8, 0, 1, 10000000, 0⟩], lastSeq := some 2 }
    gives (.nodeAck peer1 (ofNode 0x21 3 (leBytes 4 8 ++ zeros 12))) s (fun t => (t.node 5).waiting = [])
    && gives (.nodeAck peer1 (ofNode 0x21 3 (leBytes 4 8 ++ [0, 1] ++ zeros 10))) s (fun t => (t.node 5).waiting.length = 1)
    && gives (.nodeAck peer1 (ofNode 0x21 1 (leBytes 4 8 ++ zeros 12))) s (fun t => t.num Key.replayDiscards = 1)) = true := by decide +kernel

theorem test_event_notify : (gives (.eventNotify peer1 (ofNode 0x30 3 (leBytes 2 0x0100 ++ zeros 14 ++ leBytes 8 77))) nodes (fun t =>
      t.num (Key.nodeLastEvent 5) = 77)
    && gives (.eventNotify peer1 (ofNode 0x30 3 (leBytes 2 0x00FF ++ zeros 14))) nodes (fun t => t.num Key.jfpRxDiscards = 1)) = true := by
  decide +kernel

theorem test_ack_deadline : (let s := nodes.modNode 5 fun x => { x with waiting := [⟨8, 0, 0x10, 10000000, 2⟩] }
    gives (.nodeAckDeadline 5 8) s (fun t => (t.node 5).waiting = [] && t.num (Key.nodeAckFail 5) = 1 && t.num Key.carrierFailCount = 1)
    && gives (.nodeAckDeadline 5 9) s (fun t => t = s)) = true := by decide +kernel

/-- The bytes of a `NodeCmdWrite`. -/
def cmdWrite (code act : Nat) : List Byte := leBytes 2 code ++ zeros 6 ++ leBytes 8 act ++ zeros 16

theorem test_node_cmd_write : (let s := nodes.setNum (Key.nodeClass 5) 5
    (s.blockFails .host (Key.nodeCmdWrite 5) (cmdWrite 0x20 0)).isEmpty
    && gives (.nodeCmdWrite .host 5 (cmdWrite 0x20 0)) s (fun t => (t.node 5).nextCmd = 1 && t.sent.length = 1)
    && gives (.nodeCmdWrite .host 5 (cmdWrite 0x20 10000001)) s (fun t => (t.node 5).waiting.map (·.deadline) = [10000001])
    && gives (.nodeCmdWrite .host 5 (cmdWrite 0x20 10000000)) s (fun t => t.num Key.hostLastResult = 4)
    && gives (.nodeCmdWrite .host 5 (cmdWrite 0x1F 0)) s (fun t => t.num Key.hostLastResult = 0x0A)) = true := by decide +kernel

/-- The same machine with a mark of node 5 queued for a launch at 10,000,100 ns. -/
def marking : State :=
  { nodes with net := { nodes.net with marks := [{ node := 5, id := 4, act := 10000200, launch := 10000100, queued := true }] } }

theorem test_mark_repredict : (1 ∉ marking.power.restarting ∧ gives .markRepredict marking (fun t => t.net.marks.map (·.committed) = [true]) = true)
    ∧ gives .markRepredict nodes (fun t => t = nodes) = true := by decide +kernel

theorem test_mark_commit : (gives (.markCommit 5 4) marking (fun t => t.net.marks.map (·.committed) = [true])
    && gives (.markCommit 5 5) marking (fun t => t = marking)
    && (let s := { marking with net := { marking.net with marks := [{ node := 5, id := 4, queued := true, launch := 100000000000 }] } }
        gives (.markCommit 5 4) s (fun t => t.net.marks.map (·.committed) = [false]))) = true := by decide +kernel

theorem test_mark_hold : (let s := { nodes with net := { nodes.net with marks := [{ node := 5, id := 4, heldSince := some 0 }] } }
    gives (.markHoldTimeout 5 4) (s.setNum Key.markHoldMax 9) (fun t => t.net.marks = [] && t.num Key.markDropped = 1)
    && gives (.markHoldTimeout 5 4) (s.setNum Key.markHoldMax 10) (fun t => t.net.marks.length = 1)
    && gives (.markHoldTimeout 5 9) s (fun t => t = s)) = true := by decide +kernel

theorem test_keys : (let d := [3, 0, 0, 0] ++ leBytes 4 77 ++ List.replicate 32 (5 : Byte)
    (fielded.blockFails .host Key.keyLoad d).isEmpty
    && gives (.keyLoad .host d) fielded (fun t => t.keySlot 3 = { ip := 77, key := List.replicate 32 5 } && t.keySlot 4 = {})
    && gives (.keyLoad .host ([32] ++ d.drop 1)) fielded (fun t => t.num Key.hostLastResult = 4 && t.net.keys = [])
    && adm fielded .host Key.keyErase 3
    && gives (.keyErase .host 3) { fielded with net := { fielded.net with keys := [(3, { ip := 7, key := [1] })] } } (fun t => t.keySlot 3 = {}))
    = true := by decide +kernel

/-! ## Ferry (12 R369–R382; 14 R422) -/

/-- READY with 1 GiB of memory, and channel 9 in a state with a descriptor. -/
def moving (st : Nat) (c : FerryChan) : State :=
  ((ready.setNum Key.g6LocalTop 0x3FFFFFFF).setNum (Key.ferryState 9) st).modFerry 9 fun _ => c

/-- A COPY of 8,192 bytes from 1 MiB + 4,000 to 2 MiB, its status at 4096. -/
def copyDesc : Desc := { op := 1, length := 8192, src := 0x100FA0, dst := 0x200000, status := 4096, statusWb := true, tag := 5 }

theorem test_ferry_start : (let s := moving 0 {}
    adm s .host (Key.ferryCommand 9) 1
    && gives (.ferryStart .host 9) (s.setNum (Key.ferryDescAddr 9) 640) (fun t => t.ferryState 9 = 1 && (t.ferryChan 9).fetch = 640
      && t.num (Key.ferryChainCount 9) = 1)
    && gives (.ferryStart .host 9) (moving 4 {}) (fun t => t.ferryState 9 = 4 && t.num Key.hostLastResult = 8)
    && gives (.ferryStart .host 5) ((moving 0 {}).setNum (Key.route 5) 1) (fun t => t.ferryState 5 = 0 && t.num Key.hostLastResult = 10)
    && gives (.ferryStart .host 30) s (fun t => t.num Key.hostLastResult = 10)) = true := by decide +kernel

theorem test_ferry_abort : (let s := moving 2 { desc := some copyDesc, done := 4096, issued := 4096 }
    adm s .host (Key.ferryCommand 9) 2
    && gives (.ferryAbort .host 9) s (fun t => t.ferryState 9 = 5 && t.num (Key.ferryLastStatus 9) = 2 && t.num (Key.ferryResidue 9) = 4096
      && memRead t.g6.mem 4096 14 = [5, 0, 0, 0, 0, 16, 0, 0, 0, 0, 0, 0, 2, 3])
    && gives (.hbFerryDbAbort 9) s (fun t => t.ferryState 9 = 5)
    && gives (.ferryAbort .host 9) (moving 2 { desc := some copyDesc, done := 8192, issued := 8192 }) (fun t => t.ferryState 9 = 0
      && t.num (Key.ferryLastStatus 9) = 0)
    && gives (.ferryAbort .host 9) (moving 2 { desc := some copyDesc, bursts := [⟨0, 96⟩] }) (fun t => t.ferryState 9 = 2
      && (t.ferryChan 9).aborting)
    && gives (.ferryAbort .host 9) (moving 5 {}) (fun t => t.ferryState 9 = 5)) = true := by decide +kernel

theorem test_doorbell : (let s := { moving 0 {} with life := { (moving 0 {}).life with logsOn := true } }
    adm s .host (Key.ferryDescAddr 9) 64 && adm s .host (Key.ferryCommand 9) 1
    && gives (.hbFerryDbStart 9 70) s (fun t => t.num (Key.ferryDescAddr 9) = 64 && t.ferryState 9 = 1
      && t.dict.nextSeq = s.dict.nextSeq + 2)) = true := by decide +kernel

/-- The bytes of a FILL of 64 bytes at 2 MiB with a pattern. -/
def fillDesc : List Byte := [2, 0, 0, 0] ++ leBytes 4 64 ++ zeros 8 ++ leBytes 8 0x200000 ++ leBytes 8 7 ++ zeros 32

theorem test_ferry_fetch : (let s := (moving 1 { fetch := 640 }).store 640 fillDesc
    s.descOk 9 fillDesc && gives (.ferryFetchComplete 9 [] false) s (fun t => t.ferryState 9 = 2
      && ((t.ferryChan 9).desc.map fun d => (d.op, d.length, d.dst, d.fill)) = some (2, 64, 0x200000, 7))
    && gives (.ferryFetchComplete 9 [] false) (s.store 641 [128]) (fun t => t.ferryState 9 = 5 && t.num (Key.ferryLastStatus 9) = 5)
    && gives (.ferryFetchComplete 9 [] true) s (fun t => t.ferryState 9 = 5 && t.num (Key.ferryLastStatus 9) = 4)
    && gives (.ferryFetchComplete 9 [] false) { s with g6 := { s.g6 with bad := [10] } } (fun t => t.num (Key.ferryLastStatus 9) = 6)
    && gives (.ferryFetchComplete 9 [] false) (moving 2 {}) (fun t => t = moving 2 {})
    && gives (.ferryFetchComplete 9 [1] false) (moving 2 {}) (fun t => t.num Key.ferryCplTimeoutCount = 1)) = true := by decide +kernel

theorem test_ferry_grant : (let s := (moving 3 { desc := some { copyDesc with reqMode := 1 } }).putWire 0x109 100 false
    gives (.ferryGrant 9) s (fun t => t.ferryState 9 = 2 && (t.ferryChan 9).grants = 1 && t.wire 0x109 = [])
    && gives (.ferryGrant 9) (s.modFerry 9 fun c => { c with grants := 255 }) (fun t => t.num (Key.ferryGrantOverflow 9) = 1
      && (t.ferryChan 9).grants = 255)
    && gives (.ferryGrant 8) s (fun t => t = s)) = true := by decide +kernel

/-- The first burst of the copy ends at the source's 4 KiB boundary. -/
theorem test_ferry_burst_issue : (let s := (moving 2 { desc := some copyDesc }).setNum (Key.ferryMaxBursts 9) 4
    s.ferryPick = some 9 && gives .ferryBurstIssue s (fun t => (t.ferryChan 9).bursts = [⟨0, 96⟩] && (t.ferryChan 9).issued = 96
      && t.ferry.turn = 9)
    && gives .ferryBurstIssue (moving 0 {}) (fun t => (t.ferryChan 9).bursts = [])
    && gives .ferryBurstIssue ((moving 2 { desc := some { copyDesc with reqMode := 1 } }).setNum (Key.ferryMaxBursts 9) 4) (fun t =>
      t.ferryState 9 = 3)) = true := by decide +kernel

theorem test_ferry_burst_complete : (let s := (moving 2 { desc := some { copyDesc with length := 4 }, issued := 4, bursts := [⟨0, 4⟩] }).store 0x100FA0 [1, 2, 3, 4]
    gives (.ferryBurstComplete 9 [] []) s (fun t => memRead t.g6.mem 0x1FFFFF 6 = [0, 1, 2, 3, 4, 0] && (t.ferryChan 9).done = 4
      && t.num (Key.ferryBytes 9) = 4)
    && gives (.ferryBurstComplete 9 [] []) { s with g6 := { s.g6 with bad := [0x403E] } } (fun t => t.ferryState 9 = 5
      && t.num (Key.ferryLastStatus 9) = 6)
    && gives (.ferryBurstComplete 9 [] []) (s.modFerry 9 fun c => { c with aborting := true }) (fun t => t.ferryState 9 = 5
      && t.num (Key.ferryLastStatus 9) = 2 && t.num (Key.ferryResidue 9) = 0)
    && gives (.ferryBurstComplete 9 [] []) (moving 2 {}) (fun t => t = moving 2 {})) = true := by decide +kernel

theorem test_ferry_compare : (let c := (moving 2 { desc := some { copyDesc with op := 3, length := 4 }, issued := 4, bursts := [⟨0, 4⟩] }).store 0x100FA0 [1, 2, 3, 4]
    gives (.ferryBurstComplete 9 [] []) (c.store 0x200000 [1, 2, 3, 4]) (fun t => (t.ferryChan 9).done = 4 && t.ferryState 9 = 2)
    && gives (.ferryBurstComplete 9 [] []) (c.store 0x200000 [1, 2, 9, 9]) (fun t => t.ferryState 9 = 5 && t.num (Key.ferryLastStatus 9) = 1
      && fieldAt (memRead t.g6.mem 4096 16) 8 4 = 2)) = true := by decide +kernel

/-- RESHUFFLE of two planes of two bytes: plane rows become interleaved elements. -/
theorem test_ferry_reshuffle : (let d := { copyDesc with op := 4, length := 4, rsMode := 1, elem := 1, planes := 2, rowBytes := 2 }
    let c := (moving 2 { desc := some d, issued := 4, bursts := [⟨0, 4⟩] }).store 0x100FA0 [1, 2, 3, 4]
    gives (.ferryBurstComplete 9 [] []) c (fun t => memRead t.g6.mem 0x200000 4 = [1, 3, 2, 4] && (t.ferryChan 9).done = 4)) = true := by
  decide +kernel

theorem test_ferry_end : (let s := moving 2 { desc := some copyDesc, done := 8192, issued := 8192 }
    gives (.ferryDescriptorEnd 9) s (fun t => t.ferryState 9 = 0 && fieldAt (memRead t.g6.mem 4096 16) 0 4 = 5)
    && gives (.ferryDescriptorEnd 8) s (fun t => t = s)
    && (let c := (moving 2 { desc := some { copyDesc with chain := true, next := 704 }, done := 8192, issued := 8192 }).setNum Key.ferryChainLimit 2
        gives (.ferryDescriptorEnd 9) (c.setNum (Key.ferryChainCount 9) 1) (fun t => t.ferryState 9 = 1 && (t.ferryChan 9).fetch = 704
          && t.num (Key.ferryChainCount 9) = 2)
        && gives (.ferryDescriptorEnd 9) (c.setNum (Key.ferryChainCount 9) 2) (fun t => t.ferryState 9 = 5
          && t.num (Key.ferryLastStatus 9) = 3 && t.num (Key.ferryNextAddr 9) = 704))) = true := by decide +kernel

theorem test_ferry_timeout : (let s := moving 1 { fetch := 0x8000000000000000 }
    gives (.ferryCompletionTimeout 9) s (fun t => t.ferryState 9 = 5 && t.num (Key.ferryLastStatus 9) = 4)
    && gives (.ferryCompletionTimeout 9) (moving 1 { fetch := 64 }) (fun t => t.ferryState 9 = 1)
    && gives (.ferryCompletionTimeout 9) (moving 2 { desc := some { copyDesc with src := 0x8000000000000000 }, bursts := [⟨96, 4096⟩] }) (fun t =>
      t.ferryState 9 = 5 && t.num (Key.ferryResidue 9) = 8096)) = true := by decide +kernel

/-! ## Calibration, self-tests, lane references (15 R449–R452, R456) -/

theorem test_cal_request : (adm ready .host Key.calRequest 5 && ready.num Key.calState ≠ 1
    && gives (.calRequest .host 5 20 true) ready (fun t => t.num Key.calState = 1 && t.num Key.calActive = 1 && t.maint.banks = [2]
      && t.num (Key.trgStale 7) = 1 && t.num (Key.trgStale 8) = 0 && t.int Key.calRefclkPpb = 20)
    && gives (.calRequest .host 5 (-100001) true) ready (fun t => t.num Key.calResult = 1 && t.num Key.calState = 0)
    && gives (.calRequest .host 5 20 false) ready (fun t => t.num Key.calResult = 2)
    && gives (.calRequest .host 5 20 true) (ready.setNum Key.calState 1) (fun t => t.num Key.hostLastResult = 8)) = true := by decide +kernel

theorem test_cal_sensors_wait : (let s := (List.range 16).foldl (fun s i => s.setInt (Key.thermSensor i) (95 * 256)) ready
    gives (.calRequest .host 16 0 true) s (fun t => t.maint.banks = [4] && t.maint.bank.isNone && t.num Key.calActive = 0)
    && gives (.calRequest .host 16 0 true) ready (fun t => t.maint.bank = some 4 && t.num Key.thermStaleMask = 255)) = true := by decide +kernel

/-- READY with the calibration of bank 0 in work. -/
def calibrating : State := (ready.setNum Key.calState 1).modMaint fun m => { m with bank := some 0, banks := [] }

theorem test_cal_bank_complete : (gives (.calBankComplete (List.replicate 8 (some 7))) calibrating (fun t => t.maint.bank.isNone
      && t.num Key.calState = 0 && tblGet t.mram.trims.fine 0 3 = 7 && (t.trg 3).newTrim = some 7 && t.num (Key.trgStale 3) = 1)
    && gives (.calBankComplete [some 7]) calibrating (fun t => t.num Key.calResult = 3 && (t.trg 0).newTrim = some 7 && (t.trg 1).newTrim.isNone)
    && gives (.calBankComplete []) ready (fun t => t = ready)) = true := by decide +kernel

theorem test_trim_apply : (let s := ready.modTrg 3 fun x => { x with newTrim := some 7 }
    gives (.trimApply 3) s (fun t => t.num (Key.trimFineDelay 3) = 7 && (t.trg 3).newTrim.isNone && t.num (Key.trgStale 3) = 0)
    && gives (.trimApply 3) (s.modTrg 3 fun x => { x with queue := [⟨99, 120, 0⟩] }) (fun t => (t.trg 3).newTrim.isSome)
    && gives (.trimApply 3) (s.modTrg 3 fun x => { x with queue := [⟨100, 120, 0⟩] }) (fun t => (t.trg 3).newTrim.isNone)
    && gives (.trimApply 4) s (fun t => t = s)) = true := by decide +kernel

theorem test_factory : (let s := { ready with mram := { ready.mram with factory := { fine := [(3, 9)] } } }
    adm s .host Key.calRestoreFactory 1
    && gives (.calRestoreFactory .host 1) s (fun t => t.num (Key.trimFineDelay 3) = 9 && t.mram.trims = t.mram.factory)
    && gives (.calRestoreFactory .host 1) { s with life := running.life } (fun t => t.num Key.hostLastResult = 3)) = true := by decide +kernel

theorem test_bist : (adm ready .host Key.selfTestRequest 0x30001 && gives (.selftestMemoryBist .host 3) ready (fun t =>
      t.maint.test = some (1, 0, 3) && t.num Key.selfTestState = 1)
    && gives (.selftestMemoryBist .host 3) running (fun t => t.num Key.hostLastResult = 3 && t.maint.test.isNone)) = true := by decide +kernel

theorem test_loopback : (1 < ready.portCount && adm ready .host Key.selfTestRequest 0x102
    && gives (.selftestLaneLoopback .host 1) (ready.modPort 1 fun p => { p with state := 4 }) (fun t => t.maint.test = some (2, 1, 0)
      && (t.port 1).state = 0)
    && gives (.selftestLaneLoopback .host 1) (running.setNum (Key.portEnable 1) 1) (fun t => t.num Key.hostLastResult = 9)
    && gives (.selftestLaneLoopback .host 1) (ready.setNum Key.selfTestState 1) (fun t => t.num Key.hostLastResult = 8)) = true := by decide +kernel

theorem test_golden : (2 < ready.pipeCount && adm ready .host Key.selfTestRequest 0x203
    && gives (.selftestGoldenVectors .host 2) ready (fun t => t.maint.test = some (3, 2, 0) && (t.pipe 2).testing && !(t.pipe 1).testing)
    && gives (.selftestGoldenVectors .host 2) ((running.setNum (Key.portEnable 1) 1).setNum (Key.portPlacement 1) 2) (fun t =>
      t.num Key.hostLastResult = 9)
    && adm (inState .init) .host Key.selfTestRequest 0x203
    && gives (.selftestGoldenVectors .host 2) (inState .init) (fun t => t.num Key.hostLastResult = 3)) = true := by decide +kernel

theorem test_selftest_complete : (let s (k : Nat) := { (ready.modMaint fun m => { m with test := some (k, 2, 0) }) with
      g6 := { mem := [(5, 6)] } }
    gives (.selftestComplete true 9) (s 1) (fun t => t.g6.mem = [] && t.num Key.selfTestDetail = 9 && t.num Key.selfTestResult = 0)
    && gives (.selftestComplete true 9) ((s 3).setNum (Key.pipelineInService 2) 0) (fun t => t.num (Key.pipelineInService 2) = 1)
    && gives (.selftestComplete false 9) ((s 3).setNum (Key.pipelineInService 2) 0) (fun t => t.num (Key.pipelineInService 2) = 0
      && t.num Key.selfTestResult = 1 && t.g6.mem = [(5, 6)])
    && gives (.selftestComplete true 9) { (s 3).setNum (Key.pipelineInService 2) 0 with life := running.life } (fun t => (t.pipe 2).returning)
    && gives (.selftestComplete true 0) ready (fun t => t = ready)) = true := by decide +kernel

theorem test_lref_loss : (gives (.lrefLoss false) ready (fun t => t.maint.switching = some (0, 1) && !t.lrefOn false && t.maint.lrefLostAt.isNone)
    && gives (.lrefLoss true) ready (fun t => t.maint.switching.isNone && !t.lrefOn true)
    && (let s := { (ready.setLref true false) with now := 9 }
        gives (.lrefLoss false) s (fun t => t.maint.switching.isNone && t.maint.lrefLostAt = some 9)
        && gives (.lrefReturn true) (s.setLref false false) (fun t => t.maint.switching = some (9, 1) && t.maint.lrefLostAt.isNone)
        && gives (.lrefReturn true) s (fun t => t.maint.switching.isNone && t.lrefOn true))) = true := by decide +kernel

theorem test_lref_switch : (let s := ready.modMaint fun m => { m with switching := some (0, 1), linesLost := 5 }
    gives .lrefSwitchComplete s (fun t => t.num Key.lrefActive = 1 && t.num Key.lrefSwitchCount = 1 && t.maint.switching.isNone
      && t.maint.linesLost = 0)
    && gives .lrefSwitchComplete ready (fun t => t = ready)) = true := by decide +kernel

theorem test_lref_both : (let s := { (ready.modMaint fun m => { m with lrefLostAt := some 5 }) with now := 10000005 }
    gives .lrefBothLost s (fun t => t.life.state = .fault && !t.pins.faultN && !t.life.faultFromRun)
    && gives .lrefBothLost { s with now := 10000004 } (fun t => t.life.state = .ready)
    && gives .lrefBothLost ready (fun t => t = ready)) = true := by decide +kernel

/-! ## Harbourmaster and the PCIe side (13 R391–R402; 14) -/

/-- READY with the host path open, its sources of priority 5 with target 4 allowed. -/
def hosted : State :=
  let s := ready.setNum Key.hmHostAttach 1
  let s := [40, 80].foldl (fun s n => (((s.setNum (Key.hmHostPriority n) 5).setNum (Key.hmHostTargets n) 1).setNum (Key.hmFwPriority n) 0).setNum
    (Key.hmVector n) 9) s
  { s with pcie := { s.pcie with linkUp := true, busMaster := true, msixEnable := true, unmasked := [9] } }

/-- The same with an edge of source 40 asked for. -/
def asked : State := { hosted with harbour := { hosted.harbour with req := [(40, 1)] } }

theorem test_hm_source : (hmKnown 40 && !hmLevelSource 40 && gives (.hmSourceEvent 40) asked (fun t => (t.hmSource true 40).pending
      && (t.hmSource false 40).pending && tblGet t.harbour.req 0 40 = 0 && (t.hmTarget 4).signalled
      && t.sent.map (·.dest) = [.msix 9])
    && gives (.hmSourceEvent 41) asked (fun t => t = asked)
    && gives (.hmSourceEvent 40) (asked.modHm true 40 fun x => { x with service := true }) (fun t => (t.hmSource true 40).again
      && t.num (Key.hmEventCount 40) = 1)) = true := by decide +kernel

theorem test_hm_level : (hmLevelSource 80 && (let s := hosted.setNum (Key.ferryState 1) 4
    s.hmLevel 80 && gives (.hmSourceEvent 80) s (fun t => (t.hmSource true 80).pending && (t.hmSource true 80).level)
    && gives (.hmLevelFall 80) (hosted.modHm true 80 fun x => { x with level := true, pending := true }) (fun t =>
      !(t.hmSource true 80).pending && !(t.hmSource true 80).level)
    && gives (.hmLevelFall 80) s (fun t => t = s))) = true := by decide +kernel

/-- The same with source 40 routed to target 4. -/
def routed : State := match exec (.hmSourceEvent 40) asked with | .next t => t | _ => asked

theorem test_hm_claim : (routed.hmTop 4 = some 40 && gives (.hbClaim 4) routed (fun t => (t.hmTarget 4).stack = [(40, 5)]
      && (t.hmSource true 40).service && !(t.hmSource true 40).pending && t.num (Key.hmClaims 4) = 1
      && (t.sent.getLast?.map (·.data)) = some (leBytes 4 (2 ^ 30 + 5 * 1024 + 40)))
    && hosted.hmTop 4 = none && hosted.hmWindowOf true = 0
    && gives (.hbClaim 4) (hosted.modTarget 4 fun x => { x with since := true }) (fun t => t.num (Key.hmSpurious 4) = 1
      && t.sent.map (·.data) = [[0, 0, 0, 0x80]])) = true := by decide +kernel

theorem test_eoi : (let s := (hosted.modTarget 4 fun x => { x with stack := [(40, 5)] }).modHm true 40 fun x => { x with service := true, again := true }
    gives (.hbEoi 4 40) s (fun t => (t.hmTarget 4).stack = [] && (t.hmSource true 40).pending && !(t.hmSource true 40).service)
    && gives (.hbEoi 4 41) s (fun t => t.num (Key.hmEoiMismatch 4) = 1 && (t.hmTarget 4).stack = [(40, 5)])
    && gives (.hbEoi 4 0) s (fun t => t = s)) = true := by decide +kernel

theorem test_moderation : (let s := routed.modTarget 4 fun x => { x with deferred := true, lastMsg := some 0 }
    gives (.hmModExpiry 0) { s with now := 1000000 } (fun t => (t.hmTarget 4).lastMsg = some 1000000 && !(t.hmTarget 4).deferred
      && t.sent.length = s.sent.length + 1)
    && gives (.hmModExpiry 0) hosted (fun t => t = hosted)
    && gives (.hmModExpiry 0) (hosted.modTarget 4 fun x => { x with deferred := true }) (fun t => t.sent = [] && !(t.hmTarget 4).deferred)) = true := by
  decide +kernel

theorem test_msix : (let s := { hosted with pcie := { hosted.pcie with unmasked := [], pba := [9] } }
    gives (.msixUnmask (some 9)) s (fun t => t.pcie.pba = [] && t.sent.map (·.dest) = [.msix 9])
    && gives (.msixUnmask none) { s with pcie := { s.pcie with funcMask := true } } (fun t => !t.pcie.funcMask && t.pcie.pba = [9])) = true := by
  decide +kernel

/-- A host path with source 40 in service and 80 pending. -/
def serving : State :=
  ((hosted.modHm true 40 fun x => { x with service := true, again := true }).modTarget 4 fun x => { x with stack := [(40, 5)] })

theorem test_host_path_reset : (let p := fun (t : State) => (t.hmTarget 4).stack = [] && (t.hmSource true 40).pending
      && !(t.hmSource true 40).service && t.num Key.hmHostAttach = 0 && !t.pcie.busMaster && t.num (Key.hmHostPriority 40) = 5
    gives (.perst .perstN) serving (fun t => p t && !t.pcie.linkUp) && gives .flr serving (fun t => p t && t.pcie.linkUp)
    && gives (.perst .hotReset) serving p && gives (.perst .linkDown) serving p) = true := by decide +kernel

theorem test_pcie : (gives (.d3hotEntry true) hosted (fun t => t.pcie.d3hot && t.pcie.pmeEn && t.pcie.busMaster)
    && gives .d0Return { hosted with pcie := { hosted.pcie with d3hot := true } } (fun t => !t.pcie.d3hot)
    && gives (.pcieLinkUp 8 4) ready (fun t => t.pcie.linkUp)
    && gives (.busMasterEnableWrite false) hosted (fun t => !t.pcie.busMaster)
    && gives .hbBadAccess hosted (fun t => t.pcie.badAccess = 1)
    && adm ready .host Key.hmHostAttach 1
    && gives (.hmHostAttach .host 1) { ready with pcie := { ready.pcie with recovery := true } } (fun t => t.flag Key.hmHostAttach && !t.pcie.recovery))
    = true := by decide +kernel

/-- READY with 1 GiB of memory in 24 channels of grain 1,024. -/
def memoried : State :=
  let s := (((ready.setNum Key.g6LocalTop 0x3FFFFFFF).setNum Key.g6ChannelsActive 0xFFFFFF).setNum Key.g6GrainActive 1024)
  (s.setNum (Key.g6ChState 0) 1).setNum (Key.g6ChState 1) 1

theorem test_bar2 : (gives (.hbBar2Base 0x300000) memoried (fun t => t.pcie.bar2Base = 0x300000)
    && gives (.hbBar2Base 0x300001) memoried (fun t => t.pcie.badAccess = 1)
    && (let s := { memoried with pcie := { memoried.pcie with bar2Base := 0x100000 } }
        gives (.bar2Write 8 [1, 2]) s (fun t => memRead t.g6.mem 0x100007 4 = [0, 1, 2, 0])
        && gives (.bar2Write 0x30000000 [1]) s (fun t => t.pcie.bar2Discards = 1 && t.g6.mem = [])
        && gives (.bar2Read 8 3 false) (s.store 0x100008 [5, 6]) (fun t => t.sent = [⟨.completion true, 0, [5, 6, 0]⟩])
        && gives (.bar2Read 8 3 false) { s with g6 := { s.g6 with bad := [0x4000] } } (fun t => t.sent.map (·.dest) = [.completion false])
        && gives (.bar2Read 8 3 true) s (fun t => t.pcie.bar2Aborts = 1))) = true := by decide +kernel

theorem test_g6_access : (memoried.g6On && memoried.num (Key.g6ChState (memoried.channelOf 64)) = 1
    && gives (.g6Access 1 1 (some (4, [7, 8])) 0 0 0 .none) memoried (fun t => memRead t.g6.mem 67 4 = [0, 7, 8, 0])
    && gives (.g6Access 1 1 none 0 0 0 .double) (memoried.setNum Key.g6SecdedActive 1) (fun t => t.g6.bad = [1]
      && t.num (Key.g6EccUncorrected 0) = 1)
    && gives (.g6Access 1 1 (some (0, List.replicate 64 3)) 0 0 0 .none) { memoried with g6 := { memoried.g6 with bad := [1, 2] } } (fun t =>
      t.g6.bad = [2])
    && gives (.g6Access 7 0x1000000 (some (0, [1])) 0 0 0 .none) memoried (fun t => t.pcie.bar2Discards = 1)
    && gives (.g6Access 1 1 none 0 0 0 .none) ready (fun t => t = ready)) = true
    ∧ exec (.g6Access 1 0x1000000 none 0 0 0 .none) memoried = .fault .noSuchLocalAddress := by
  refine ⟨by decide +kernel, ?_⟩
  rfl

theorem test_refresh : (gives (.refreshInterval 0 false) memoried (fun t => (t.chan 0).debt = 1)
    && gives (.refreshInterval 0 false) (memoried.modChan 0 fun x => { x with debt := 8, openRows := [(0, some (3, 0))] }) (fun t =>
      (t.chan 0).debt = 8 && (t.chan 0).openRows = [])
    && gives (.refreshInterval 0 true) (memoried.modChan 0 fun x => { x with debt := 3 }) (fun t => (t.chan 0).debt = 0)
    && gives (.refreshInterval 5 false) memoried (fun t => t = memoried)
    && gives (.refreshWindowEnd 0) (memoried.modChan 0 fun x => { x with rows := [⟨0, 1, 2⟩] }) (fun t => (t.chan 0).rows = [])
    && (let s := memoried.modChan 0 fun x => { x with openRows := [(2, some (3, 0))] }
        gives (.rowIdleClose 0 2) { s with now := 1000 } (fun t => tblGet (t.chan 0).openRows none 2 = none)
        && gives (.rowIdleClose 0 2) { s with now := 999 } (fun t => tblGet (t.chan 0).openRows none 2 = some (3, 0)))) = true := by
  decide +kernel

theorem test_g6_temp : (gives (.g6TempRead 0 (some 86) true) memoried (fun t => t.num (Key.g6RefreshRate 0) = 2 && t.num (Key.g6RefreshRate 1) = 2
      && t.int (Key.g6Temp 1) = 86)
    && gives (.g6TempRead 0 (some 84) true) (memoried.setNum (Key.g6RefreshRate 0) 2) (fun t => t.num (Key.g6RefreshRate 1) = 2)
    && gives (.g6TempRead 0 (some 83) true) memoried (fun t => t.num (Key.g6RefreshRate 1) = 1)
    && gives (.g6TempRead 0 none true) memoried (fun t => t.num (Key.g6RefreshRate 0) = 2)) = true := by decide +kernel

/-! ## Temperature, regulators, cores, operating points (13; 03 R83) -/

/-- Sixteen sensors at t °C. -/
def allAt (t : Int) : List Int := List.replicate 16 (t * 256)

theorem test_temperature : (gives (.thermConversion (allAt 95)) ready (fun t => t.int Key.thermMax = 95 * 256 && t.power.warnOn && !t.sched.thermLimit)
    && gives (.thermConversion (allAt 94)) ready (fun t => !t.power.warnOn)
    && gives (.thermConversion (allAt 100)) (ready.setNum Key.opNow 4) (fun t => t.sched.thermLimit && t.life.state = .ready)
    && gives (.thermConversion (allAt 110)) (ready.setNum Key.opNow 4) (fun t => t.life.state = .safe && !t.pins.thermN)
    && gives (.thermConversion (allAt 110)) { ready with power := { ready.power with restarting := [2] } } (fun t => t.life.state = .ready
      && t.int (Key.thermSensor 3) = 110 * 256)
    && gives (.thermConversion (allAt 95)) (inState .off) (fun t => t = inState .off)) = true := by decide +kernel

/-- READY with a regulator of role 2 at address 0x40 in slot 3. -/
def regulated : State := (ready.setNum (Key.regAddress 3) 0x40).setNum (Key.regRole 3) 2

theorem test_regulator_poll : (let r : RegReading := { vout := 790, iout := 5000, temp := 40, status := 0 }
    let rs := [none, none, none, some r]
    regulated.regKnown 3 && !regulated.regKnown 0 && regulated.coreReg = none && !regFault 0 && !regWarning 0
    && gives (.regulatorPoll rs) regulated (fun t => t.num (Key.regVout 3) = 790 && t.num (Key.regIout 3) = 5000 && t.int (Key.regTemp 3) = 40)
    && gives (.regulatorPoll rs) ready (fun t => t.num (Key.regVout 3) = 0)
    && gives (.regulatorPoll rs) (inState .off) (fun t => t = inState .off)) = true := by decide +kernel

theorem test_alert : (gives (.pmbAlert 0 (some 0)) regulated (fun t => !t.pins.pmbAlertN && t.num Key.pmbAlertCount = 1)
    && gives (.pmbAlert 3 none) regulated (fun t => t.num Key.pmbErrors = 1)
    && regFault 0x20 && gives (.pmbAlert 3 (some 0x20)) regulated (fun t => t.life.state = .fault && !t.pins.faultN)
    && gives (.pmbAlert 3 (some 0)) regulated (fun t => t.life.state = .ready)
    && gives (.pmbAlert 3 (some 0)) (inState .off) (fun t => !t.pins.pmbAlertN && t.num Key.pmbAlertCount = 0)) = true := by decide +kernel

theorem test_cores : (gives (.coreHeartbeatMiss 0) ready (fun t => t.power.restarting = [0] && !t.life.dictServed && t.num (Key.ctrlCoreRestarts 0) = 1)
    && gives (.coreHeartbeatMiss 2) ready (fun t => t.power.restarting = [2] && t.life.dictServed)
    && (let s := { ready with power := { ready.power with restarting := [1, 2] } }
        gives (.coreHeartbeatMiss 2) s (fun t => t = s)
        && gives (.coreRestartComplete 2) s (fun t => t.power.restarting = [1])
        && gives (.coreRestartComplete 3) s (fun t => t = s))
    && gives (.coreRestartComplete 0) { ready with life := { ready.life with dictServed := false, trigReset := false }, power := { ready.power with restarting := [0] } }
      (fun t => t.life.dictServed)) = true := by decide +kernel

theorem test_op_change : (let s := { ready with now := 900, sched := { ready.sched with opChange := some ⟨6, 400⟩, strips := [{ opMax := 4 }] } }
    gives .opChangeComplete s (fun t => t.num Key.opNow = 6 && t.num Key.opChangeCount = 1 && t.num Key.opChangeLast = 500
      && t.sched.strips.map (·.opMax) = [6])
    && gives .opChangeComplete ready (fun t => t = ready)) = true := by decide +kernel

theorem test_settle : (let s := (ready.setNum (Key.regAddress 3) 0x40).setNum (Key.regRole 3) 1
    let r := { s.setNum Key.opNow 5 with sched := { s.sched with settling := true, marginHigh := true } }
    s.coreReg = some 3 && gives .pmbSettle r (fun t => t.num Key.vddCoreNow = 790
      && t.sent.map (fun x => (x.dest, x.data)) = [(.pmbus 0x40 0x21, [0x16, 0x03]), (.pmbus 0x40 1, [0x80])] && !t.sched.settling)
    && gives .pmbSettle s (fun t => t = s)) = true := by decide +kernel

theorem test_avs : (let s := (((ready.setNum (Key.regAddress 3) 0x40).setNum (Key.regRole 3) 1).setNum Key.avsEnable 1).setNum Key.opNow 5
    gives (.avsTrimUpdate 3) s (fun t => t.opTrim 5 = 3 && t.num (Key.opVoltage 5) = 793)
    && gives (.avsTrimUpdate (-9)) (s.setTrim 5 (-38)) (fun t => t.opTrim 5 = -40)
    && gives (.avsTrimUpdate 9) s (fun t => t.opTrim 5 = 5)
    && gives (.avsTrimUpdate 3) ready (fun t => t = ready)) = true := by decide +kernel

theorem test_energy : (let s := { ready with power := { ready.power with energyNj := 999999 } }
    gives (.energySample [1, 2, 3, 4]) s (fun t => t.power.energyNj = 1000009 && t.num Key.energyTotal = 1 && t.num (Key.monitorPower 2) = 3)
    && gives (.energySample [1, 2, 3, 4]) (s.modMaint fun m => { m with bank := some 6 }) (fun t => t.flag Key.energyStale
      && t.num (Key.monitorPower 2) = 0 && t.power.staleTick)) = true := by decide +kernel

end Sys2Proof.Tests
end

section
/-! PROOFS. Reset and boot (O5, O9): the state reset leaves, and what supplies and SYS_RESET_N do. -/

namespace Sys2Proof.Machine

open Sys2Proof

variable (s : State)

/-! ## The reset state (01 R24; 16 R463) -/

/-- Until the dictionary is first served an output stands in its reset state (16 R463). -/
theorem State.trgLevel_in_reset {s : State} (h : s.life.trigReset = true) (o : Nat) :
    s.trgLevel o = if o < 16 then some false else none := by
  simp [State.trgLevel, h]

/-- Settles O5: the low-voltage outputs are low and the CMOS ones at high impedance; the rest is the record's defaults. -/
theorem resetLeavesTheStatedMachine : Obligations.ResetLeavesTheStatedMachine := by
  have hlevel : ∀ o, State.reset.trgLevel o = if o < 16 then some false else none := State.trgLevel_in_reset rfl
  unfold Obligations.ResetLeavesTheStatedMachine
  refine ⟨rfl, rfl, rfl, rfl, State.wf_reset, fun _ => rfl, fun _ => rfl, rfl, rfl, fun o ho => ?_, fun o ho => ?_, rfl, rfl, rfl⟩
  · rw [hlevel, if_pos ho]
  · rw [hlevel, if_neg (by omega)]

/-! ## The boot ROM's start (15 R433, R436, R437) -/

/-- The boot counted: the epoch rises, and one of the two counts. -/
theorem State.countBoot_mram :
    s.countBoot.mram.epoch = s.mram.epoch + 1
    ∧ s.countBoot.mram.powerCycles = s.mram.powerCycles + (if s.pins.powerOnFlag then 1 else 0)
    ∧ s.countBoot.mram.powerCycles + s.countBoot.mram.resets = s.mram.powerCycles + s.mram.resets + 1
    ∧ s.countBoot.mram = { s.mram with epoch := s.countBoot.mram.epoch, powerCycles := s.countBoot.mram.powerCycles
                                       resets := s.countBoot.mram.resets } := by
  cases h : s.pins.powerOnFlag
  · simp [State.countBoot, h, Nat.add_assoc]
  · simp [State.countBoot, h, Nat.add_right_comm]

/-- The boot ROM touches pins, life cycle and boot counts alone. -/
theorem State.boot_frame (mode : Nat) :
    s.boot mode = { s with pins := (s.boot mode).pins, life := (s.boot mode).life, mram := s.countBoot.mram } := by
  simp only [State.boot]
  split <;> rfl

/-- BOOT_MODE as sampled selects the slot or the programming hold. -/
theorem State.boot_life (mode : Nat) :
    (s.boot mode).life.state = .boot ∧ (s.boot mode).life.bootMode = mode
    ∧ (s.boot mode).life.slotB = decide (mode = 1) ∧ (s.boot mode).life.programming = decide (mode = 3) := by
  simp only [State.boot]
  split <;> exact ⟨rfl, rfl, rfl, rfl⟩

/-- The programming hold shows at the pins. -/
theorem State.boot_hold : (s.boot 3).pins.faultN = false ∧ (s.boot 3).pins.qspiHighZ = true := ⟨rfl, rfl⟩

/-- The boot ROM leaves the inputs as they are. -/
theorem State.boot_inputs (mode : Nat) :
    (s.boot mode).pins.suppliesValid = s.pins.suppliesValid ∧ (s.boot mode).pins.sysResetN = s.pins.sysResetN := by
  simp only [State.boot]
  split <;> exact ⟨rfl, rfl⟩

/-- With the pins as a supply or reset event leaves them, the boot ROM starts as R433, R436 and R437 say. -/
theorem State.booted_modPins (f : Pins → Pins) (mode : Nat) : booted s ((s.modPins f).boot mode) mode := by
  obtain ⟨hstate, hmode, hslot, hprog⟩ := (s.modPins f).boot_life mode
  obtain ⟨hepoch, -, hcounts, hmram⟩ := (s.modPins f).countBoot_mram
  have hframe := (s.modPins f).boot_frame mode
  have hm : ((s.modPins f).boot mode).mram = (s.modPins f).countBoot.mram := by rw [hframe]
  refine ⟨hstate, hmode, hslot, hprog, ?_, ?_, ?_, ?_, ?_, ?_, ?_, ?_, ?_⟩
  · rintro rfl; exact (s.modPins f).boot_hold
  · rw [hm, hepoch]; rfl
  · rw [hm, hcounts]; rfl
  · rw [hm, hmram]; rfl
  · rw [hm, hmram]; rfl
  · rw [hm, hmram]; rfl
  · rw [hm, hmram]; rfl
  · rw [hm, hmram]; rfl
  · rw [hm]; exact hframe

/-- A boot counts a power cycle where the supplies have just come up. -/
theorem State.boot_powerCycles (f : Pins → Pins) (mode : Nat) :
    ((s.modPins f).boot mode).mram.powerCycles = s.mram.powerCycles + (if (f s.pins).powerOnFlag then 1 else 0) := by
  rw [State.boot_frame]
  exact (s.modPins f).countBoot_mram.2.1

/-! ## Supplies and SYS_RESET_N -/

theorem execSuppliesValid_boots (mode : BitVec 3) (hv : s.pins.suppliesValid = false) (ho : s.life.state = .off) :
    ∃ t, exec (.suppliesValid true mode) s = .next t ∧ booted s t mode.toNat ∧ t.pins.suppliesValid = true
      ∧ t.mram.powerCycles = s.mram.powerCycles + 1 := by
  let up : Pins → Pins := fun p => { p with suppliesValid := true, powerOnFlag := true, sysResetN := true }
  refine ⟨(s.modPins up).boot mode.toNat, ?_, s.booted_modPins up _, ?_, s.boot_powerCycles up _⟩
  · simp [exec, execSuppliesValid, hv, ho, State.modPins, up]
  · exact (State.boot_inputs _ _).1

theorem execSuppliesValid_waits (high : Bool) (mode : BitVec 3) (hv : s.pins.suppliesValid = false)
    (h : high = false ∨ s.life.state ≠ .off) :
    ∃ t, exec (.suppliesValid high mode) s = .next t ∧ t.pins.suppliesValid = true ∧ t.pins.sysResetN = high
      ∧ t = { s with pins := t.pins } := by
  refine ⟨s.modPins fun p => { p with suppliesValid := true, powerOnFlag := true, sysResetN := high }, ?_, rfl, rfl, rfl⟩
  rcases h with rfl | h
  · simp [exec, execSuppliesValid, hv]
  · simp [exec, execSuppliesValid, hv, h]

theorem execSysResetRelease_off (mode : BitVec 3) (ho : s.life.state = .off) :
    ∃ t, exec (.sysResetRelease mode) s = .next t ∧ t.pins.sysResetN = true
        ∧ (s.pins.suppliesValid = false → t = { s with pins := t.pins })
        ∧ (s.pins.suppliesValid = true → booted s t mode.toNat
            ∧ t.mram.powerCycles = s.mram.powerCycles + (if s.pins.powerOnFlag then 1 else 0)) := by
  let up : Pins → Pins := fun p => { p with sysResetN := true }
  cases hv : s.pins.suppliesValid
  · refine ⟨s.modPins up, ?_, rfl, fun _ => rfl, nofun⟩
    simp [exec, execSysResetRelease, ho, hv, State.modPins, up]
  · refine ⟨(s.modPins up).boot mode.toNat, ?_, (State.boot_inputs _ _).2, nofun,
      fun _ => ⟨s.booted_modPins up _, s.boot_powerCycles up _⟩⟩
    simp [exec, execSysResetRelease, ho, hv, State.modPins, up]

/-- Settles O9: from OFF both events start the boot ROM; a loss or a reset leaves the reset state but for what MRAM, the part and
the model's own trace keep. -/
theorem suppliesAndResetBoot : Obligations.SuppliesAndResetBoot := by
  unfold Obligations.SuppliesAndResetBoot
  refine ⟨fun mode s hv ho => execSuppliesValid_boots s mode hv ho, fun high mode s => ⟨fun hv => ?_, ?_⟩,
    fun mode s => ⟨fun ho => ?_, execSysResetRelease_off s mode⟩, fun s => ?_, fun s => ?_⟩
  · simp [exec, execSuppliesValid, hv]
  · exact execSuppliesValid_waits s high mode
  · simp [exec, execSysResetRelease, ho]
  · exact ⟨_, rfl, rfl, rfl, rfl, rfl, rfl, rfl, rfl⟩
  · exact ⟨_, rfl, rfl, rfl, rfl, rfl, rfl, rfl, rfl, rfl⟩

end Sys2Proof.Machine
end

section
/-! PROOFS. One supervisor's datagram can carry several state requests (O7). -/

namespace Sys2Proof.Machine

open Sys2Proof

/-! ## Two state requests in one DICT_WRITE (11 R331; 01 R24) -/

/-- The supervisor that asks. -/
def twoRequestsPeer : Peer := ⟨0, 0x0A000002, 5000⟩

/-- RUN, with session 0 open for that supervisor on a field port whose link is up. -/
def twoRequestsState : State :=
  let s : State := { State.reset with
    life := { state := .run, dictServed := true }
    net := { sessions := [(0, { peer := some twoRequestsPeer, authSlot := 0xFF })] } }
  s.setNum (Key.fldLinkUp 0) 1

/-- A DICT_WRITE of `StateRequest` twice: 6 for SAFE, then 3 for READY. -/
def twoRequests : List Byte :=
  let item (v : Nat) : List Byte := leBytes 4 Key.stateRequest ++ leBytes 1 1 ++ zeros 3 ++ leBytes 8 v
  jfpDatagram 0x02 0 1 0xFFFF ([2, 0, 0, 0] ++ item 6 ++ item 3) none

/-- The datagram is one that can arrive. -/
theorem twoRequests_wf : (Instr.dictWriteJfp twoRequestsPeer twoRequests).wf = true := by decide +kernel

/-- The first item takes the machine from RUN to SAFE, the second from SAFE to INIT. -/
theorem twoRequests_init : (twoRequestsState.supervisor twoRequestsPeer twoRequests).life.state = .init := by decide +kernel

/-- Refutes O7: each item of a supervisor's DICT_WRITE is a write of its own, so that one command moves the machine along two
arcs, from RUN by SAFE to INIT; the table has no arc from RUN to INIT. -/
theorem not_deviceStatesMoveByTheTable : ¬ Obligations.DeviceStatesMoveByTheTable := by
  unfold Obligations.DeviceStatesMoveByTheTable
  intro h
  have hmove := h (.dictWriteJfp twoRequestsPeer twoRequests) twoRequestsState _ nofun rfl
  rw [twoRequests_init] at hmove
  exact absurd hmove (by decide)

end Sys2Proof.Machine
end

section
/-! PROOFS. A pending value of an entry that no write can reach takes effect as RUN is entered (O11). -/

namespace Sys2Proof.Machine

open Sys2Proof

/-! ## A pending value of StripIndex (01 R26; 02 R45) -/

/-- READY with what RUN asks for (memory, no lookback ring, the web encoder, leave to run without W) and, in the dictionary, a
pending value of `StripIndex`. -/
def strayPending : State :=
  let ready : State := { State.reset with life := { state := .ready, dictServed := true } }
  let configured := (((ready.setNum Key.g6LocalTop (24 * 1073741824 - 1)).setNum Key.s0RingEn 0).setNum (Key.encEnable 0) 1).setNum
    Key.wFreeRunOk 1
  configured.setPend Key.stripIndex 5

/-- The host may ask for RUN. -/
theorem strayPending_requests : requests strayPending .host 4 :=
  ⟨⟨by decide, rfl, rfl⟩, by decide +kernel⟩

theorem strayPending_notChanging : strayPending.changing = false := by decide +kernel

/-- No configuration check fails. -/
theorem strayPending_checkResult : strayPending.checkResult = none := by decide +kernel

/-- RUN's entry applies the pending value, and the strip it opens bears it as its index. -/
theorem strayPending_strips : (strayPending.requestRow .host 4).sched.strips.map (·.index) = [5] := by decide +kernel

/-- Refutes O11: the statement holds of every state, one with a pending value of `StripIndex` among them; from it an accepted
request enters RUN with strip 5 open, and not with strip 0. -/
theorem not_stateRequestsMoveTheDevice : ¬ Obligations.StateRequestsMoveTheDevice := by
  unfold Obligations.StateRequestsMoveTheDevice
  intro h
  obtain ⟨t, ht, hrun, -⟩ := h.1 .host strayPending strayPending_requests
  obtain rfl : strayPending.requestRow .host 4 = t := Host.Outcome.next.inj ht
  obtain ⟨-, hstrips, -⟩ := hrun strayPending_notChanging rfl strayPending_checkResult
  rw [strayPending_strips] at hstrips
  exact absurd hstrips (by decide)

end Sys2Proof.Machine
end

section
/-! PROOFS. What the machine's operations leave as it is, apart from the transitions between device states: the part, the pins, the
life cycle, MRAM, the external memory, whether the recorder has stopped, and which strips are kept. One lemma per operation, in the
order of the model. -/

namespace Sys2Proof.Machine

open Sys2Proof

variable (s : State)

/-! ## What stands -/

/-- The parts of the state that only transitions of the device, saves and accesses to GDDR6 change. -/
structure Standing where
  /-- The commands that wait. -/
  pending : List Instr
  /-- The time counter. -/
  now     : Nat
  /-- The part. -/
  part    : Part
  /-- The pins. -/
  pins    : Pins
  /-- The life cycle. -/
  life    : Life
  /-- MRAM. -/
  mram    : Mram
  /-- The external memory. -/
  g6      : G6
  /-- Whether the recorder has stopped. -/
  stopped : Bool

/-- What stands, with the indices of the strips kept. -/
structure Kept extends Standing where
  /-- The indices of the strips not yet summarised. -/
  strips : List Nat

/-- What stands in a state, with its strips. -/
def State.kept (s : State) : Kept :=
  { pending := s.pending, now := s.now, part := s.part, pins := s.pins, life := s.life, mram := s.mram, g6 := s.g6
    stopped := s.logs.stopped, strips := s.sched.strips.map (·.index) }

/-! ## Updates of records, choices and loops -/

/-- An update of the other fields keeps what stands, and the strips where it keeps their indices. -/
@[simp] theorem State.kept_mk (fc : Nat) (d : Dict) (lo : Logs) (sc : Sched) (la : Tbl Lane) (po : Tbl Port) (pi : Tbl Pipe)
    (ca : Causeway) (re : Reef) (ps : List Piece) (pn : Nat) (at_ : Atoll) (st : Streams) (mo : Motion) (ne : Net) (fe : Ferry)
    (ha : Harbour) (pc : Pcie) (pw : Power) (ma : Maint) (se : List Sent) (hl : lo.stopped = s.logs.stopped)
    (hs : sc.strips.map (·.index) = s.sched.strips.map (·.index)) :
    State.kept ⟨s.pending, s.now, fc, s.part, s.pins, s.life, s.mram, d, lo, sc, la, po, pi, ca, re, ps, pn, at_, st, mo, ne, s.g6,
      fe, ha, pc, pw, ma, se⟩ = s.kept := by
  simp only [State.kept, hl, hs]

/-- An update of the other fields keeps what stands, whatever it does with the strips. -/
@[simp] theorem State.standing_mk (fc : Nat) (d : Dict) (lo : Logs) (sc : Sched) (la : Tbl Lane) (po : Tbl Port) (pi : Tbl Pipe)
    (ca : Causeway) (re : Reef) (ps : List Piece) (pn : Nat) (at_ : Atoll) (st : Streams) (mo : Motion) (ne : Net) (fe : Ferry)
    (ha : Harbour) (pc : Pcie) (pw : Power) (ma : Maint) (se : List Sent) (hl : lo.stopped = s.logs.stopped) :
    (State.kept ⟨s.pending, s.now, fc, s.part, s.pins, s.life, s.mram, d, lo, sc, la, po, pi, ca, re, ps, pn, at_, st, mo, ne, s.g6,
      fe, ha, pc, pw, ma, se⟩).toStanding = s.kept.toStanding := by
  simp only [State.kept, hl]

@[simp] theorem State.kept_ite (c : Prop) [Decidable c] (s t : State) : (if c then s else t).kept = if c then s.kept else t.kept :=
  apply_ite State.kept c s t

@[simp] theorem Kept.toStanding_ite (c : Prop) [Decidable c] (a b : Kept) :
    (if c then a else b).toStanding = if c then a.toStanding else b.toStanding :=
  apply_ite Kept.toStanding c a b

@[simp] theorem State.kept_forN (n : Nat) {f : State → Nat → State} (h : ∀ s i, (f s i).kept = s.kept) :
    (s.forN n f).kept = s.kept :=
  State.forN_keeps s State.kept n h

@[simp] theorem State.kept_foldl {α : Type} (l : List α) {f : State → α → State} (h : ∀ s a, (f s a).kept = s.kept) :
    (l.foldl f s).kept = s.kept :=
  State.foldl_keeps s State.kept l h

@[simp] theorem State.standing_foldl {α : Type} (l : List α) {f : State → α → State}
    (h : ∀ s a, (f s a).kept.toStanding = s.kept.toStanding) : (l.foldl f s).kept.toStanding = s.kept.toStanding :=
  State.foldl_keeps s (·.kept.toStanding) l h

@[simp] theorem State.kept_when (b : Bool) {f : State → State} (h : ∀ s, (f s).kept = s.kept) : (s.when b f).kept = s.kept :=
  State.when_keeps s State.kept b h

@[simp] theorem State.kept_setNet (n : Net) : ({ s with net := n } : State).kept = s.kept := rfl

@[simp] theorem State.kept_setCause (c : Causeway) : ({ s with cause := c } : State).kept = s.kept := rfl

/-! ## Strips changed in place -/

theorem State.kept_mapStrips {g : Strip → Strip} (h : ∀ x, (g x).index = x.index) :
    ({ s with sched := { s.sched with strips := s.sched.strips.map g } } : State).kept = s.kept := by
  simp [h]

@[simp] theorem State.kept_modStrip (k : Nat) {f : Strip → Strip} (h : ∀ x, (f x).index = x.index) :
    (s.modStrip k f).kept = s.kept :=
  State.kept_mapStrips s fun x => by
    split
    · exact h x
    · rfl

/-! ## What leaves the chip, ports, logs and counters -/

@[simp] theorem State.kept_stepFree : s.stepFree.kept = s.kept := rfl

@[simp] theorem State.kept_setVal (k : Nat) (v : Slot) : (s.setVal k v).kept = s.kept := rfl

@[simp] theorem State.kept_setNum (k n : Nat) : (s.setNum k n).kept = s.kept := by simp [State.setNum]

@[simp] theorem State.kept_setFlag (k : Nat) (b : Bool) : (s.setFlag k b).kept = s.kept := by simp [State.setFlag]

@[simp] theorem State.kept_add (k n : Nat) : (s.add k n).kept = s.kept := by simp [State.add]

@[simp] theorem State.kept_bump (k : Nat) : (s.bump k).kept = s.kept := by simp [State.bump]

@[simp] theorem State.kept_bumpIf (b : Bool) (k : Nat) : (s.bumpIf b k).kept = s.kept := by simp [State.bumpIf]

@[simp] theorem State.kept_setBlob (k : Nat) (b : List Byte) : (s.setBlob k b).kept = s.kept := rfl

@[simp] theorem State.kept_setPort (n : Nat) (p : Port) : (s.setPort n p).kept = s.kept := rfl

@[simp] theorem State.kept_modPort (n : Nat) (f : Port → Port) : (s.modPort n f).kept = s.kept := by simp [State.modPort]

@[simp] theorem State.kept_modLane (n : Nat) (f : Lane → Lane) : (s.modLane n f).kept = s.kept := rfl

@[simp] theorem State.kept_modPipe (p : Nat) (f : Pipe → Pipe) : (s.modPipe p f).kept = s.kept := rfl

@[simp] theorem State.kept_send (dest : SentTo) (data : List Byte) : (s.send dest data).kept = s.kept := rfl

@[simp] theorem State.kept_raiseHm (n : Nat) : (s.raiseHm n).kept = s.kept := rfl

@[simp] theorem State.kept_putWire (code t : Nat) (mark : Bool) : (s.putWire code t mark).kept = s.kept := rfl

@[simp] theorem State.kept_sendField (port cls : Nat) (f : Frame) {drop : State → State} (h : ∀ s, (drop s).kept = s.kept) :
    (s.sendField port cls f drop).kept = s.kept := by
  simp [State.sendField, h]

@[simp] theorem State.kept_countQueueDrop (port : Nat) : (countQueueDrop port s).kept = s.kept := by simp [countQueueDrop]

@[simp] theorem State.kept_modSession (i : Nat) (f : Session → Session) : (s.modSession i f).kept = s.kept := rfl

@[simp] theorem State.kept_sendSession (i cls msgType : Nat) (body : List Byte) :
    (s.sendSession i cls msgType body).kept = s.kept := by
  simp only [State.sendSession]
  repeat' split
  all_goals simp

@[simp] theorem State.kept_notifySessions (b code : Nat) (data : List Byte) : (s.notifySessions b code data).kept = s.kept := by
  simp [State.notifySessions]

@[simp] theorem State.kept_journalStrip (src target : Nat) (value : Slot) (result : Nat) (strip : Option Nat) :
    (s.journalStrip src target value result strip).kept = s.kept := by
  simp [State.journalStrip]

@[simp] theorem State.kept_journalAdd (src target : Nat) (value : Slot) (result : Nat) :
    (s.journalAdd src target value result).kept = s.kept := by
  simp [State.journalAdd]

@[simp] theorem State.kept_journalEvent (target value : Nat) :
    (s.journalEvent target value).kept = s.kept := by simp [State.journalEvent]

@[simp] theorem State.kept_startFlush : s.startFlush.kept = s.kept := by simp [State.startFlush]

@[simp] theorem State.kept_stageRecord (r : RecRecord) : (s.stageRecord r).kept = s.kept := by simp [State.stageRecord]

@[simp] theorem State.kept_queueRecord (e : Option TroubleEntry) (r : RecRecord) : (s.queueRecord e r).kept = s.kept := rfl

@[simp] theorem State.kept_stage (code unit detail : Nat) : (s.stage code unit detail).kept = s.kept := by
  simp [State.stage]

@[simp] theorem State.kept_enterTrouble (e : TroubleEntry) (r : RecRecord) : (s.enterTrouble e r).kept = s.kept := by
  simp [State.enterTrouble]

@[simp] theorem State.kept_troubleStrip (code unit sev detail strip : Nat) :
    (s.troubleStrip code unit sev detail strip).kept = s.kept := by
  simp [State.troubleStrip]

@[simp] theorem State.kept_trouble (code unit sev detail : Nat) : (s.trouble code unit sev detail).kept = s.kept := by
  simp [State.trouble]

/-! ## Encoders, triggers, Narrows (10) -/

@[simp] theorem State.kept_modCmp (u : Nat) (f : Compare → Compare) : (s.modCmp u f).kept = s.kept := rfl

@[simp] theorem State.kept_modTrg (o : Nat) (f : TrigOut → TrigOut) : (s.modTrg o f).kept = s.kept := rfl

@[simp] theorem State.kept_modEvChan (k : Nat) (f : Channel → Channel) : (s.modEvChan k f).kept = s.kept := by
  simp [State.modEvChan]

@[simp] theorem State.kept_produce (code t : Nat) : (s.produce code t).kept = s.kept := by simp [State.produce]

@[simp] theorem State.kept_restartCompares : s.restartCompares.kept = s.kept := State.kept_forN s 48 fun _ _ => rfl

@[simp] theorem State.kept_clearOutput (o : Nat) : (s.clearOutput o).kept = s.kept := by simp [State.clearOutput]

/-! ## Camera ports (04) -/

@[simp] theorem State.kept_setPortState (n st : Nat) : (s.setPortState n st).kept = s.kept := by simp [State.setPortState]

@[simp] theorem State.kept_settleStall (n : Nat) : (s.settleStall n).kept = s.kept := by simp [State.settleStall]

@[simp] theorem State.kept_freeCredits (port n : Nat) (buffered : Bool) : (s.freeCredits port n buffered).kept = s.kept := by
  simp [State.freeCredits]

@[simp] theorem State.kept_reportLine (n t : Nat) : (s.reportLine n t).kept = s.kept := by simp [State.reportLine]

@[simp] theorem State.kept_reportFree (n key : Nat) : (s.reportFree n key).kept = s.kept := by simp [State.reportFree]

@[simp] theorem State.kept_reportHeldFree (n : Nat) : (s.reportHeldFree n).kept = s.kept := by simp [State.reportHeldFree]

@[simp] theorem State.kept_loseEntry (n slot : Nat) : (s.loseEntry n slot).kept = s.kept := by simp [State.loseEntry]

@[simp] theorem State.kept_dropReception (n : Nat) : (s.dropReception n).kept = s.kept := by
  simp only [State.dropReception]
  repeat' split
  all_goals simp

@[simp] theorem State.kept_validPacket (n : Nat) (ok : Bool) : (s.validPacket n ok).kept = s.kept := by simp [State.validPacket]

@[simp] theorem State.kept_portOff (n : Nat) : (s.portOff n).kept = s.kept := by
  have h : ((s.dropReception n).forN 4 fun s i => s.modLane (4 * n + i) fun _ => {}).kept = (s.dropReception n).kept :=
    State.kept_forN _ 4 fun _ _ => rfl
  simp [State.portOff, h]

@[simp] theorem State.kept_portSettle (n : Nat) : (s.portSettle n).kept = s.kept := by simp [State.portSettle]

@[simp] theorem State.kept_discardPacket (n : Nat) : (s.discardPacket n).kept = s.kept := by
  simp only [State.discardPacket]
  repeat' split
  all_goals simp

/-! ## Pixel pipelines (05) -/

@[simp] theorem State.kept_measure (q n k : Nat) : (s.measure q n k).kept = s.kept :=
  State.kept_modStrip s k fun _ => rfl

@[simp] theorem State.kept_startLoad (n : Nat) : (s.startLoad n).kept = s.kept := by simp [State.startLoad]

/-! ## Causeway (06) -/

/-! ## Harbourmaster (13) -/

@[simp] theorem State.kept_modHm (host : Bool) (n : Nat) (f : HmSource → HmSource) : (s.modHm host n f).kept = s.kept := by
  simp [State.modHm]

@[simp] theorem State.kept_modTarget (t : Nat) (f : HmTarget → HmTarget) : (s.modTarget t f).kept = s.kept := rfl

@[simp] theorem State.kept_sendMsix (v : Nat) : (s.sendMsix v).kept = s.kept := by simp [State.sendMsix]

@[simp] theorem State.kept_hmMessage (t : Nat) : (s.hmMessage t).kept = s.kept := by simp [State.hmMessage]

@[simp] theorem State.kept_hmDue (t : Nat) : (s.hmDue t).kept = s.kept := by simp [State.hmDue]

@[simp] theorem State.kept_hmRouteAll (host : Bool) : (s.hmRouteAll host).kept = s.kept := by simp [State.hmRouteAll]

@[simp] theorem State.kept_hmWake (host : Bool) : (s.hmWake host).kept = s.kept := by simp [State.hmWake]

@[simp] theorem State.kept_hmSignal (t : Nat) : (s.hmSignal t).kept = s.kept := by simp [State.hmSignal]

@[simp] theorem State.kept_settleHm : s.settleHm.kept = s.kept := by simp [State.settleHm]

/-! ## Ferry and the host rings (12) -/

@[simp] theorem State.kept_modFerry (ch : Nat) (f : FerryChan → FerryChan) : (s.modFerry ch f).kept = s.kept := rfl

@[simp] theorem State.kept_setFerry (ch st : Nat) : (s.setFerry ch st).kept = s.kept := by simp [State.setFerry]

@[simp] theorem State.kept_ringWrite (base size ofs : Nat) (data : List Byte) :
    (s.ringWrite base size ofs data).kept = s.kept := by
  simp [State.ringWrite]

@[simp] theorem State.kept_ringUnit (st : Nat) (u : SUnit) : (s.ringUnit st u).kept = s.kept := by simp [State.ringUnit]

@[simp] theorem State.kept_setShareHost (st : Nat) (us : List SUnit) : (s.setShareHost st us).kept = s.kept := rfl

@[simp] theorem State.kept_ringMove (st fuel : Nat) : (State.ringMove st fuel s).kept = s.kept := by
  induction fuel generalizing s with
  | zero => rfl
  | succ fuel ih =>
    simp only [State.ringMove]
    split
    · simp
    · simp [ih]

@[simp] theorem State.kept_serveRing (st : Nat) : (s.serveRing st).kept = s.kept := State.kept_ringMove s st _

@[simp] theorem State.kept_serveRings : s.serveRings.kept = s.kept := by simp [State.serveRings]

/-! ## The field network (11) -/

@[simp] theorem State.kept_modNode (k : Nat) (f : Node → Node) : (s.modNode k f).kept = s.kept := rfl

@[simp] theorem State.kept_emitFrame (port : Nat) (f : Frame) : (s.emitFrame port f).kept = s.kept := by
  simp only [State.emitFrame]
  repeat' split
  all_goals simp

@[simp] theorem State.kept_queueFrame (port : Nat) (f : Frame) : (s.queueFrame port f).kept = s.kept := by
  simp [State.queueFrame]

@[simp] theorem State.kept_sendNode (k cls msg cmdId : Nat) (launch : Option Nat) (body : List Byte) :
    (s.sendNode k cls msg cmdId launch body).kept = s.kept := by
  simp [State.sendNode]

@[simp] theorem State.kept_newCmd (k rev code deadline piece : Nat) :
    (s.newCmd k rev code deadline piece).2.kept = s.kept := rfl

@[simp] theorem State.kept_sendImmediate (k cls code : Nat) (param : List Byte) :
    (s.sendImmediate k cls code param).kept = s.kept := by
  simp [State.sendImmediate]

@[simp] theorem State.kept_setNode (k st : Nat) : (s.setNode k st).kept = s.kept := by simp [State.setNode]

@[simp] theorem State.kept_discardNode (k : Nat) : (s.discardNode k).kept = s.kept := rfl

@[simp] theorem State.kept_nodeSettle (k : Nat) : (s.nodeSettle k).kept = s.kept := by simp [State.nodeSettle]

@[simp] theorem State.kept_rearmCmd (m : MarkCmd) : (s.rearmCmd m).kept = s.kept := by simp [State.rearmCmd]

@[simp] theorem State.kept_putMark (m : MarkCmd) : (s.putMark m).kept = s.kept := rfl

@[simp] theorem State.kept_dropMark (m : MarkCmd) : (s.dropMark m).kept = s.kept := rfl

@[simp] theorem State.kept_loseMark (m : MarkCmd) : (s.loseMark m).kept = s.kept := by simp [State.loseMark]

@[simp] theorem State.kept_launchLate (m : MarkCmd) : (s.launchLate m).kept = s.kept := by simp [State.launchLate]

@[simp] theorem State.kept_predictMark (m : MarkCmd) : (s.predictMark m).kept = s.kept := by
  simp only [State.predictMark]
  repeat' split
  all_goals simp

@[simp] theorem State.kept_newMark (cls recSeq lineMin lineExt centOfs : Nat) :
    (s.newMark cls recSeq lineMin lineExt centOfs).kept = s.kept := by
  simp [State.newMark]

@[simp] theorem State.kept_requestMark (r : MarkRequest) : (s.requestMark r).kept = s.kept := by simp [State.requestMark]

@[simp] theorem State.kept_stopNodes : s.stopNodes.kept = s.kept := by
  simp only [State.stopNodes]
  refine (State.kept_foldl _ _ fun s k => by simp).trans ((State.kept_setNet _ _).trans
    ((State.kept_foldl _ _ fun s m => ?_).trans (State.kept_foldl s _ fun s f => ?_)))
  · rfl
  · split <;> rfl

/-! ## Delivery to the host (09) -/

@[simp] theorem State.kept_setArrivals (k : Nat) (us : List SUnit) : (s.setArrivals k us).kept = s.kept := rfl

@[simp] theorem State.kept_setBatch (emitter : Bool) (b : Batch) : (s.setBatch emitter b).kept = s.kept := rfl

@[simp] theorem State.kept_toField (emitter : Bool) (bytes : List Byte) : (s.toField emitter bytes).kept = s.kept := by
  simp [State.toField]

@[simp] theorem State.kept_putUnit (st strip : Nat) (bytes : List Byte) : (s.putUnit st strip bytes).kept = s.kept := by
  simp [State.putUnit]

/-! ## Records (07, 09) -/

@[simp] theorem State.kept_requestChip (r : List Byte) (base close avail : Nat) :
    (s.requestChip r base close avail).kept = s.kept := by
  simp [State.requestChip]

@[simp] theorem State.kept_settleQueue : s.settleQueue.kept = s.kept := rfl

@[simp] theorem State.kept_settlePeak : s.settlePeak.kept = s.kept := by simp [State.settlePeak]

@[simp] theorem State.kept_leave (r : StreamRecord) (k : Nat) : (s.leave r k).kept = s.kept := by
  simp only [State.leave]
  cases r.dated <;> simp

@[simp] theorem State.kept_release : s.release.kept = s.kept := by simp [State.release]

@[simp] theorem State.kept_releaseAll (k : Nat) : (s.releaseAll k).kept = s.kept := by simp [State.releaseAll]

@[simp] theorem State.kept_putRecord (r : StreamRecord) : (s.putRecord r).kept = s.kept := by simp [State.putRecord]

@[simp] theorem State.kept_mapPieces (f : Piece → Piece) : (s.mapPieces f).kept = s.kept := rfl

@[simp] theorem State.kept_modPiece (id : Nat) (f : Piece → Piece) : (s.modPiece id f).kept = s.kept := by
  simp [State.modPiece]

@[simp] theorem State.kept_settlePieces : s.settlePieces.kept = s.kept := by
  simp only [State.settlePieces]
  rw [State.kept_foldl _ _ fun s p => by simp]
  simp

/-! ## Reef and pieces (07) -/

@[simp] theorem State.kept_modReef (f : Reef → Reef) : (s.modReef f).kept = s.kept := rfl

@[simp] theorem State.kept_countPiece (l close cls : Nat) (band : Bool) : (s.countPiece l close cls band).kept = s.kept := by
  simp only [State.countPiece]
  repeat' split
  all_goals simp

@[simp] theorem State.kept_spendCentroid (r : Region) : (s.spendCentroid r).kept = s.kept := by simp [State.spendCentroid]

@[simp] theorem State.kept_closeRegion (r : Region) (close : Nat) (forced : Bool) (strip : Option Nat) :
    (s.closeRegion r close forced strip).kept = s.kept := by
  simp only [State.closeRegion]
  repeat' split
  all_goals simp

@[simp] theorem State.kept_closeBand (r : Region) (close : Nat) (forced : Bool) (strip : Option Nat) :
    (s.closeBand r close forced strip).kept = s.kept := by
  simp [State.closeBand]

@[simp] theorem State.kept_forceClose (close : Nat) (gap : Bool) (strip : Option Nat) :
    (s.forceClose close gap strip).kept = s.kept := by
  simp [State.forceClose]

@[simp] theorem State.kept_putSpan (cont : Bool) (cause first count col cols ports : Nat) :
    (s.putSpan cont cause first count col cols ports).kept = s.kept := by
  simp [State.putSpan]

@[simp] theorem State.kept_flushUninspected : s.flushUninspected.kept = s.kept := by
  simp only [State.flushUninspected]
  repeat' split
  all_goals simp

@[simp] theorem State.kept_noteOpen (strip : Nat) : (s.noteOpen strip).kept = s.kept := by simp [State.noteOpen]

@[simp] theorem State.kept_clearColumns : s.clearColumns.kept = s.kept := by simp [State.clearColumns]

@[simp] theorem State.kept_loadColumns (j : Nat) (data : List Byte) : (s.loadColumns j data).kept = s.kept := by
  simp [State.loadColumns]

/-! ## Atoll (08) -/

@[simp] theorem State.kept_modAtoll (f : Atoll → Atoll) : (s.modAtoll f).kept = s.kept := rfl

@[simp] theorem State.kept_putEmitter (k : Nat) (bytes : List Byte) :
    (s.putEmitter k bytes).kept = s.kept := by simp [State.putEmitter]

@[simp] theorem State.kept_closeCell (v : State) (g : GridRun) (r c ph close strip : Nat) (named : Option Nat) (part gap cut : Bool) :
    (s.closeCell v g r c ph close strip named part gap cut).kept = s.kept := by
  simp [State.closeCell]

@[simp] theorem State.kept_closeRow (g : GridRun) (r close : Nat) (named : Option Nat) (cut : Bool) :
    (s.closeRow g r close named cut).kept = s.kept := by
  simp [State.closeRow]

@[simp] theorem State.kept_cutGrid (g : GridRun) (close : Nat) (named : Option Nat) :
    (s.cutGrid g close named).kept = s.kept := by
  simp [State.cutGrid]

/-! ## Operating points and trims (13) -/

@[simp] theorem State.kept_pmbus (cmd : Nat) (data : List Byte) : (s.pmbus cmd data).kept = s.kept := by
  simp only [State.pmbus]
  repeat' split
  all_goals simp

@[simp] theorem State.kept_noteOp : s.noteOp.kept = s.kept := by simp [State.noteOp]

@[simp] theorem State.kept_opInForce (target duration : Nat) :
    (s.opInForce target duration).kept = s.kept := by simp [State.opInForce]

@[simp] theorem State.kept_beginChange (target : Nat) : (s.beginChange target).kept = s.kept := by
  simp [State.beginChange]

@[simp] theorem State.kept_selectOp (op : Nat) : (s.selectOp op).kept = s.kept := by simp [State.selectOp]

@[simp] theorem State.kept_setTrim (op : Nat) (mv : Int) : (s.setTrim op mv).kept = s.kept := rfl

@[simp] theorem State.kept_clearTrims : s.clearTrims.kept = s.kept := State.kept_forN s 8 fun _ _ => rfl

/-! ## Ports on pipelines (03) -/

@[simp] theorem State.kept_returnPipeline (p : Nat) : (s.returnPipeline p).kept = s.kept := by simp [State.returnPipeline]

@[simp] theorem State.kept_returnPipelines : s.returnPipelines.kept = s.kept := by simp [State.returnPipelines]

/-! ## Calibration, self-test and lane references (15) -/

@[simp] theorem State.kept_modMaint (f : Maint → Maint) : (s.modMaint f).kept = s.kept := rfl

@[simp] theorem State.kept_holdBank (bank : Nat) (on : Bool) : (s.holdBank bank on).kept = s.kept := by
  simp [State.holdBank]

@[simp] theorem State.kept_nextBank : s.nextBank.kept = s.kept := by
  simp only [State.nextBank]
  repeat' split
  all_goals simp

@[simp] theorem State.kept_bankResult (bank result : Nat) : (s.bankResult bank result).kept = s.kept := by
  simp [State.bankResult]

@[simp] theorem State.kept_abortBank : s.abortBank.kept = s.kept := by
  simp only [State.abortBank]
  repeat' split
  all_goals simp

@[simp] theorem State.kept_abortCal : s.abortCal.kept = s.kept := by simp [State.abortCal]

@[simp] theorem State.kept_abortTest : s.abortTest.kept = s.kept := by
  simp only [State.abortTest]
  repeat' split
  all_goals simp

@[simp] theorem State.kept_beginSwitch (b : Bool) : (s.beginSwitch b).kept = s.kept := by simp [State.beginSwitch]

@[simp] theorem State.kept_selectLref : s.selectLref.kept = s.kept := by simp [State.selectLref]

/-! ## Time domains (11) -/

@[simp] theorem State.kept_modDomain (d : Nat) (f : Domain → Domain) : (s.modDomain d f).kept = s.kept := rfl

@[simp] theorem State.kept_modPtp (i : Nat) (f : Ptp → Ptp) : (s.modPtp i f).kept = s.kept := rfl

@[simp] theorem State.kept_stepW : s.stepW.kept = s.kept := rfl

@[simp] theorem State.kept_setSource (d : Nat) : (s.setSource d).kept = s.kept := by simp [State.setSource]

@[simp] theorem State.kept_wSelectEffect (v : Slot) : (s.wSelectEffect v).kept = s.kept := by simp [State.wSelectEffect]

@[simp] theorem State.kept_domOffsetEffect (d : Nat) (v : Slot) :
    (s.domOffsetEffect d v).kept = s.kept := by simp [State.domOffsetEffect]

@[simp] theorem State.kept_domFracEffect (d : Nat) (v : Slot) :
    (s.domFracEffect d v).kept = s.kept := by simp [State.domFracEffect]

@[simp] theorem State.kept_domRateEffect (d : Nat) (v : Slot) :
    (s.domRateEffect d v).kept = s.kept := by simp [State.domRateEffect]

@[simp] theorem State.kept_setRoles (i : Nat) : (s.setRoles i).kept = s.kept := by simp [State.setRoles]

/-! ## Values taking effect (02) -/

@[simp] theorem State.kept_keepOld (k : Nat) : (s.keepOld k).kept = s.kept :=
  State.kept_mapStrips s fun x => by split <;> rfl

@[simp] theorem State.kept_setGain (n g : Nat) : (s.setGain n g).kept = s.kept := by simp [State.setGain]

@[simp] theorem State.kept_portEffect (n sub : Nat) (changed : Bool) : (s.portEffect n sub changed).kept = s.kept := by
  simp [State.portEffect]

@[simp] theorem State.kept_fieldEffect (p sub : Nat) : (s.fieldEffect p sub).kept = s.kept := by simp [State.fieldEffect]

@[simp] theorem State.kept_ptpEffect (i sub : Nat) (changed : Bool) : (s.ptpEffect i sub changed).kept = s.kept := by
  simp [State.ptpEffect]

@[simp] theorem State.kept_hostSourceEffect (n sub : Nat) : (s.hostSourceEffect n sub).kept = s.kept := by
  simp [State.hostSourceEffect]

@[simp] theorem State.kept_attachEffect : s.attachEffect.kept = s.kept := by simp [State.attachEffect]

@[simp] theorem State.kept_invertEffect (i : Nat) : (s.invertEffect i).kept = s.kept := by simp [State.invertEffect]

@[simp] theorem State.kept_gateEffect : s.gateEffect.kept = s.kept := by simp [State.gateEffect]

@[simp] theorem State.kept_takeEffect (k : Nat) (old : Slot) : (s.takeEffect k old).kept = s.kept := by
  simp [State.takeEffect]

@[simp] theorem State.kept_delaysChanged (n : Nat) : (s.delaysChanged n).kept = s.kept := by simp [State.delaysChanged]

@[simp] theorem State.kept_beforeBlob (k : Nat) (b : List Byte) : (s.beforeBlob k b).kept = s.kept := by
  simp [State.beforeBlob]

@[simp] theorem State.kept_takeBlob (k : Nat) (changed : Bool) : (s.takeBlob k changed).kept = s.kept := by
  simp [State.takeBlob]

@[simp] theorem State.kept_putBlob (k : Nat) (b : List Byte) : (s.putBlob k b).kept = s.kept := by simp [State.putBlob]

@[simp] theorem State.kept_putVal (k : Nat) (v : Slot) : (s.putVal k v).kept = s.kept := by simp [State.putVal]

@[simp] theorem State.kept_keepOldBlob (k : Nat) : (s.keepOldBlob k).kept = s.kept :=
  State.kept_mapStrips s fun x => by split <;> rfl

@[simp] theorem State.kept_applyPending : s.applyPending.kept = s.kept := by simp [State.applyPending]

/-! ## The end of a strip (03) -/

@[simp] theorem State.kept_gainsOf (x : Strip) : (s.gainsOf x).kept = s.kept := by
  simp only [State.gainsOf]
  split
  · exact (State.kept_setCause _ _).trans (State.kept_modStrip s _ fun _ => rfl)
  · exact State.kept_modStrip s _ fun _ => rfl

@[simp] theorem State.kept_settleGains : s.settleGains.kept = s.kept := by
  refine State.kept_foldl s _ fun s x => ?_
  cases x.lineEnd <;> simp

@[simp] theorem State.kept_putFrame (type port k : Nat) (body : List Byte) : (s.putFrame type port k body).kept = s.kept := by
  simp [State.putFrame]

@[simp] theorem State.kept_putFocus (v : State) (k : Nat) : (s.putFocus v k).kept = s.kept := by simp [State.putFocus]

@[simp] theorem State.kept_putStats (k flags : Nat) : (s.putStats k flags).kept = s.kept := by
  simp only [State.putStats]
  repeat' split
  all_goals simp

@[simp] theorem State.standing_dropStrip (k : Nat) : (s.dropStrip k).kept.toStanding = s.kept.toStanding := by
  simp [State.dropStrip]

@[simp] theorem State.standing_summarise (x : Strip) (cut : Bool) :
    (s.summarise x cut).kept.toStanding = s.kept.toStanding := by
  simp only [State.summarise]
  repeat' split
  all_goals simp

/-! ## Saving and restoring (02) -/

@[simp] theorem State.kept_clearBlob (k : Nat) : (s.clearBlob k).kept = s.kept := by simp [State.clearBlob]

@[simp] theorem State.kept_defaults : s.defaults.kept = s.kept := by simp [State.defaults]

@[simp] theorem State.kept_restoreEntry (e : SavedEntry) : (s.restoreEntry e).kept = s.kept := by
  simp only [State.restoreEntry]
  repeat' split
  all_goals simp

@[simp] theorem State.kept_restoreImage (i : Image) : (s.restoreImage i).kept = s.kept := by simp [State.restoreImage]

@[simp] theorem State.kept_clearCorr : s.clearCorr.kept = s.kept := by simp [State.clearCorr]

@[simp] theorem State.kept_restoreDefaults : s.restoreDefaults.kept = s.kept := by simp [State.restoreDefaults]

@[simp] theorem State.kept_restoreNewest : s.restoreNewest.kept = s.kept := by
  simp only [State.restoreNewest]
  repeat' split
  all_goals simp

/-! ## The life cycle (01) -/

@[simp] theorem State.kept_emptyPort (n : Nat) : (s.emptyPort n).kept = s.kept := by simp [State.emptyPort]

@[simp] theorem State.kept_restoreInit : s.restoreInit.kept = s.kept := by simp [State.restoreInit]

@[simp] theorem State.kept_closeRun (k : Nat) : (s.closeRun k).kept = s.kept := by simp [State.closeRun]

@[simp] theorem State.kept_stopOutputs : s.stopOutputs.kept = s.kept := by simp [State.stopOutputs]

@[simp] theorem State.kept_stopPath : s.stopPath.kept = s.kept := rfl

@[simp] theorem State.kept_discardStaged : s.discardStaged.kept = s.kept := by simp [State.discardStaged]

@[simp] theorem State.kept_cutForming : s.cutForming.kept = s.kept :=
  State.kept_mapStrips s.stepFree fun x => by cases x.lineEnd <;> rfl

@[simp] theorem State.standing_cutStrips : s.cutStrips.kept.toStanding = s.kept.toStanding := by
  simp only [State.cutStrips]
  cases s.sched.strips.getLast? with
  | none => rfl
  | some last =>
    dsimp only
    rw [State.standing_foldl _ _ fun s x => by simp]
    simp

@[simp] theorem State.standing_cutRun : s.cutRun.kept.toStanding = s.kept.toStanding := by simp [State.cutRun]

@[simp] theorem State.kept_latchFault (cause : Nat) : (s.latchFault cause).kept = s.kept := by simp [State.latchFault]

@[simp] theorem State.kept_abortRecorder : s.abortRecorder.kept = s.kept := rfl

end Sys2Proof.Machine
end

section
/-! PROOFS. The transitions between device states: what each leaves of the life cycle, the pins, MRAM and the strips. -/

namespace Sys2Proof.Machine

open Sys2Proof

variable (s : State)

/-! ## What follows from what stands -/

/-- The fields of a state by what stands in it. -/
theorem State.fields_of_standing {s : State} {k : Standing} (h : s.kept.toStanding = k) :
    s.life = k.life ∧ s.pins = k.pins ∧ s.mram = k.mram ∧ s.g6 = k.g6 ∧ s.logs.stopped = k.stopped := by
  subst h
  exact ⟨rfl, rfl, rfl, rfl, rfl⟩

/-- What stands in t as in s is equal in them. -/
theorem State.same_of_standing {s t : State} (h : t.kept.toStanding = s.kept.toStanding) :
    t.life = s.life ∧ t.pins = s.pins ∧ t.mram = s.mram ∧ t.g6 = s.g6 ∧ t.logs.stopped = s.logs.stopped :=
  State.fields_of_standing h

theorem State.strips_of_kept {s : State} {k : Kept} (h : s.kept = k) : s.sched.strips.map (·.index) = k.strips := by
  subst h
  rfl

theorem State.inRun_of_life {s t : State} (h : t.life = s.life) : t.inRun = s.inRun := by
  simp only [State.inRun, h]

@[simp] theorem State.kept_modLife (f : Life → Life) : (s.modLife f).kept = { s.kept with life := f s.life } := rfl

@[simp] theorem State.kept_modPins (f : Pins → Pins) : (s.modPins f).kept = { s.kept with pins := f s.pins } := rfl

/-! ## A state entered (01 R24) -/

/-- The life cycle as state d is entered. -/
def Life.entered (l : Life) (d : DevState) : Life := { l with state := d, draining := false, readyRequested := false }

/-- The pins as a state is left: FAULT and SAFE release theirs. -/
def Pins.leaving (p : Pins) (prev : DevState) : Pins :=
  { p with faultN := p.faultN || prev = .fault, thermN := p.thermN || prev = .safe }

theorem State.kept_enter (d : DevState) :
    (s.enter d).kept = { s.kept with life := s.life.entered d, pins := s.pins.leaving s.life.state } := by
  simp [State.enter, Life.entered, Pins.leaving]

/-- The end of RUN leaves no strip. -/
theorem State.kept_endRun : s.endRun.kept = { s.kept with strips := [] } := by
  have hempty : (s.forN s.portCount State.emptyPort).kept = s.kept := by simp
  simp only [State.endRun, State.kept_returnPipelines, State.kept_ite, State.kept_applyPending, ite_self]
  rw [← hempty]
  rfl

theorem State.kept_leaveFor (d : DevState) :
    (s.leaveFor d).kept = { s.kept with
      life := s.life.entered d, pins := s.pins.leaving s.life.state, strips := if s.inRun then [] else s.kept.strips } := by
  simp only [State.leaveFor]
  split
  · rw [State.kept_endRun, State.kept_enter]
  · rw [State.kept_enter]

/-! ## READY and the end of a drain (01 R28) -/

theorem State.kept_raiseRollback : ∃ m, s.raiseRollback.kept = { s.kept with mram := m } := by
  simp only [State.raiseRollback]
  split
  · exact ⟨_, rfl⟩
  · rw [State.kept_stage]
    exact ⟨_, rfl⟩

/-- READY is left by `leaveFor`, and MRAM by the anti-rollback counter. -/
theorem State.kept_enterReady : ∃ m, s.enterReady.kept = { (s.leaveFor .ready).kept with mram := m } := by
  obtain ⟨m, hm⟩ := State.kept_raiseRollback
    ({ s.leaveFor .ready with harbour := { (s.leaveFor .ready).harbour with fwRecovery := false } } : State).restartCompares
  refine ⟨m, ?_⟩
  rw [State.kept_restartCompares] at hm
  exact (State.kept_selectOp _ _).trans hm

theorem State.inRun_of_drainedStrip {x : Strip} (h : s.drainedStrip = some x) : s.inRun = true := by
  simp only [State.drainedStrip] at h
  split at h
  · split at h
    · simp_all
    · cases h
  · cases h

/-- READY entered from RUN. -/
theorem State.enterReady_ends_run (h : s.inRun = true) :
    s.enterReady.life.state = .ready ∧ s.enterReady.life.draining = false ∧ s.enterReady.sched.strips = []
    ∧ s.enterReady.g6 = s.g6 := by
  obtain ⟨m, ht⟩ := s.kept_enterReady
  rw [State.kept_leaveFor, h] at ht
  obtain ⟨hlife, -, -, hg6, -⟩ := State.fields_of_standing (congrArg Kept.toStanding ht)
  refine ⟨?_, ?_, List.map_eq_nil_iff.1 (State.strips_of_kept ht), hg6⟩
  · rw [hlife]; rfl
  · rw [hlife]; rfl

/-- RUN_DRAIN_COMPLETE with the last strip's work done. -/
theorem execRunDrainComplete_drained {x : Strip} (h : s.drainedStrip = some x) :
    ∃ t, exec .runDrainComplete s = .next t
      ∧ t.life.state = .ready ∧ t.life.draining = false ∧ t.sched.strips = [] ∧ t.g6 = s.g6 := by
  have hu : (((s.settleGains.closeRun x.index).summarise ((s.settleGains.closeRun x.index).strip x.index) false)).kept.toStanding
      = s.kept.toStanding := by
    rw [State.standing_summarise, State.kept_closeRun, State.kept_settleGains]
  obtain ⟨hlife, -, -, hg6, -⟩ := State.same_of_standing hu
  have hrun := (State.inRun_of_life hlife).trans (State.inRun_of_drainedStrip s h)
  obtain ⟨hstate, hdrain, hstrips, ht⟩ := State.enterReady_ends_run _ hrun
  exact ⟨_, by simp only [exec, execRunDrainComplete, h], hstate, hdrain, hstrips, ht.trans hg6⟩

/-! ## FAULT (01 R24; 15 R454) -/

theorem State.life_ensureServed : s.ensureServed.life
    = { s.life with dictServed := s.ensureServed.life.dictServed, trigReset := s.ensureServed.life.trigReset } := by
  have h : s.restoreInit.life = s.life := (State.same_of_standing (by rw [State.kept_restoreInit])).1
  simp only [State.ensureServed]
  split
  · simp only [State.serve, State.modLife, h]
  · rfl

theorem State.kept_ensureServed : s.ensureServed.kept = { s.kept with life := s.ensureServed.life } := by
  simp only [State.ensureServed]
  split
  · rw [State.serve, State.kept_modLife, State.kept_restoreInit]
    rfl
  · rfl

/-- The run cut short where there was one, and the cause latched, before FAULT is entered. -/
def State.faultLatched (cause : Nat) : State :=
  let t := s.ensureServed.latchFault cause
  if s.inRun then t.cutRun else t

theorem State.standing_faultLatched (cause : Nat) :
    (s.faultLatched cause).kept.toStanding = { s.kept.toStanding with life := s.ensureServed.life } := by
  simp only [State.faultLatched, State.kept_ite, Kept.toStanding_ite, State.standing_cutRun, State.kept_latchFault, ite_self,
    State.kept_ensureServed]

/-- FAULT noted in the life cycle and at Harbour. -/
def State.faultNoted (cause : Nat) (rec : Bool) : State :=
  let t := (s.faultLatched cause).modLife fun l => { l with faultFromRun := s.inRun, recoverable := rec, resumePending := false }
  { t with harbour := { t.harbour with fwRecovery := true } }

/-- FAULT entered: the state left, the pin driven, what acts stopped, the cause recorded. -/
def State.faultShown (unit detail : Nat) : State :=
  (((s.leaveFor .fault).modPins fun p => { p with faultN := false }).stopOutputs.stopPath.trouble 0x00A0 unit 3 detail).startFlush

theorem State.enterFault_outside (cause unit : Nat) (rec : Bool) (h : s.life.state ∉ [DevState.init, .ready, .run]) :
    s.enterFault cause unit rec = s := by
  simp_all [State.enterFault]

theorem State.enterFault_inside (cause unit : Nat) (rec : Bool) (h : s.life.state ∈ [DevState.init, .ready, .run]) :
    s.enterFault cause unit rec
      = (s.faultNoted cause rec).faultShown unit (cause + s.ensureServed.net.marks.length * pow2 32) := by
  have hstate : ¬(s.life.state ≠ .init && s.life.state ≠ .ready && s.life.state ≠ .run) = true := by
    simp only [List.mem_cons, List.not_mem_nil, or_false] at h
    rcases h with h | h | h <;> simp [h]
  exact if_neg hstate

theorem State.standing_faultNoted (cause : Nat) (rec : Bool) :
    (s.faultNoted cause rec).kept.toStanding = { s.kept.toStanding with
      life := { s.ensureServed.life with faultFromRun := s.inRun, recoverable := rec, resumePending := false } } := by
  obtain ⟨hlife, -⟩ := State.fields_of_standing (s.standing_faultLatched cause)
  have h : (s.faultNoted cause rec).kept.toStanding = { (s.faultLatched cause).kept.toStanding with
      life := { (s.faultLatched cause).life with faultFromRun := s.inRun, recoverable := rec, resumePending := false } } := rfl
  rw [h, State.standing_faultLatched, hlife]

theorem State.kept_faultShown (unit detail : Nat) : (s.faultShown unit detail).kept = { (s.leaveFor .fault).kept with
    pins := { (s.leaveFor .fault).pins with faultN := false } } := by
  simp only [State.faultShown, State.kept_startFlush, State.kept_trouble, State.kept_stopPath, State.kept_stopOutputs,
    State.kept_modPins]

/-- What stands as FAULT is entered: the life cycle, and FAULT_N low. -/
theorem State.enterFault_entered (cause unit : Nat) (rec : Bool) (h : s.life.state ∈ [DevState.init, .ready, .run]) :
    (s.enterFault cause unit rec).life
      = { s.ensureServed.life with faultFromRun := s.inRun, recoverable := rec, resumePending := false }.entered .fault
    ∧ (s.enterFault cause unit rec).pins.faultN = false ∧ (s.enterFault cause unit rec).mram = s.mram := by
  obtain ⟨hnoted, -, hnmram, -⟩ := State.fields_of_standing (s.standing_faultNoted cause rec)
  have hshown := congrArg Kept.toStanding ((s.faultNoted cause rec).kept_faultShown unit
    (cause + s.ensureServed.net.marks.length * pow2 32))
  rw [State.kept_leaveFor] at hshown
  obtain ⟨hlife, hpins, hmram, -⟩ := State.fields_of_standing hshown
  rw [s.enterFault_inside cause unit rec h]
  refine ⟨hlife.trans ?_, ?_, hmram.trans hnmram⟩
  · exact congrArg (·.entered .fault) hnoted
  · rw [hpins]

/-- FAULT as the statement has it: the recovery noted, the lost device as before. -/
theorem State.enterFault_faulted (cause unit : Nat) (rec : Bool) (h : s.life.state ∈ [DevState.init, .ready, .run]) :
    let t := s.enterFault cause unit rec
    t.life.state = .fault ∧ t.pins.faultN = false ∧ t.life.faultFromRun = s.inRun ∧ t.life.resumePending = false
    ∧ t.life.recoverable = rec ∧ t.life.lostDevice = s.life.lostDevice ∧ t.mram = s.mram := by
  obtain ⟨hlife, hpin, hmram⟩ := s.enterFault_entered cause unit rec h
  have hlost : s.ensureServed.life.lostDevice = s.life.lostDevice := by rw [State.life_ensureServed]
  intro t
  refine ⟨?_, hpin, ?_, ?_, ?_, ?_, hmram⟩
  · rw [hlife]; rfl
  · rw [hlife]; rfl
  · rw [hlife]; rfl
  · rw [hlife]; rfl
  · rw [hlife]; exact hlost

/-- A device lost is noted in the life cycle (12 R366). -/
theorem State.kept_loseDevice (j cause : Nat) :
    (s.loseDevice j cause).kept = { s.kept with life := { s.life with lostDevice := some j } } := by
  simp only [State.loseDevice, State.kept_trouble, State.kept_raiseHm]
  rfl

/-- FAULT for a lost device can be recovered from (12 R366, R367). -/
theorem State.deviceLost_faulted (j : Nat) (h : s.life.state ∈ [DevState.init, .ready, .run]) :
    let t := s.deviceLost j
    t.life.state = .fault ∧ t.pins.faultN = false ∧ t.life.faultFromRun = s.inRun ∧ t.life.resumePending = false
    ∧ t.life.recoverable = true ∧ t.life.lostDevice = some j ∧ t.mram = s.mram := by
  obtain ⟨hlife, -, hmram, -⟩ := State.fields_of_standing
    (congrArg Kept.toStanding (s.stepFree.kept_loseDevice j (s.free % 256)))
  have hstate : (s.stepFree.loseDevice j (s.free % 256)).life.state = s.life.state := by rw [hlife]; rfl
  have hrun : (s.stepFree.loseDevice j (s.free % 256)).inRun = s.inRun := by simp only [State.inRun, hstate]
  obtain ⟨hf, hpin, hfrom, hresume, hrec, hlost, hm⟩ := State.enterFault_faulted
    (s.stepFree.loseDevice j (s.free % 256)) 0x0031 j true (hstate ▸ h)
  refine ⟨hf, hpin, hfrom.trans hrun, hresume, hrec, hlost.trans ?_, hm.trans hmram⟩
  rw [hlife]

/-- FAULT_ENTRY outside INIT, READY and RUN. -/
theorem execFaultEntry_outside (cause unit : BitVec 16) (h : s.life.state ∉ [DevState.init, .ready, .run]) :
    exec (.faultEntry cause unit) s = .next s := by
  simp only [exec, execFaultEntry, s.enterFault_outside _ _ _ h]
  simp_all

/-- FAULT_ENTRY for a device of GDDR6. -/
theorem execFaultEntry_device (unit : BitVec 16) (hunit : unit.toNat < 12) (h : s.life.state ∈ [DevState.init, .ready, .run]) :
    exec (.faultEntry 0x31 unit) s = .next (s.deviceLost unit.toNat) := by
  simp_all [exec, execFaultEntry, or_assoc]

/-- FAULT_ENTRY for any other cause. -/
theorem execFaultEntry_other {cause unit : BitVec 16} (h : ¬(cause = 0x31 ∧ unit.toNat < 12)) :
    exec (.faultEntry cause unit) s = .next (s.enterFault cause.toNat unit.toNat false) := by
  simp only [exec, execFaultEntry, Bool.and_eq_true, decide_eq_true_eq, h, if_false]

/-- FAULT_ENTRY in INIT, READY or RUN. -/
theorem execFaultEntry_inside (cause unit : BitVec 16) (h : s.life.state ∈ [DevState.init, .ready, .run]) :
    ∃ t, exec (.faultEntry cause unit) s = .next t
      ∧ t.life.state = .fault ∧ t.pins.faultN = false ∧ t.life.faultFromRun = s.inRun ∧ t.life.resumePending = false
      ∧ (cause = 0x31 → unit.toNat < 12 → t.life.recoverable = true ∧ t.life.lostDevice = some unit.toNat)
      ∧ (cause ≠ 0x31 → t.life.recoverable = false ∧ t.life.lostDevice = s.life.lostDevice)
      ∧ t.mram = s.mram := by
  by_cases hdev : cause = 0x31 ∧ unit.toNat < 12
  · obtain ⟨rfl, hunit⟩ := hdev
    obtain ⟨hf, hpin, hfrom, hresume, hrec, hlost, hm⟩ := s.deviceLost_faulted unit.toNat h
    exact ⟨_, execFaultEntry_device s unit hunit h, hf, hpin, hfrom, hresume, fun _ _ => ⟨hrec, hlost⟩,
      fun hne => absurd rfl hne, hm⟩
  · obtain ⟨hf, hpin, hfrom, hresume, hrec, hlost, hm⟩ := s.enterFault_faulted cause.toNat unit.toNat false h
    exact ⟨_, execFaultEntry_other s hdev, hf, hpin, hfrom, hresume,
      fun hc hu => absurd ⟨hc, hu⟩ hdev, fun _ => ⟨hrec, hlost⟩, hm⟩

/-! ## Automatic resumption (12 R367) -/

/-- INIT begun: the lost device forgotten, the resumption noted. -/
theorem State.kept_beginInit (resume : Bool) : (s.beginInit resume).kept = { s.kept with
    life := { s.life with resumePending := resume, recoverable := false, lostDevice := none, initStart := s.now }.entered .init
    pins := s.pins.leaving s.life.state } := by
  rw [State.beginInit, State.kept_enter]
  rfl

/-- No counter of a field port stands in the block of the external memory. -/
theorem Key.g6ExcludeMask_ne_fldQueueDrops (port : Nat) : Key.g6ExcludeMask ≠ Key.fldQueueDrops port := by
  simp only [Key.g6ExcludeMask, Key.fldQueueDrops, key]
  omega

theorem State.exclude_notifySessions (b code : Nat) (data : List Byte) :
    (s.notifySessions b code data).num Key.g6ExcludeMask = s.num Key.g6ExcludeMask := by
  have hsend : ∀ (s : State) i body, (s.sendSession i 3 0x30 body).num Key.g6ExcludeMask = s.num Key.g6ExcludeMask := by
    intro s i body
    simp only [State.sendSession]
    split
    · rfl
    · simp only [State.sendField]
      split
      · rfl
      · split
        · rfl
        · exact State.num_add_other _ 1 (Key.g6ExcludeMask_ne_fldQueueDrops _)
  refine State.forN_keeps s (·.num Key.g6ExcludeMask) 16 fun s i => ?_
  split
  · exact hsend _ _ _
  · rfl

theorem State.exclude_startFlush : s.startFlush.num Key.g6ExcludeMask = s.num Key.g6ExcludeMask := by
  simp only [State.startFlush]
  split
  · rfl
  · split
    · rfl
    · exact State.num_add_other _ 1 (by decide)

theorem State.exclude_stageRecord (r : RecRecord) : (s.stageRecord r).num Key.g6ExcludeMask = s.num Key.g6ExcludeMask := by
  simp only [State.stageRecord]
  split
  · exact State.num_add_other _ 1 (by decide)
  · split
    · exact State.num_add_other _ 1 (by decide)
    · split
      · exact State.exclude_startFlush _
      · rfl

theorem State.exclude_stage (code unit detail : Nat) :
    (s.stage code unit detail).num Key.g6ExcludeMask = s.num Key.g6ExcludeMask := by
  simp only [State.stage]
  split
  · rfl
  · exact State.exclude_stageRecord _ _

theorem State.exclude_journalStrip (src target : Nat) (value : Slot) (result : Nat) (strip : Option Nat) :
    (s.journalStrip src target value result strip).num Key.g6ExcludeMask = s.num Key.g6ExcludeMask := by
  simp only [State.journalStrip]
  split <;> rfl

theorem State.exclude_journalEvent (target value : Nat) :
    (s.journalEvent target value).num Key.g6ExcludeMask = s.num Key.g6ExcludeMask :=
  State.exclude_journalStrip ..

theorem State.exclude_raiseHm (n : Nat) : (s.raiseHm n).num Key.g6ExcludeMask = s.num Key.g6ExcludeMask := rfl

theorem State.exclude_runSubState (n : Nat) : (s.setNum Key.runSubState n).num Key.g6ExcludeMask = s.num Key.g6ExcludeMask :=
  State.num_setNum_other s n (by decide)

/-- Entering a state leaves the excluded devices as they are. -/
theorem State.exclude_enter (d : DevState) : (s.enter d).num Key.g6ExcludeMask = s.num Key.g6ExcludeMask := by
  simp only [State.enter, State.exclude_notifySessions, State.exclude_raiseHm, apply_ite (State.num · Key.g6ExcludeMask),
    State.exclude_stage, ite_self, State.exclude_journalEvent, State.exclude_runSubState]
  rfl

theorem State.exclude_beginInit (resume : Bool) : (s.beginInit resume).num Key.g6ExcludeMask = s.num Key.g6ExcludeMask :=
  State.exclude_enter _ _

/-- A number put in effect reads back by its low 64 bits. -/
theorem State.num_setNum (k n : Nat) : (s.setNum k n).num k = n % 2 ^ 64 := by
  rw [State.num, State.setNum, State.val_setVal_same]
  exact BitVec.toNat_ofNat n 64

/-- The exclusion of a lost device put in effect. -/
def State.excluded (mask : Nat) : State :=
  (s.journalStrip 0 Key.g6ExcludeMask (BitVec.ofNat 64 mask) 0 none).setNum Key.g6ExcludeMask mask

theorem State.excludeLost_room {j : Nat} (hj : s.life.lostDevice = some j)
    (h : 22 ≤ (activeChannels (setBit (s.num Key.g6ExcludeMask) j true)).length) :
    s.excludeLost = (s.excluded (setBit (s.num Key.g6ExcludeMask) j true), true) := by
  simp only [State.excludeLost, hj, Nat.not_lt.2 h, if_false, State.excluded]

theorem State.kept_excluded (mask : Nat) : (s.excluded mask).kept = s.kept := by
  simp only [State.excluded, State.kept_setNum, State.kept_journalStrip]

theorem State.resumeWaits_fault (h : s.resumeWaits = true) : s.life.state = .fault := by
  simp only [State.resumeWaits, Bool.and_eq_true, decide_eq_true_eq] at h
  exact h.1.1.1

/-- AUTO_RESUME with channels enough: INIT begins with the device excluded. -/
theorem execAutoResume_resumes {j : Nat} (hw : s.resumeWaits = true) (hj : s.life.lostDevice = some j)
    (h : 22 ≤ (activeChannels (setBit (s.num Key.g6ExcludeMask) j true)).length) :
    ∃ t, exec .autoResume s = .next t
      ∧ t.life.state = .init ∧ t.life.resumePending = s.life.faultFromRun ∧ t.life.lostDevice = none
      ∧ t.num Key.g6ExcludeMask = setBit (s.num Key.g6ExcludeMask) j true % 2 ^ 64 ∧ t.pins.faultN = true := by
  have hfault := s.resumeWaits_fault hw
  obtain ⟨hlife, hpins, -⟩ := State.same_of_standing (congrArg Kept.toStanding
    (s.kept_excluded (setBit (s.num Key.g6ExcludeMask) j true)))
  obtain ⟨hinit, hleft, -⟩ := State.fields_of_standing (congrArg Kept.toStanding
    ((s.excluded (setBit (s.num Key.g6ExcludeMask) j true)).kept_beginInit s.life.faultFromRun))
  refine ⟨(s.excluded (setBit (s.num Key.g6ExcludeMask) j true)).beginInit s.life.faultFromRun, ?_, ?_, ?_, ?_, ?_, ?_⟩
  · simp only [exec, execAutoResume, hw, if_true, State.reinit, hfault, s.excludeLost_room hj h]
  · rw [hinit]; rfl
  · rw [hinit]; rfl
  · rw [hinit]; rfl
  · rw [State.exclude_beginInit]
    exact State.num_setNum _ _ _
  · rw [hleft, hlife, hfault]
    simp [Pins.leaving]

/-! ## Power failure (15 R448) -/

/-- What stands as SAFE is entered. -/
theorem State.standing_enterSafe : s.enterSafe.kept.toStanding = { s.kept.toStanding with
    life := { s.ensureServed.life with resumePending := false, faultFromRun := false, recoverable := false }.entered .safe
    pins := s.pins.leaving s.ensureServed.life.state } := by
  obtain ⟨-, hpins, -⟩ := State.fields_of_standing (congrArg Kept.toStanding s.kept_ensureServed)
  simp only [State.enterSafe, State.kept_stopPath, State.kept_stopOutputs, State.kept_leaveFor, State.kept_modLife,
    State.kept_ensureServed]
  simp only [State.modLife, hpins]
  rfl

theorem State.kept_endSave_failed : (s.endSave false).kept = s.kept := by
  simp only [State.endSave]
  split
  · rfl
  · simp

theorem State.kept_stopLanes :
    s.stopLanes.kept = { s.kept with life := { s.life with lanesStopped := true, g6Stopped := true } } := by
  have h : (s.forN s.portCount State.portOff).kept = s.kept := by simp
  obtain ⟨hlife, -⟩ := State.same_of_standing (congrArg Kept.toStanding h)
  rw [State.stopLanes, State.kept_modLife, h, hlife]

/-- PFAIL_N low, and the power failure counted. -/
def State.pfailNoted : State :=
  { s with mram := { s.mram with pfails := s.mram.pfails + 1 } }.modPins fun p => { p with pfailN := false }

/-- SAFE, entered or kept. -/
def State.madeSafe : State := if s.life.state = .safe then s.stopOutputs else s.enterSafe

/-- What power failure stops, and its cause recorded. -/
def State.pfailStopped (prev : Nat) : State :=
  (((s.endSave false).abortCal).abortTest.abortRecorder).stopLanes.trouble 0x0072 noUnit 3 prev

/-- The recorder's flush of a power failure. -/
def State.pfailFlushed : State :=
  if s.logs.flushing.isSome then s
  else
    let t := s.stage 0x0102 noUnit (s.logs.staged.length + 1)
    { t with logs := { t.logs with pfailFlush := true } }.startFlush

theorem State.acceptPfail_eq : s.acceptPfail = (s.pfailNoted.madeSafe.pfailStopped s.life.state.code).pfailFlushed := rfl

theorem State.life_madeSafe : s.madeSafe.life.state = .safe := by
  simp only [State.madeSafe]
  split
  next h =>
    obtain ⟨hlife, -⟩ := State.same_of_standing (congrArg Kept.toStanding s.kept_stopOutputs)
    rw [hlife, h]
  next h =>
    obtain ⟨hlife, -⟩ := State.fields_of_standing s.standing_enterSafe
    rw [hlife]
    rfl

/-- SAFE keeps MRAM, the memory, PFAIL_N and the recorder's stop. -/
theorem State.madeSafe_keeps : s.madeSafe.mram = s.mram ∧ s.madeSafe.g6 = s.g6 ∧ s.madeSafe.pins.pfailN = s.pins.pfailN
    ∧ s.madeSafe.logs.stopped = s.logs.stopped := by
  simp only [State.madeSafe]
  split
  · obtain ⟨-, hpins, hmram, hg6, hstop⟩ := State.same_of_standing (congrArg Kept.toStanding s.kept_stopOutputs)
    exact ⟨hmram, hg6, by rw [hpins], hstop⟩
  · obtain ⟨-, hpins, hmram, hg6, hstop⟩ := State.fields_of_standing s.standing_enterSafe
    exact ⟨hmram, hg6, by rw [hpins]; rfl, hstop⟩

theorem State.kept_pfailStopped (prev : Nat) :
    (s.pfailStopped prev).kept = { s.kept with life := { s.life with lanesStopped := true, g6Stopped := true } } := by
  have h : (((s.endSave false).abortCal).abortTest.abortRecorder).kept = s.kept := by
    simp only [State.kept_abortRecorder, State.kept_abortTest, State.kept_abortCal, State.kept_endSave_failed]
  obtain ⟨hlife, -⟩ := State.same_of_standing (congrArg Kept.toStanding h)
  rw [State.pfailStopped, State.kept_trouble, State.kept_stopLanes, h, hlife]

theorem State.kept_pfailFlushed : s.pfailFlushed.kept = s.kept := by
  simp only [State.pfailFlushed]
  split
  · rfl
  · simp

theorem State.logs_bump (k : Nat) : (s.bump k).logs = s.logs := by
  rw [State.bump, State.add_frame]

/-- A flush runs after its start, unless the recorder has stopped. -/
theorem State.startFlush_flushing (h : s.logs.stopped = false) : s.startFlush.logs.flushing.isSome = true := by
  simp only [State.startFlush, h, Bool.false_eq_true, if_false]
  split
  · assumption
  · rw [State.logs_bump]
    rfl

theorem State.pfailFlushed_flushing (h : s.logs.stopped = false) : s.pfailFlushed.logs.flushing.isSome = true := by
  have hstage : (s.stage 0x0102 noUnit (s.logs.staged.length + 1)).logs.stopped = s.logs.stopped := by
    obtain ⟨-, -, -, -, hstop⟩ := State.same_of_standing (congrArg Kept.toStanding
      (s.kept_stage 0x0102 noUnit (s.logs.staged.length + 1)))
    exact hstop
  simp only [State.pfailFlushed]
  split
  · assumption
  · exact State.startFlush_flushing _ (hstage.trans h)

/-- A power failure accepted. -/
theorem State.acceptPfail_safe :
    let t := s.acceptPfail
    t.life.state = .safe ∧ t.pins.pfailN = false ∧ t.mram.pfails = s.mram.pfails + 1
    ∧ t.life.lanesStopped = true ∧ t.life.g6Stopped = true
    ∧ (s.logs.stopped = false → t.logs.flushing.isSome = true) ∧ t.g6 = s.g6 := by
  obtain ⟨hlife, hpins, hmram, hg6, hstop⟩ := State.fields_of_standing (congrArg Kept.toStanding
    (s.pfailNoted.madeSafe.kept_pfailStopped s.life.state.code))
  obtain ⟨hlife', hpins', hmram', hg6', -⟩ := State.same_of_standing (congrArg Kept.toStanding
    (s.pfailNoted.madeSafe.pfailStopped s.life.state.code).kept_pfailFlushed)
  obtain ⟨hsmram, hsg6, hspin, hsstop⟩ := s.pfailNoted.madeSafe_keeps
  intro t
  have ht : t = (s.pfailNoted.madeSafe.pfailStopped s.life.state.code).pfailFlushed := s.acceptPfail_eq
  rw [ht]
  refine ⟨?_, ?_, ?_, ?_, ?_, fun h => ?_, hg6'.trans (hg6.trans hsg6)⟩
  · rw [hlife', hlife]; exact s.pfailNoted.life_madeSafe
  · rw [hpins', hpins]; exact hspin
  · rw [hmram', hmram]; exact congrArg (·.pfails) hsmram
  · rw [hlife', hlife]
  · rw [hlife', hlife]
  · exact State.pfailFlushed_flushing _ (hstop.trans (hsstop.trans h))

theorem execPfail_accepted (h : s.firmwareRuns = true) : exec .pfail s = .next s.acceptPfail := by
  simp only [exec, execPfail, h, if_true]

/-- Settles O12: each event by the equation of its transition and by what that transition leaves standing. -/
theorem drainsFaultsAndPowerFailure : Obligations.DrainsFaultsAndPowerFailure := by
  unfold Obligations.DrainsFaultsAndPowerFailure
  refine ⟨fun s => ⟨fun h => ?_, fun x => execRunDrainComplete_drained s⟩,
    fun cause unit s => ⟨execFaultEntry_outside s cause unit, execFaultEntry_inside s cause unit⟩,
    fun s => ⟨fun h => ?_, fun j => execAutoResume_resumes s⟩, fun s => ⟨fun h => ?_, fun h => ?_⟩⟩
  · simp only [exec, execRunDrainComplete, h]
  · simp [exec, execAutoResume, h]
  · exact ⟨s.modPins fun p => { p with pfailN := false }, by simp [exec, execPfail, h], rfl, rfl⟩
  · exact ⟨_, execPfail_accepted s h, s.acceptPfail_safe⟩

end Sys2Proof.Machine
end

section
/-! PROOFS. A world line has the planes of its strip's settings, which an old value kept for the strip changes (O25). -/

namespace Sys2Proof.Machine

open Sys2Proof

/-! ## An old value of WorldPlanes kept for a strip (02 R43; 06 R168, R196) -/

/-- RUN with port 0 in a span that ends at line 4, in a world of 64 columns and one plane; strip 0 is open and keeps the old value 4
of `WorldPlanes`. -/
def oldPlanes : State :=
  let running : State := { State.reset with life := { state := .run, dictServed := true } }
  let configured := (running.setNum Key.worldWidth 64).setNum (Key.portEnable 0) 1
  { configured.modGeo 0 fun g => { g with spans := [{ first := 0, cause := 2, stop := some 4 }] } with
    sched := { configured.sched with strips := [{ index := 0, old := [(Key.worldPlanes, 4)] }] } }

theorem oldPlanes_enabledPorts : oldPlanes.enabledPorts = [0] := by decide +kernel

theorem oldPlanes_linesEnded : oldPlanes.linesEnded = false := by decide +kernel

/-- Port 0 lets line 0 be formed, and bounds it. -/
theorem oldPlanes_port : oldPlanes.portSettled 0 0 = true ∧ oldPlanes.boundsLine 0 0 = true := by decide +kernel

/-- The world has one plane. -/
theorem oldPlanes_worldPlanes : oldPlanes.num Key.worldPlanes = 1 := by decide +kernel

/-- Line 0 of strip 0 is formed with four planes. -/
theorem oldPlanes_formed : (match exec .worldLineForm oldPlanes with
    | .next t => t.cause.formed.map (·.planes.length)
    | _ => []) = [4] := by decide +kernel

/-- Refutes O25: the statement holds of every state, one whose open strip keeps an old value of `WorldPlanes` among them; there
WORLD_LINE_FORM forms a line of the strip's four planes, and not of the one plane in effect. -/
theorem not_causewayFormsWorldLines : ¬ Obligations.CausewayFormsWorldLines := by
  unfold Obligations.CausewayFormsWorldLines
  rintro ⟨-, -, -, hform⟩
  obtain ⟨hsettled, hbounds⟩ := oldPlanes_port
  have hports : ∀ n ∈ oldPlanes.enabledPorts, oldPlanes.portSettled n 0 = true := by
    simpa [oldPlanes_enabledPorts] using hsettled
  have hbounded : ∃ n ∈ oldPlanes.enabledPorts, oldPlanes.boundsLine n 0 = true := by
    simpa [oldPlanes_enabledPorts] using hbounds
  obtain ⟨t, w, ht, -, hformed, -, -, -, hplanes, -⟩ :=
    (hform oldPlanes).1 ⟨rfl, oldPlanes_linesEnded, rfl, hports, .inl hbounded⟩
  have hnone : oldPlanes.cause.formed = [] := rfl
  have hfour := oldPlanes_formed
  rw [ht] at hfour
  simp only [hformed, hnone, List.nil_append, List.map_cons, List.map_nil, hplanes, oldPlanes_worldPlanes] at hfour
  exact absurd hfour (by decide)

end Sys2Proof.Machine
end
